-- ==== Sys2Proof/Word.lean ====
section
/-!
DEFINITION. The machine's words: 32-bit words, halfwords and bytes (00_scope.md R25, 10_state.md R77).
-/
namespace Sys2Proof

/-- A 32-bit word (00_scope.md R25). -/
abbrev Word := BitVec 32

/-- A 16-bit halfword (10_state.md R77). -/
abbrev Half := BitVec 16

/-- An 8-bit byte (10_state.md R77). -/
abbrev Byte := BitVec 8

/-- A 64-bit doubleword, the register pairs of the long multiplies (10_state.md R77). -/
abbrev DWord := BitVec 64

end Sys2Proof
end

