-- ==== Sys2Proof/Syntax.lean ====
section
/-!
DEFINITION. The instructions: one constructor for each row of spec/opcode_table.json, with every field of the row as
the row names it (a field the row calls should-be-zero or should-be-one is kept, so that no bit of a word is lost).
Constructors that begin with `t` are the 16-bit Thumb rows.
-/
namespace Sys2Proof

/-- The condition of an ARM instruction (30_encoding.md R834). The sixteenth code, 0b1111, is the unconditional space
and no condition. -/
inductive Cond where
  | eq
  | ne
  | cs
  | cc
  | mi
  | pl
  | vs
  | vc
  | hi
  | ls
  | ge
  | lt
  | gt
  | le
  | al
deriving DecidableEq, Repr

/-- The instructions of spec/opcode_table.json. -/
inductive Instr where
  /-- ARM CPS: 43_branch_status.md R1230. -/
  | cps (imod : BitVec 2) (mmod : Bool) (sbz : BitVec 7) (aBit : Bool) (iBit : Bool) (fBit : Bool) (mode : BitVec 5)
  /-- ARM SETEND: 43_branch_status.md R1231. -/
  | setend (sbz : BitVec 3) (sbz2 : BitVec 6) (eBit : Bool) (sbz3 : Bool) (sbz4 : BitVec 4)
  /-- ARM PLD (immediate offset): 44_loadstore.md R1300. -/
  | pldImm (u : Bool) (rn : BitVec 4) (imm12 : BitVec 12)
  /-- ARM PLD (register offset): 44_loadstore.md R1300. -/
  | pldReg (u : Bool) (rn : BitVec 4) (imm5 : BitVec 5) (shift : BitVec 2) (rm : BitVec 4)
  /-- ARM CLREX: 45_ldm_excl_swp.md R1399. -/
  | clrex (sbo : BitVec 4) (sbo2 : BitVec 4) (sbz : BitVec 4) (sbo3 : BitVec 4)
  /-- ARM SRS: 45_ldm_excl_swp.md R1371. -/
  | srs (p : Bool) (u : Bool) (w : Bool) (mode : BitVec 5)
  /-- ARM RFE: 45_ldm_excl_swp.md R1370. -/
  | rfe (p : Bool) (u : Bool) (w : Bool) (rn : BitVec 4)
  /-- ARM BLX (label): 43_branch_status.md R1213. -/
  | blxLabel (hBit : Bool) (imm24 : BitVec 24)
  /-- ARM MCRR2: 46_coproc_system.md R1435. -/
  | mcrr2 (rn : BitVec 4) (rd : BitVec 4) (cp : BitVec 4) (opc : BitVec 4) (crm : BitVec 4)
  /-- ARM MRRC2: 46_coproc_system.md R1435. -/
  | mrrc2 (rn : BitVec 4) (rd : BitVec 4) (cp : BitVec 4) (opc : BitVec 4) (crm : BitVec 4)
  /-- ARM UNDEFINED: 30_encoding.md R860. -/
  | undefined1 (any : Bool) (any2 : BitVec 20)
  /-- ARM STC2: 46_coproc_system.md R1435. -/
  | stc2 (p : Bool) (u : Bool) (nBit : Bool) (w : Bool) (rn : BitVec 4) (crd : BitVec 4) (cp : BitVec 4) (imm8 : BitVec 8)
  /-- ARM LDC2: 46_coproc_system.md R1435. -/
  | ldc2 (p : Bool) (u : Bool) (nBit : Bool) (w : Bool) (rn : BitVec 4) (crd : BitVec 4) (cp : BitVec 4) (imm8 : BitVec 8)
  /-- ARM CDP2: 46_coproc_system.md R1435. -/
  | cdp2 (opc1 : BitVec 4) (crn : BitVec 4) (crd : BitVec 4) (cp : BitVec 4) (opc2 : BitVec 3) (crm : BitVec 4)
  /-- ARM MCR2: 46_coproc_system.md R1435. -/
  | mcr2 (opc1 : BitVec 3) (crn : BitVec 4) (rd : BitVec 4) (cp : BitVec 4) (opc2 : BitVec 3) (crm : BitVec 4)
  /-- ARM MRC2: 46_coproc_system.md R1435. -/
  | mrc2 (opc1 : BitVec 3) (crn : BitVec 4) (rd : BitVec 4) (cp : BitVec 4) (opc2 : BitVec 3) (crm : BitVec 4)
  /-- ARM UNDEFINED: 30_encoding.md R860. -/
  | undefined2 (any : BitVec 28)
  /-- ARM MUL: 41_multiply_dsp.md R1010. -/
  | mul (cond : Cond) (s : Bool) (rd : BitVec 4) (sbz : BitVec 4) (rs : BitVec 4) (rm : BitVec 4)
  /-- ARM MLA: 41_multiply_dsp.md R1011. -/
  | mla (cond : Cond) (s : Bool) (rd : BitVec 4) (rn : BitVec 4) (rs : BitVec 4) (rm : BitVec 4)
  /-- ARM UMAAL: 41_multiply_dsp.md R1016. -/
  | umaal (cond : Cond) (rdHi : BitVec 4) (rdLo : BitVec 4) (rs : BitVec 4) (rm : BitVec 4)
  /-- ARM UNDEFINED: 30_encoding.md R860. -/
  | undefined3 (cond : Cond) (any : BitVec 12) (any2 : BitVec 4)
  /-- ARM UNDEFINED: 30_encoding.md R860. -/
  | undefined4 (cond : Cond) (any : Bool) (any2 : BitVec 12) (any3 : BitVec 4)
  /-- ARM UMULL: 41_multiply_dsp.md R1012. -/
  | umull (cond : Cond) (s : Bool) (rdHi : BitVec 4) (rdLo : BitVec 4) (rs : BitVec 4) (rm : BitVec 4)
  /-- ARM UMLAL: 41_multiply_dsp.md R1013. -/
  | umlal (cond : Cond) (s : Bool) (rdHi : BitVec 4) (rdLo : BitVec 4) (rs : BitVec 4) (rm : BitVec 4)
  /-- ARM SMULL: 41_multiply_dsp.md R1014. -/
  | smull (cond : Cond) (s : Bool) (rdHi : BitVec 4) (rdLo : BitVec 4) (rs : BitVec 4) (rm : BitVec 4)
  /-- ARM SMLAL: 41_multiply_dsp.md R1015. -/
  | smlal (cond : Cond) (s : Bool) (rdHi : BitVec 4) (rdLo : BitVec 4) (rs : BitVec 4) (rm : BitVec 4)
  /-- ARM SWP: 45_ldm_excl_swp.md R1380. -/
  | swp (cond : Cond) (rn : BitVec 4) (rd : BitVec 4) (sbz : BitVec 4) (rm : BitVec 4)
  /-- ARM SWPB: 45_ldm_excl_swp.md R1381. -/
  | swpb (cond : Cond) (rn : BitVec 4) (rd : BitVec 4) (sbz : BitVec 4) (rm : BitVec 4)
  /-- ARM UNDEFINED: 30_encoding.md R860. -/
  | undefined5 (cond : Cond) (any : BitVec 3) (any2 : BitVec 12) (any3 : BitVec 4)
  /-- ARM STREX: 45_ldm_excl_swp.md R1392. -/
  | strex (cond : Cond) (rn : BitVec 4) (rd : BitVec 4) (sbo : BitVec 4) (rm : BitVec 4)
  /-- ARM LDREX: 45_ldm_excl_swp.md R1391. -/
  | ldrex (cond : Cond) (rn : BitVec 4) (rd : BitVec 4) (sbo : BitVec 4) (sbo2 : BitVec 4)
  /-- ARM STREXD: 45_ldm_excl_swp.md R1398. -/
  | strexd (cond : Cond) (rn : BitVec 4) (rd : BitVec 4) (sbo : BitVec 4) (rm : BitVec 4)
  /-- ARM LDREXD: 45_ldm_excl_swp.md R1397. -/
  | ldrexd (cond : Cond) (rn : BitVec 4) (rd : BitVec 4) (sbo : BitVec 4) (sbo2 : BitVec 4)
  /-- ARM STREXB: 45_ldm_excl_swp.md R1394. -/
  | strexb (cond : Cond) (rn : BitVec 4) (rd : BitVec 4) (sbo : BitVec 4) (rm : BitVec 4)
  /-- ARM LDREXB: 45_ldm_excl_swp.md R1393. -/
  | ldrexb (cond : Cond) (rn : BitVec 4) (rd : BitVec 4) (sbo : BitVec 4) (sbo2 : BitVec 4)
  /-- ARM STREXH: 45_ldm_excl_swp.md R1396. -/
  | strexh (cond : Cond) (rn : BitVec 4) (rd : BitVec 4) (sbo : BitVec 4) (rm : BitVec 4)
  /-- ARM LDREXH: 45_ldm_excl_swp.md R1395. -/
  | ldrexh (cond : Cond) (rn : BitVec 4) (rd : BitVec 4) (sbo : BitVec 4) (sbo2 : BitVec 4)
  /-- ARM STRH (immediate offset): 44_loadstore.md R1294. -/
  | strhImm (cond : Cond) (p : Bool) (u : Bool) (w : Bool) (rn : BitVec 4) (rd : BitVec 4) (immH : BitVec 4) (immL : BitVec 4)
  /-- ARM STRH (register offset): 44_loadstore.md R1294. -/
  | strhReg (cond : Cond) (p : Bool) (u : Bool) (w : Bool) (rn : BitVec 4) (rd : BitVec 4) (sbz : BitVec 4) (rm : BitVec 4)
  /-- ARM LDRH (immediate offset): 44_loadstore.md R1276. -/
  | ldrhImm (cond : Cond) (p : Bool) (u : Bool) (w : Bool) (rn : BitVec 4) (rd : BitVec 4) (immH : BitVec 4) (immL : BitVec 4)
  /-- ARM LDRH (register offset): 44_loadstore.md R1276. -/
  | ldrhReg (cond : Cond) (p : Bool) (u : Bool) (w : Bool) (rn : BitVec 4) (rd : BitVec 4) (sbz : BitVec 4) (rm : BitVec 4)
  /-- ARM LDRD (immediate offset): 44_loadstore.md R1278. -/
  | ldrdImm (cond : Cond) (p : Bool) (u : Bool) (w : Bool) (rn : BitVec 4) (rd : BitVec 4) (immH : BitVec 4) (immL : BitVec 4)
  /-- ARM LDRD (register offset): 44_loadstore.md R1278. -/
  | ldrdReg (cond : Cond) (p : Bool) (u : Bool) (w : Bool) (rn : BitVec 4) (rd : BitVec 4) (sbz : BitVec 4) (rm : BitVec 4)
  /-- ARM LDRSB (immediate offset): 44_loadstore.md R1275. -/
  | ldrsbImm (cond : Cond) (p : Bool) (u : Bool) (w : Bool) (rn : BitVec 4) (rd : BitVec 4) (immH : BitVec 4) (immL : BitVec 4)
  /-- ARM LDRSB (register offset): 44_loadstore.md R1275. -/
  | ldrsbReg (cond : Cond) (p : Bool) (u : Bool) (w : Bool) (rn : BitVec 4) (rd : BitVec 4) (sbz : BitVec 4) (rm : BitVec 4)
  /-- ARM STRD (immediate offset): 44_loadstore.md R1295. -/
  | strdImm (cond : Cond) (p : Bool) (u : Bool) (w : Bool) (rn : BitVec 4) (rd : BitVec 4) (immH : BitVec 4) (immL : BitVec 4)
  /-- ARM STRD (register offset): 44_loadstore.md R1295. -/
  | strdReg (cond : Cond) (p : Bool) (u : Bool) (w : Bool) (rn : BitVec 4) (rd : BitVec 4) (sbz : BitVec 4) (rm : BitVec 4)
  /-- ARM LDRSH (immediate offset): 44_loadstore.md R1277. -/
  | ldrshImm (cond : Cond) (p : Bool) (u : Bool) (w : Bool) (rn : BitVec 4) (rd : BitVec 4) (immH : BitVec 4) (immL : BitVec 4)
  /-- ARM LDRSH (register offset): 44_loadstore.md R1277. -/
  | ldrshReg (cond : Cond) (p : Bool) (u : Bool) (w : Bool) (rn : BitVec 4) (rd : BitVec 4) (sbz : BitVec 4) (rm : BitVec 4)
  /-- ARM MRS: 43_branch_status.md R1220. -/
  | mrs (cond : Cond) (r : Bool) (sbo : BitVec 4) (rd : BitVec 4) (sbz : BitVec 4) (sbz2 : BitVec 4)
  /-- ARM MSR (register): 43_branch_status.md R1221. -/
  | msrReg (cond : Cond) (r : Bool) (mask : BitVec 4) (sbo : BitVec 4) (sbz : BitVec 4) (rm : BitVec 4)
  /-- ARM BX: 43_branch_status.md R1212. -/
  | bx (cond : Cond) (sbo : BitVec 4) (sbo2 : BitVec 4) (sbo3 : BitVec 4) (rm : BitVec 4)
  /-- ARM CLZ: 40_dataproc.md R940. -/
  | clz (cond : Cond) (sbo : BitVec 4) (rd : BitVec 4) (sbo2 : BitVec 4) (rm : BitVec 4)
  /-- ARM BXJ: 43_branch_status.md R1215. -/
  | bxj (cond : Cond) (sbo : BitVec 4) (sbo2 : BitVec 4) (sbo3 : BitVec 4) (rm : BitVec 4)
  /-- ARM BLX (register): 43_branch_status.md R1214. -/
  | blxReg (cond : Cond) (sbo : BitVec 4) (sbo2 : BitVec 4) (sbo3 : BitVec 4) (rm : BitVec 4)
  /-- ARM QADD: 41_multiply_dsp.md R1020. -/
  | qadd (cond : Cond) (rn : BitVec 4) (rd : BitVec 4) (sbz : BitVec 4) (rm : BitVec 4)
  /-- ARM QSUB: 41_multiply_dsp.md R1022. -/
  | qsub (cond : Cond) (rn : BitVec 4) (rd : BitVec 4) (sbz : BitVec 4) (rm : BitVec 4)
  /-- ARM QDADD: 41_multiply_dsp.md R1021. -/
  | qdadd (cond : Cond) (rn : BitVec 4) (rd : BitVec 4) (sbz : BitVec 4) (rm : BitVec 4)
  /-- ARM QDSUB: 41_multiply_dsp.md R1023. -/
  | qdsub (cond : Cond) (rn : BitVec 4) (rd : BitVec 4) (sbz : BitVec 4) (rm : BitVec 4)
  /-- ARM BKPT: 46_coproc_system.md R1442. -/
  | bkpt (cond : Cond) (imm12 : BitVec 12) (imm4 : BitVec 4)
  /-- ARM SMC: 46_coproc_system.md R1441. -/
  | smc (cond : Cond) (imm12 : BitVec 12) (imm4 : BitVec 4)
  /-- ARM SMLAxy: 41_multiply_dsp.md R1031. -/
  | smlaxy (cond : Cond) (rd : BitVec 4) (rn : BitVec 4) (rs : BitVec 4) (y : Bool) (x : Bool) (rm : BitVec 4)
  /-- ARM SMLAWy: 41_multiply_dsp.md R1033. -/
  | smlawy (cond : Cond) (rd : BitVec 4) (rn : BitVec 4) (rs : BitVec 4) (y : Bool) (rm : BitVec 4)
  /-- ARM SMULWy: 41_multiply_dsp.md R1032. -/
  | smulwy (cond : Cond) (rd : BitVec 4) (sbz : BitVec 4) (rs : BitVec 4) (y : Bool) (rm : BitVec 4)
  /-- ARM SMLALxy: 41_multiply_dsp.md R1034. -/
  | smlalxy (cond : Cond) (rdHi : BitVec 4) (rdLo : BitVec 4) (rs : BitVec 4) (y : Bool) (x : Bool) (rm : BitVec 4)
  /-- ARM SMULxy: 41_multiply_dsp.md R1030. -/
  | smulxy (cond : Cond) (rd : BitVec 4) (sbz : BitVec 4) (rs : BitVec 4) (y : Bool) (x : Bool) (rm : BitVec 4)
  /-- ARM UNDEFINED: 30_encoding.md R860. -/
  | undefined6 (cond : Cond) (any : BitVec 2) (any2 : BitVec 12) (any3 : BitVec 3) (any4 : BitVec 4)
  /-- ARM NOP: 46_coproc_system.md R1420. -/
  | nop (cond : Cond) (sbo : BitVec 4) (sbz : BitVec 4)
  /-- ARM YIELD: 46_coproc_system.md R1420. -/
  | yield (cond : Cond) (sbo : BitVec 4) (sbz : BitVec 4)
  /-- ARM HINT (reserved, executes as NOP): 46_coproc_system.md R1420. -/
  | hint (cond : Cond) (sbo : BitVec 4) (sbz : BitVec 4) (num : BitVec 8)
  /-- ARM MSR (immediate): 43_branch_status.md R1221. -/
  | msrImm (cond : Cond) (r : Bool) (mask : BitVec 4) (sbo : BitVec 4) (rot : BitVec 4) (imm8 : BitVec 8)
  /-- ARM UNDEFINED: 30_encoding.md R860. -/
  | undefined7 (cond : Cond) (any : Bool) (any2 : BitVec 20)
  /-- ARM AND (immediate): 40_dataproc.md R932. -/
  | andImm (cond : Cond) (s : Bool) (rn : BitVec 4) (rd : BitVec 4) (rot : BitVec 4) (imm8 : BitVec 8)
  /-- ARM AND (register, immediate shift): 40_dataproc.md R932. -/
  | andRegImm (cond : Cond) (s : Bool) (rn : BitVec 4) (rd : BitVec 4) (imm5 : BitVec 5) (shift : BitVec 2) (rm : BitVec 4)
  /-- ARM AND (register, register shift): 40_dataproc.md R932. -/
  | andRegReg (cond : Cond) (s : Bool) (rn : BitVec 4) (rd : BitVec 4) (rs : BitVec 4) (shift : BitVec 2) (rm : BitVec 4)
  /-- ARM EOR (immediate): 40_dataproc.md R933. -/
  | eorImm (cond : Cond) (s : Bool) (rn : BitVec 4) (rd : BitVec 4) (rot : BitVec 4) (imm8 : BitVec 8)
  /-- ARM EOR (register, immediate shift): 40_dataproc.md R933. -/
  | eorRegImm (cond : Cond) (s : Bool) (rn : BitVec 4) (rd : BitVec 4) (imm5 : BitVec 5) (shift : BitVec 2) (rm : BitVec 4)
  /-- ARM EOR (register, register shift): 40_dataproc.md R933. -/
  | eorRegReg (cond : Cond) (s : Bool) (rn : BitVec 4) (rd : BitVec 4) (rs : BitVec 4) (shift : BitVec 2) (rm : BitVec 4)
  /-- ARM SUB (immediate): 40_dataproc.md R912. -/
  | subImm (cond : Cond) (s : Bool) (rn : BitVec 4) (rd : BitVec 4) (rot : BitVec 4) (imm8 : BitVec 8)
  /-- ARM SUB (register, immediate shift): 40_dataproc.md R912. -/
  | subRegImm (cond : Cond) (s : Bool) (rn : BitVec 4) (rd : BitVec 4) (imm5 : BitVec 5) (shift : BitVec 2) (rm : BitVec 4)
  /-- ARM SUB (register, register shift): 40_dataproc.md R912. -/
  | subRegReg (cond : Cond) (s : Bool) (rn : BitVec 4) (rd : BitVec 4) (rs : BitVec 4) (shift : BitVec 2) (rm : BitVec 4)
  /-- ARM RSB (immediate): 40_dataproc.md R914. -/
  | rsbImm (cond : Cond) (s : Bool) (rn : BitVec 4) (rd : BitVec 4) (rot : BitVec 4) (imm8 : BitVec 8)
  /-- ARM RSB (register, immediate shift): 40_dataproc.md R914. -/
  | rsbRegImm (cond : Cond) (s : Bool) (rn : BitVec 4) (rd : BitVec 4) (imm5 : BitVec 5) (shift : BitVec 2) (rm : BitVec 4)
  /-- ARM RSB (register, register shift): 40_dataproc.md R914. -/
  | rsbRegReg (cond : Cond) (s : Bool) (rn : BitVec 4) (rd : BitVec 4) (rs : BitVec 4) (shift : BitVec 2) (rm : BitVec 4)
  /-- ARM ADD (immediate): 40_dataproc.md R910. -/
  | addImm (cond : Cond) (s : Bool) (rn : BitVec 4) (rd : BitVec 4) (rot : BitVec 4) (imm8 : BitVec 8)
  /-- ARM ADD (register, immediate shift): 40_dataproc.md R910. -/
  | addRegImm (cond : Cond) (s : Bool) (rn : BitVec 4) (rd : BitVec 4) (imm5 : BitVec 5) (shift : BitVec 2) (rm : BitVec 4)
  /-- ARM ADD (register, register shift): 40_dataproc.md R910. -/
  | addRegReg (cond : Cond) (s : Bool) (rn : BitVec 4) (rd : BitVec 4) (rs : BitVec 4) (shift : BitVec 2) (rm : BitVec 4)
  /-- ARM ADC (immediate): 40_dataproc.md R911. -/
  | adcImm (cond : Cond) (s : Bool) (rn : BitVec 4) (rd : BitVec 4) (rot : BitVec 4) (imm8 : BitVec 8)
  /-- ARM ADC (register, immediate shift): 40_dataproc.md R911. -/
  | adcRegImm (cond : Cond) (s : Bool) (rn : BitVec 4) (rd : BitVec 4) (imm5 : BitVec 5) (shift : BitVec 2) (rm : BitVec 4)
  /-- ARM ADC (register, register shift): 40_dataproc.md R911. -/
  | adcRegReg (cond : Cond) (s : Bool) (rn : BitVec 4) (rd : BitVec 4) (rs : BitVec 4) (shift : BitVec 2) (rm : BitVec 4)
  /-- ARM SBC (immediate): 40_dataproc.md R913. -/
  | sbcImm (cond : Cond) (s : Bool) (rn : BitVec 4) (rd : BitVec 4) (rot : BitVec 4) (imm8 : BitVec 8)
  /-- ARM SBC (register, immediate shift): 40_dataproc.md R913. -/
  | sbcRegImm (cond : Cond) (s : Bool) (rn : BitVec 4) (rd : BitVec 4) (imm5 : BitVec 5) (shift : BitVec 2) (rm : BitVec 4)
  /-- ARM SBC (register, register shift): 40_dataproc.md R913. -/
  | sbcRegReg (cond : Cond) (s : Bool) (rn : BitVec 4) (rd : BitVec 4) (rs : BitVec 4) (shift : BitVec 2) (rm : BitVec 4)
  /-- ARM RSC (immediate): 40_dataproc.md R915. -/
  | rscImm (cond : Cond) (s : Bool) (rn : BitVec 4) (rd : BitVec 4) (rot : BitVec 4) (imm8 : BitVec 8)
  /-- ARM RSC (register, immediate shift): 40_dataproc.md R915. -/
  | rscRegImm (cond : Cond) (s : Bool) (rn : BitVec 4) (rd : BitVec 4) (imm5 : BitVec 5) (shift : BitVec 2) (rm : BitVec 4)
  /-- ARM RSC (register, register shift): 40_dataproc.md R915. -/
  | rscRegReg (cond : Cond) (s : Bool) (rn : BitVec 4) (rd : BitVec 4) (rs : BitVec 4) (shift : BitVec 2) (rm : BitVec 4)
  /-- ARM TST (immediate): 40_dataproc.md R922. -/
  | tstImm (cond : Cond) (rn : BitVec 4) (sbz : BitVec 4) (rot : BitVec 4) (imm8 : BitVec 8)
  /-- ARM TST (register, immediate shift): 40_dataproc.md R922. -/
  | tstRegImm (cond : Cond) (rn : BitVec 4) (sbz : BitVec 4) (imm5 : BitVec 5) (shift : BitVec 2) (rm : BitVec 4)
  /-- ARM TST (register, register shift): 40_dataproc.md R922. -/
  | tstRegReg (cond : Cond) (rn : BitVec 4) (sbz : BitVec 4) (rs : BitVec 4) (shift : BitVec 2) (rm : BitVec 4)
  /-- ARM TEQ (immediate): 40_dataproc.md R923. -/
  | teqImm (cond : Cond) (rn : BitVec 4) (sbz : BitVec 4) (rot : BitVec 4) (imm8 : BitVec 8)
  /-- ARM TEQ (register, immediate shift): 40_dataproc.md R923. -/
  | teqRegImm (cond : Cond) (rn : BitVec 4) (sbz : BitVec 4) (imm5 : BitVec 5) (shift : BitVec 2) (rm : BitVec 4)
  /-- ARM TEQ (register, register shift): 40_dataproc.md R923. -/
  | teqRegReg (cond : Cond) (rn : BitVec 4) (sbz : BitVec 4) (rs : BitVec 4) (shift : BitVec 2) (rm : BitVec 4)
  /-- ARM CMP (immediate): 40_dataproc.md R920. -/
  | cmpImm (cond : Cond) (rn : BitVec 4) (sbz : BitVec 4) (rot : BitVec 4) (imm8 : BitVec 8)
  /-- ARM CMP (register, immediate shift): 40_dataproc.md R920. -/
  | cmpRegImm (cond : Cond) (rn : BitVec 4) (sbz : BitVec 4) (imm5 : BitVec 5) (shift : BitVec 2) (rm : BitVec 4)
  /-- ARM CMP (register, register shift): 40_dataproc.md R920. -/
  | cmpRegReg (cond : Cond) (rn : BitVec 4) (sbz : BitVec 4) (rs : BitVec 4) (shift : BitVec 2) (rm : BitVec 4)
  /-- ARM CMN (immediate): 40_dataproc.md R921. -/
  | cmnImm (cond : Cond) (rn : BitVec 4) (sbz : BitVec 4) (rot : BitVec 4) (imm8 : BitVec 8)
  /-- ARM CMN (register, immediate shift): 40_dataproc.md R921. -/
  | cmnRegImm (cond : Cond) (rn : BitVec 4) (sbz : BitVec 4) (imm5 : BitVec 5) (shift : BitVec 2) (rm : BitVec 4)
  /-- ARM CMN (register, register shift): 40_dataproc.md R921. -/
  | cmnRegReg (cond : Cond) (rn : BitVec 4) (sbz : BitVec 4) (rs : BitVec 4) (shift : BitVec 2) (rm : BitVec 4)
  /-- ARM ORR (immediate): 40_dataproc.md R934. -/
  | orrImm (cond : Cond) (s : Bool) (rn : BitVec 4) (rd : BitVec 4) (rot : BitVec 4) (imm8 : BitVec 8)
  /-- ARM ORR (register, immediate shift): 40_dataproc.md R934. -/
  | orrRegImm (cond : Cond) (s : Bool) (rn : BitVec 4) (rd : BitVec 4) (imm5 : BitVec 5) (shift : BitVec 2) (rm : BitVec 4)
  /-- ARM ORR (register, register shift): 40_dataproc.md R934. -/
  | orrRegReg (cond : Cond) (s : Bool) (rn : BitVec 4) (rd : BitVec 4) (rs : BitVec 4) (shift : BitVec 2) (rm : BitVec 4)
  /-- ARM MOV (immediate): 40_dataproc.md R930. -/
  | movImm (cond : Cond) (s : Bool) (sbz : BitVec 4) (rd : BitVec 4) (rot : BitVec 4) (imm8 : BitVec 8)
  /-- ARM MOV (register, immediate shift): 40_dataproc.md R930. -/
  | movRegImm (cond : Cond) (s : Bool) (sbz : BitVec 4) (rd : BitVec 4) (imm5 : BitVec 5) (shift : BitVec 2) (rm : BitVec 4)
  /-- ARM MOV (register, register shift): 40_dataproc.md R930. -/
  | movRegReg (cond : Cond) (s : Bool) (sbz : BitVec 4) (rd : BitVec 4) (rs : BitVec 4) (shift : BitVec 2) (rm : BitVec 4)
  /-- ARM CPY: 40_dataproc.md R936. -/
  | cpy (cond : Cond) (rd : BitVec 4) (rm : BitVec 4)
  /-- ARM BIC (immediate): 40_dataproc.md R935. -/
  | bicImm (cond : Cond) (s : Bool) (rn : BitVec 4) (rd : BitVec 4) (rot : BitVec 4) (imm8 : BitVec 8)
  /-- ARM BIC (register, immediate shift): 40_dataproc.md R935. -/
  | bicRegImm (cond : Cond) (s : Bool) (rn : BitVec 4) (rd : BitVec 4) (imm5 : BitVec 5) (shift : BitVec 2) (rm : BitVec 4)
  /-- ARM BIC (register, register shift): 40_dataproc.md R935. -/
  | bicRegReg (cond : Cond) (s : Bool) (rn : BitVec 4) (rd : BitVec 4) (rs : BitVec 4) (shift : BitVec 2) (rm : BitVec 4)
  /-- ARM MVN (immediate): 40_dataproc.md R931. -/
  | mvnImm (cond : Cond) (s : Bool) (sbz : BitVec 4) (rd : BitVec 4) (rot : BitVec 4) (imm8 : BitVec 8)
  /-- ARM MVN (register, immediate shift): 40_dataproc.md R931. -/
  | mvnRegImm (cond : Cond) (s : Bool) (sbz : BitVec 4) (rd : BitVec 4) (imm5 : BitVec 5) (shift : BitVec 2) (rm : BitVec 4)
  /-- ARM MVN (register, register shift): 40_dataproc.md R931. -/
  | mvnRegReg (cond : Cond) (s : Bool) (sbz : BitVec 4) (rd : BitVec 4) (rs : BitVec 4) (shift : BitVec 2) (rm : BitVec 4)
  /-- ARM SADD16: 42_media_simd.md R1110. -/
  | sadd16 (cond : Cond) (rn : BitVec 4) (rd : BitVec 4) (sbo : BitVec 4) (rm : BitVec 4)
  /-- ARM QADD16: 42_media_simd.md R1111. -/
  | qadd16 (cond : Cond) (rn : BitVec 4) (rd : BitVec 4) (sbo : BitVec 4) (rm : BitVec 4)
  /-- ARM SHADD16: 42_media_simd.md R1112. -/
  | shadd16 (cond : Cond) (rn : BitVec 4) (rd : BitVec 4) (sbo : BitVec 4) (rm : BitVec 4)
  /-- ARM UADD16: 42_media_simd.md R1113. -/
  | uadd16 (cond : Cond) (rn : BitVec 4) (rd : BitVec 4) (sbo : BitVec 4) (rm : BitVec 4)
  /-- ARM UQADD16: 42_media_simd.md R1114. -/
  | uqadd16 (cond : Cond) (rn : BitVec 4) (rd : BitVec 4) (sbo : BitVec 4) (rm : BitVec 4)
  /-- ARM UHADD16: 42_media_simd.md R1115. -/
  | uhadd16 (cond : Cond) (rn : BitVec 4) (rd : BitVec 4) (sbo : BitVec 4) (rm : BitVec 4)
  /-- ARM SADDSUBX: 42_media_simd.md R1116. -/
  | saddsubx (cond : Cond) (rn : BitVec 4) (rd : BitVec 4) (sbo : BitVec 4) (rm : BitVec 4)
  /-- ARM QADDSUBX: 42_media_simd.md R1117. -/
  | qaddsubx (cond : Cond) (rn : BitVec 4) (rd : BitVec 4) (sbo : BitVec 4) (rm : BitVec 4)
  /-- ARM SHADDSUBX: 42_media_simd.md R1118. -/
  | shaddsubx (cond : Cond) (rn : BitVec 4) (rd : BitVec 4) (sbo : BitVec 4) (rm : BitVec 4)
  /-- ARM UADDSUBX: 42_media_simd.md R1119. -/
  | uaddsubx (cond : Cond) (rn : BitVec 4) (rd : BitVec 4) (sbo : BitVec 4) (rm : BitVec 4)
  /-- ARM UQADDSUBX: 42_media_simd.md R1120. -/
  | uqaddsubx (cond : Cond) (rn : BitVec 4) (rd : BitVec 4) (sbo : BitVec 4) (rm : BitVec 4)
  /-- ARM UHADDSUBX: 42_media_simd.md R1121. -/
  | uhaddsubx (cond : Cond) (rn : BitVec 4) (rd : BitVec 4) (sbo : BitVec 4) (rm : BitVec 4)
  /-- ARM SSUBADDX: 42_media_simd.md R1122. -/
  | ssubaddx (cond : Cond) (rn : BitVec 4) (rd : BitVec 4) (sbo : BitVec 4) (rm : BitVec 4)
  /-- ARM QSUBADDX: 42_media_simd.md R1123. -/
  | qsubaddx (cond : Cond) (rn : BitVec 4) (rd : BitVec 4) (sbo : BitVec 4) (rm : BitVec 4)
  /-- ARM SHSUBADDX: 42_media_simd.md R1124. -/
  | shsubaddx (cond : Cond) (rn : BitVec 4) (rd : BitVec 4) (sbo : BitVec 4) (rm : BitVec 4)
  /-- ARM USUBADDX: 42_media_simd.md R1125. -/
  | usubaddx (cond : Cond) (rn : BitVec 4) (rd : BitVec 4) (sbo : BitVec 4) (rm : BitVec 4)
  /-- ARM UQSUBADDX: 42_media_simd.md R1126. -/
  | uqsubaddx (cond : Cond) (rn : BitVec 4) (rd : BitVec 4) (sbo : BitVec 4) (rm : BitVec 4)
  /-- ARM UHSUBADDX: 42_media_simd.md R1127. -/
  | uhsubaddx (cond : Cond) (rn : BitVec 4) (rd : BitVec 4) (sbo : BitVec 4) (rm : BitVec 4)
  /-- ARM SSUB16: 42_media_simd.md R1128. -/
  | ssub16 (cond : Cond) (rn : BitVec 4) (rd : BitVec 4) (sbo : BitVec 4) (rm : BitVec 4)
  /-- ARM QSUB16: 42_media_simd.md R1129. -/
  | qsub16 (cond : Cond) (rn : BitVec 4) (rd : BitVec 4) (sbo : BitVec 4) (rm : BitVec 4)
  /-- ARM SHSUB16: 42_media_simd.md R1130. -/
  | shsub16 (cond : Cond) (rn : BitVec 4) (rd : BitVec 4) (sbo : BitVec 4) (rm : BitVec 4)
  /-- ARM USUB16: 42_media_simd.md R1131. -/
  | usub16 (cond : Cond) (rn : BitVec 4) (rd : BitVec 4) (sbo : BitVec 4) (rm : BitVec 4)
  /-- ARM UQSUB16: 42_media_simd.md R1132. -/
  | uqsub16 (cond : Cond) (rn : BitVec 4) (rd : BitVec 4) (sbo : BitVec 4) (rm : BitVec 4)
  /-- ARM UHSUB16: 42_media_simd.md R1133. -/
  | uhsub16 (cond : Cond) (rn : BitVec 4) (rd : BitVec 4) (sbo : BitVec 4) (rm : BitVec 4)
  /-- ARM SADD8: 42_media_simd.md R1134. -/
  | sadd8 (cond : Cond) (rn : BitVec 4) (rd : BitVec 4) (sbo : BitVec 4) (rm : BitVec 4)
  /-- ARM QADD8: 42_media_simd.md R1135. -/
  | qadd8 (cond : Cond) (rn : BitVec 4) (rd : BitVec 4) (sbo : BitVec 4) (rm : BitVec 4)
  /-- ARM SHADD8: 42_media_simd.md R1136. -/
  | shadd8 (cond : Cond) (rn : BitVec 4) (rd : BitVec 4) (sbo : BitVec 4) (rm : BitVec 4)
  /-- ARM UADD8: 42_media_simd.md R1137. -/
  | uadd8 (cond : Cond) (rn : BitVec 4) (rd : BitVec 4) (sbo : BitVec 4) (rm : BitVec 4)
  /-- ARM UQADD8: 42_media_simd.md R1138. -/
  | uqadd8 (cond : Cond) (rn : BitVec 4) (rd : BitVec 4) (sbo : BitVec 4) (rm : BitVec 4)
  /-- ARM UHADD8: 42_media_simd.md R1139. -/
  | uhadd8 (cond : Cond) (rn : BitVec 4) (rd : BitVec 4) (sbo : BitVec 4) (rm : BitVec 4)
  /-- ARM SSUB8: 42_media_simd.md R1140. -/
  | ssub8 (cond : Cond) (rn : BitVec 4) (rd : BitVec 4) (sbo : BitVec 4) (rm : BitVec 4)
  /-- ARM QSUB8: 42_media_simd.md R1141. -/
  | qsub8 (cond : Cond) (rn : BitVec 4) (rd : BitVec 4) (sbo : BitVec 4) (rm : BitVec 4)
  /-- ARM SHSUB8: 42_media_simd.md R1142. -/
  | shsub8 (cond : Cond) (rn : BitVec 4) (rd : BitVec 4) (sbo : BitVec 4) (rm : BitVec 4)
  /-- ARM USUB8: 42_media_simd.md R1143. -/
  | usub8 (cond : Cond) (rn : BitVec 4) (rd : BitVec 4) (sbo : BitVec 4) (rm : BitVec 4)
  /-- ARM UQSUB8: 42_media_simd.md R1144. -/
  | uqsub8 (cond : Cond) (rn : BitVec 4) (rd : BitVec 4) (sbo : BitVec 4) (rm : BitVec 4)
  /-- ARM UHSUB8: 42_media_simd.md R1145. -/
  | uhsub8 (cond : Cond) (rn : BitVec 4) (rd : BitVec 4) (sbo : BitVec 4) (rm : BitVec 4)
  /-- ARM SEL: 42_media_simd.md R1184. -/
  | sel (cond : Cond) (rn : BitVec 4) (rd : BitVec 4) (sbo : BitVec 4) (rm : BitVec 4)
  /-- ARM REV: 42_media_simd.md R1190. -/
  | rev (cond : Cond) (sbo : BitVec 4) (rd : BitVec 4) (sbo2 : BitVec 4) (rm : BitVec 4)
  /-- ARM REV16: 42_media_simd.md R1191. -/
  | rev16 (cond : Cond) (sbo : BitVec 4) (rd : BitVec 4) (sbo2 : BitVec 4) (rm : BitVec 4)
  /-- ARM REVSH: 42_media_simd.md R1192. -/
  | revsh (cond : Cond) (sbo : BitVec 4) (rd : BitVec 4) (sbo2 : BitVec 4) (rm : BitVec 4)
  /-- ARM SSAT16: 42_media_simd.md R1182. -/
  | ssat16 (cond : Cond) (satImm : BitVec 4) (rd : BitVec 4) (sbo : BitVec 4) (rm : BitVec 4)
  /-- ARM USAT16: 42_media_simd.md R1183. -/
  | usat16 (cond : Cond) (satImm : BitVec 4) (rd : BitVec 4) (sbo : BitVec 4) (rm : BitVec 4)
  /-- ARM SXTB16: 42_media_simd.md R1167. -/
  | sxtb16 (cond : Cond) (rd : BitVec 4) (rotate : BitVec 2) (sbz : BitVec 2) (rm : BitVec 4)
  /-- ARM SXTAB16: 42_media_simd.md R1161. -/
  | sxtab16 (cond : Cond) (rn : BitVec 4) (rd : BitVec 4) (rotate : BitVec 2) (sbz : BitVec 2) (rm : BitVec 4)
  /-- ARM SXTB: 42_media_simd.md R1168. -/
  | sxtb (cond : Cond) (rd : BitVec 4) (rotate : BitVec 2) (sbz : BitVec 2) (rm : BitVec 4)
  /-- ARM SXTAB: 42_media_simd.md R1162. -/
  | sxtab (cond : Cond) (rn : BitVec 4) (rd : BitVec 4) (rotate : BitVec 2) (sbz : BitVec 2) (rm : BitVec 4)
  /-- ARM SXTH: 42_media_simd.md R1169. -/
  | sxth (cond : Cond) (rd : BitVec 4) (rotate : BitVec 2) (sbz : BitVec 2) (rm : BitVec 4)
  /-- ARM SXTAH: 42_media_simd.md R1163. -/
  | sxtah (cond : Cond) (rn : BitVec 4) (rd : BitVec 4) (rotate : BitVec 2) (sbz : BitVec 2) (rm : BitVec 4)
  /-- ARM UXTB16: 42_media_simd.md R1170. -/
  | uxtb16 (cond : Cond) (rd : BitVec 4) (rotate : BitVec 2) (sbz : BitVec 2) (rm : BitVec 4)
  /-- ARM UXTAB16: 42_media_simd.md R1164. -/
  | uxtab16 (cond : Cond) (rn : BitVec 4) (rd : BitVec 4) (rotate : BitVec 2) (sbz : BitVec 2) (rm : BitVec 4)
  /-- ARM UXTB: 42_media_simd.md R1171. -/
  | uxtb (cond : Cond) (rd : BitVec 4) (rotate : BitVec 2) (sbz : BitVec 2) (rm : BitVec 4)
  /-- ARM UXTAB: 42_media_simd.md R1165. -/
  | uxtab (cond : Cond) (rn : BitVec 4) (rd : BitVec 4) (rotate : BitVec 2) (sbz : BitVec 2) (rm : BitVec 4)
  /-- ARM UXTH: 42_media_simd.md R1172. -/
  | uxth (cond : Cond) (rd : BitVec 4) (rotate : BitVec 2) (sbz : BitVec 2) (rm : BitVec 4)
  /-- ARM UXTAH: 42_media_simd.md R1166. -/
  | uxtah (cond : Cond) (rn : BitVec 4) (rd : BitVec 4) (rotate : BitVec 2) (sbz : BitVec 2) (rm : BitVec 4)
  /-- ARM PKHBT: 42_media_simd.md R1185. -/
  | pkhbt (cond : Cond) (rn : BitVec 4) (rd : BitVec 4) (imm5 : BitVec 5) (rm : BitVec 4)
  /-- ARM PKHTB: 42_media_simd.md R1186. -/
  | pkhtb (cond : Cond) (rn : BitVec 4) (rd : BitVec 4) (imm5 : BitVec 5) (rm : BitVec 4)
  /-- ARM SSAT: 42_media_simd.md R1180. -/
  | ssat (cond : Cond) (satImm : BitVec 5) (rd : BitVec 4) (imm5 : BitVec 5) (shift : Bool) (rm : BitVec 4)
  /-- ARM USAT: 42_media_simd.md R1181. -/
  | usat (cond : Cond) (satImm : BitVec 5) (rd : BitVec 4) (imm5 : BitVec 5) (shift : Bool) (rm : BitVec 4)
  /-- ARM SMUAD{X}: 41_multiply_dsp.md R1045. -/
  | smuad (cond : Cond) (rd : BitVec 4) (rs : BitVec 4) (x : Bool) (rm : BitVec 4)
  /-- ARM SMLAD{X}: 41_multiply_dsp.md R1041. -/
  | smlad (cond : Cond) (rd : BitVec 4) (rn : BitVec 4) (rs : BitVec 4) (x : Bool) (rm : BitVec 4)
  /-- ARM SMUSD{X}: 41_multiply_dsp.md R1046. -/
  | smusd (cond : Cond) (rd : BitVec 4) (rs : BitVec 4) (x : Bool) (rm : BitVec 4)
  /-- ARM SMLSD{X}: 41_multiply_dsp.md R1042. -/
  | smlsd (cond : Cond) (rd : BitVec 4) (rn : BitVec 4) (rs : BitVec 4) (x : Bool) (rm : BitVec 4)
  /-- ARM SMLALD{X}: 41_multiply_dsp.md R1043. -/
  | smlald (cond : Cond) (rdHi : BitVec 4) (rdLo : BitVec 4) (rs : BitVec 4) (x : Bool) (rm : BitVec 4)
  /-- ARM SMLSLD{X}: 41_multiply_dsp.md R1044. -/
  | smlsld (cond : Cond) (rdHi : BitVec 4) (rdLo : BitVec 4) (rs : BitVec 4) (x : Bool) (rm : BitVec 4)
  /-- ARM SMMUL{R}: 41_multiply_dsp.md R1050. -/
  | smmul (cond : Cond) (rd : BitVec 4) (rs : BitVec 4) (r : Bool) (rm : BitVec 4)
  /-- ARM SMMLA{R}: 41_multiply_dsp.md R1051. -/
  | smmla (cond : Cond) (rd : BitVec 4) (rn : BitVec 4) (rs : BitVec 4) (r : Bool) (rm : BitVec 4)
  /-- ARM SMMLS{R}: 41_multiply_dsp.md R1052. -/
  | smmls (cond : Cond) (rd : BitVec 4) (rn : BitVec 4) (rs : BitVec 4) (r : Bool) (rm : BitVec 4)
  /-- ARM USAD8: 42_media_simd.md R1150. -/
  | usad8 (cond : Cond) (rd : BitVec 4) (rs : BitVec 4) (rm : BitVec 4)
  /-- ARM USADA8: 42_media_simd.md R1151. -/
  | usada8 (cond : Cond) (rd : BitVec 4) (rn : BitVec 4) (rs : BitVec 4) (rm : BitVec 4)
  /-- ARM UNDEFINED: 30_encoding.md R860. -/
  | undefined8 (cond : Cond) (any : BitVec 20) (any2 : BitVec 4)
  /-- ARM LDRT (immediate offset): 44_loadstore.md R1272. -/
  | ldrtImm (cond : Cond) (u : Bool) (rn : BitVec 4) (rd : BitVec 4) (imm12 : BitVec 12)
  /-- ARM LDRT (register offset): 44_loadstore.md R1272. -/
  | ldrtReg (cond : Cond) (u : Bool) (rn : BitVec 4) (rd : BitVec 4) (imm5 : BitVec 5) (shift : BitVec 2) (rm : BitVec 4)
  /-- ARM LDRBT (immediate offset): 44_loadstore.md R1274. -/
  | ldrbtImm (cond : Cond) (u : Bool) (rn : BitVec 4) (rd : BitVec 4) (imm12 : BitVec 12)
  /-- ARM LDRBT (register offset): 44_loadstore.md R1274. -/
  | ldrbtReg (cond : Cond) (u : Bool) (rn : BitVec 4) (rd : BitVec 4) (imm5 : BitVec 5) (shift : BitVec 2) (rm : BitVec 4)
  /-- ARM STRT (immediate offset): 44_loadstore.md R1291. -/
  | strtImm (cond : Cond) (u : Bool) (rn : BitVec 4) (rd : BitVec 4) (imm12 : BitVec 12)
  /-- ARM STRT (register offset): 44_loadstore.md R1291. -/
  | strtReg (cond : Cond) (u : Bool) (rn : BitVec 4) (rd : BitVec 4) (imm5 : BitVec 5) (shift : BitVec 2) (rm : BitVec 4)
  /-- ARM STRBT (immediate offset): 44_loadstore.md R1293. -/
  | strbtImm (cond : Cond) (u : Bool) (rn : BitVec 4) (rd : BitVec 4) (imm12 : BitVec 12)
  /-- ARM STRBT (register offset): 44_loadstore.md R1293. -/
  | strbtReg (cond : Cond) (u : Bool) (rn : BitVec 4) (rd : BitVec 4) (imm5 : BitVec 5) (shift : BitVec 2) (rm : BitVec 4)
  /-- ARM LDR (immediate offset): 44_loadstore.md R1271. -/
  | ldrImm (cond : Cond) (p : Bool) (u : Bool) (w : Bool) (rn : BitVec 4) (rd : BitVec 4) (imm12 : BitVec 12)
  /-- ARM LDR (register offset): 44_loadstore.md R1271. -/
  | ldrReg (cond : Cond) (p : Bool) (u : Bool) (w : Bool) (rn : BitVec 4) (rd : BitVec 4) (imm5 : BitVec 5) (shift : BitVec 2) (rm : BitVec 4)
  /-- ARM LDRB (immediate offset): 44_loadstore.md R1273. -/
  | ldrbImm (cond : Cond) (p : Bool) (u : Bool) (w : Bool) (rn : BitVec 4) (rd : BitVec 4) (imm12 : BitVec 12)
  /-- ARM LDRB (register offset): 44_loadstore.md R1273. -/
  | ldrbReg (cond : Cond) (p : Bool) (u : Bool) (w : Bool) (rn : BitVec 4) (rd : BitVec 4) (imm5 : BitVec 5) (shift : BitVec 2) (rm : BitVec 4)
  /-- ARM STR (immediate offset): 44_loadstore.md R1290. -/
  | strImm (cond : Cond) (p : Bool) (u : Bool) (w : Bool) (rn : BitVec 4) (rd : BitVec 4) (imm12 : BitVec 12)
  /-- ARM STR (register offset): 44_loadstore.md R1290. -/
  | strReg (cond : Cond) (p : Bool) (u : Bool) (w : Bool) (rn : BitVec 4) (rd : BitVec 4) (imm5 : BitVec 5) (shift : BitVec 2) (rm : BitVec 4)
  /-- ARM STRB (immediate offset): 44_loadstore.md R1292. -/
  | strbImm (cond : Cond) (p : Bool) (u : Bool) (w : Bool) (rn : BitVec 4) (rd : BitVec 4) (imm12 : BitVec 12)
  /-- ARM STRB (register offset): 44_loadstore.md R1292. -/
  | strbReg (cond : Cond) (p : Bool) (u : Bool) (w : Bool) (rn : BitVec 4) (rd : BitVec 4) (imm5 : BitVec 5) (shift : BitVec 2) (rm : BitVec 4)
  /-- ARM LDM (3) (with PC, restore CPSR): 45_ldm_excl_swp.md R1364. -/
  | ldm3 (cond : Cond) (p : Bool) (u : Bool) (w : Bool) (rn : BitVec 4) (reglist : BitVec 15)
  /-- ARM LDM (2) (User registers): 45_ldm_excl_swp.md R1363. -/
  | ldm2 (cond : Cond) (p : Bool) (u : Bool) (sbz : Bool) (rn : BitVec 4) (reglist : BitVec 15)
  /-- ARM LDM (1): 45_ldm_excl_swp.md R1362. -/
  | ldm1 (cond : Cond) (p : Bool) (u : Bool) (w : Bool) (rn : BitVec 4) (reglist : BitVec 16)
  /-- ARM STM (2) (User registers): 45_ldm_excl_swp.md R1366. -/
  | stm2 (cond : Cond) (p : Bool) (u : Bool) (sbz : Bool) (rn : BitVec 4) (reglist : BitVec 16)
  /-- ARM STM (1): 45_ldm_excl_swp.md R1365. -/
  | stm1 (cond : Cond) (p : Bool) (u : Bool) (w : Bool) (rn : BitVec 4) (reglist : BitVec 16)
  /-- ARM B: 43_branch_status.md R1210. -/
  | b (cond : Cond) (imm24 : BitVec 24)
  /-- ARM BL: 43_branch_status.md R1211. -/
  | bl (cond : Cond) (imm24 : BitVec 24)
  /-- ARM MCRR: 46_coproc_system.md R1426. -/
  | mcrr (cond : Cond) (rn : BitVec 4) (rd : BitVec 4) (cp : BitVec 4) (opc : BitVec 4) (crm : BitVec 4)
  /-- ARM MRRC: 46_coproc_system.md R1427. -/
  | mrrc (cond : Cond) (rn : BitVec 4) (rd : BitVec 4) (cp : BitVec 4) (opc : BitVec 4) (crm : BitVec 4)
  /-- ARM UNDEFINED: 30_encoding.md R860. -/
  | undefined9 (cond : Cond) (any : Bool) (any2 : BitVec 20)
  /-- ARM STC: 46_coproc_system.md R1430. -/
  | stc (cond : Cond) (p : Bool) (u : Bool) (nBit : Bool) (w : Bool) (rn : BitVec 4) (crd : BitVec 4) (cp : BitVec 4) (imm8 : BitVec 8)
  /-- ARM LDC: 46_coproc_system.md R1430. -/
  | ldc (cond : Cond) (p : Bool) (u : Bool) (nBit : Bool) (w : Bool) (rn : BitVec 4) (crd : BitVec 4) (cp : BitVec 4) (imm8 : BitVec 8)
  /-- ARM CDP: 46_coproc_system.md R1428. -/
  | cdp (cond : Cond) (opc1 : BitVec 4) (crn : BitVec 4) (crd : BitVec 4) (cp : BitVec 4) (opc2 : BitVec 3) (crm : BitVec 4)
  /-- ARM MCR: 46_coproc_system.md R1424. -/
  | mcr (cond : Cond) (opc1 : BitVec 3) (crn : BitVec 4) (rd : BitVec 4) (cp : BitVec 4) (opc2 : BitVec 3) (crm : BitVec 4)
  /-- ARM MRC: 46_coproc_system.md R1425. -/
  | mrc (cond : Cond) (opc1 : BitVec 3) (crn : BitVec 4) (rd : BitVec 4) (cp : BitVec 4) (opc2 : BitVec 3) (crm : BitVec 4)
  /-- ARM SVC: 46_coproc_system.md R1440. -/
  | svc (cond : Cond) (imm24 : BitVec 24)
  /-- Thumb LSL (immediate): 47_thumb.md R1539. -/
  | tLslImm (imm5 : BitVec 5) (rm : BitVec 3) (rd : BitVec 3)
  /-- Thumb LSR (immediate): 47_thumb.md R1541. -/
  | tLsrImm (imm5 : BitVec 5) (rm : BitVec 3) (rd : BitVec 3)
  /-- Thumb ASR (immediate): 47_thumb.md R1543. -/
  | tAsrImm (imm5 : BitVec 5) (rm : BitVec 3) (rd : BitVec 3)
  /-- Thumb ADD (register): 47_thumb.md R1516. -/
  | tAddReg (rm : BitVec 3) (rn : BitVec 3) (rd : BitVec 3)
  /-- Thumb SUB (register): 47_thumb.md R1524. -/
  | tSubReg (rm : BitVec 3) (rn : BitVec 3) (rd : BitVec 3)
  /-- Thumb MOV (low register to low register): 47_thumb.md R1512. -/
  | tMovLow (rn : BitVec 3) (rd : BitVec 3)
  /-- Thumb ADD (3-bit immediate): 47_thumb.md R1514. -/
  | tAddImm3 (imm3 : BitVec 3) (rn : BitVec 3) (rd : BitVec 3)
  /-- Thumb SUB (3-bit immediate): 47_thumb.md R1522. -/
  | tSubImm3 (imm3 : BitVec 3) (rn : BitVec 3) (rd : BitVec 3)
  /-- Thumb MOV (immediate): 47_thumb.md R1510. -/
  | tMovImm (rd : BitVec 3) (imm8 : BitVec 8)
  /-- Thumb CMP (immediate): 47_thumb.md R1529. -/
  | tCmpImm (rn : BitVec 3) (imm8 : BitVec 8)
  /-- Thumb ADD (8-bit immediate): 47_thumb.md R1515. -/
  | tAddImm8 (rd : BitVec 3) (imm8 : BitVec 8)
  /-- Thumb SUB (8-bit immediate): 47_thumb.md R1523. -/
  | tSubImm8 (rd : BitVec 3) (imm8 : BitVec 8)
  /-- Thumb AND: 47_thumb.md R1533. -/
  | tAnd (rm : BitVec 3) (rd : BitVec 3)
  /-- Thumb EOR: 47_thumb.md R1534. -/
  | tEor (rm : BitVec 3) (rd : BitVec 3)
  /-- Thumb LSL (register): 47_thumb.md R1540. -/
  | tLslReg (rm : BitVec 3) (rd : BitVec 3)
  /-- Thumb LSR (register): 47_thumb.md R1542. -/
  | tLsrReg (rm : BitVec 3) (rd : BitVec 3)
  /-- Thumb ASR (register): 47_thumb.md R1544. -/
  | tAsrReg (rm : BitVec 3) (rd : BitVec 3)
  /-- Thumb ADC: 47_thumb.md R1521. -/
  | tAdc (rm : BitVec 3) (rd : BitVec 3)
  /-- Thumb SBC: 47_thumb.md R1526. -/
  | tSbc (rm : BitVec 3) (rd : BitVec 3)
  /-- Thumb ROR: 47_thumb.md R1545. -/
  | tRor (rm : BitVec 3) (rd : BitVec 3)
  /-- Thumb TST: 47_thumb.md R1538. -/
  | tTst (rm : BitVec 3) (rd : BitVec 3)
  /-- Thumb NEG: 47_thumb.md R1527. -/
  | tNeg (rm : BitVec 3) (rd : BitVec 3)
  /-- Thumb CMP (low registers): 47_thumb.md R1530. -/
  | tCmpLow (rm : BitVec 3) (rd : BitVec 3)
  /-- Thumb CMN: 47_thumb.md R1532. -/
  | tCmn (rm : BitVec 3) (rd : BitVec 3)
  /-- Thumb ORR: 47_thumb.md R1535. -/
  | tOrr (rm : BitVec 3) (rd : BitVec 3)
  /-- Thumb MUL: 47_thumb.md R1528. -/
  | tMul (rm : BitVec 3) (rd : BitVec 3)
  /-- Thumb BIC: 47_thumb.md R1536. -/
  | tBic (rm : BitVec 3) (rd : BitVec 3)
  /-- Thumb MVN: 47_thumb.md R1537. -/
  | tMvn (rm : BitVec 3) (rd : BitVec 3)
  /-- Thumb ADD (high registers): 47_thumb.md R1517. -/
  | tAddHigh (d : Bool) (m : Bool) (rm : BitVec 3) (rd : BitVec 3)
  /-- Thumb CMP (high registers): 47_thumb.md R1531. -/
  | tCmpHigh (hn : Bool) (m : Bool) (rm : BitVec 3) (rn : BitVec 3)
  /-- Thumb MOV (high registers): 47_thumb.md R1511. -/
  | tMovHigh (d : Bool) (m : Bool) (rm : BitVec 3) (rd : BitVec 3)
  /-- Thumb CPY: 47_thumb.md R1513. -/
  | tCpy (d : Bool) (m : Bool) (rm : BitVec 3) (rd : BitVec 3)
  /-- Thumb BX: 47_thumb.md R1574. -/
  | tBx (m : Bool) (rm : BitVec 3) (sbz : BitVec 3)
  /-- Thumb BLX (register): 47_thumb.md R1573. -/
  | tBlxReg (m : Bool) (rm : BitVec 3) (sbz : BitVec 3)
  /-- Thumb LDR (PC-relative): 47_thumb.md R1554. -/
  | tLdrPc (rd : BitVec 3) (imm8 : BitVec 8)
  /-- Thumb STR (register offset): 47_thumb.md R1560. -/
  | tStrReg (rm : BitVec 3) (rn : BitVec 3) (rd : BitVec 3)
  /-- Thumb STRH (register offset): 47_thumb.md R1561. -/
  | tStrhReg (rm : BitVec 3) (rn : BitVec 3) (rd : BitVec 3)
  /-- Thumb STRB (register offset): 47_thumb.md R1562. -/
  | tStrbReg (rm : BitVec 3) (rn : BitVec 3) (rd : BitVec 3)
  /-- Thumb LDRSB: 47_thumb.md R1553. -/
  | tLdrsb (rm : BitVec 3) (rn : BitVec 3) (rd : BitVec 3)
  /-- Thumb LDR (register offset): 47_thumb.md R1549. -/
  | tLdrReg (rm : BitVec 3) (rn : BitVec 3) (rd : BitVec 3)
  /-- Thumb LDRH (register offset): 47_thumb.md R1550. -/
  | tLdrhReg (rm : BitVec 3) (rn : BitVec 3) (rd : BitVec 3)
  /-- Thumb LDRB (register offset): 47_thumb.md R1552. -/
  | tLdrbReg (rm : BitVec 3) (rn : BitVec 3) (rd : BitVec 3)
  /-- Thumb LDRSH: 47_thumb.md R1551. -/
  | tLdrsh (rm : BitVec 3) (rn : BitVec 3) (rd : BitVec 3)
  /-- Thumb STR (immediate offset): 47_thumb.md R1557. -/
  | tStrImm (imm5 : BitVec 5) (rn : BitVec 3) (rd : BitVec 3)
  /-- Thumb LDR (immediate offset): 47_thumb.md R1546. -/
  | tLdrImm (imm5 : BitVec 5) (rn : BitVec 3) (rd : BitVec 3)
  /-- Thumb STRB (immediate offset): 47_thumb.md R1559. -/
  | tStrbImm (imm5 : BitVec 5) (rn : BitVec 3) (rd : BitVec 3)
  /-- Thumb LDRB (immediate offset): 47_thumb.md R1548. -/
  | tLdrbImm (imm5 : BitVec 5) (rn : BitVec 3) (rd : BitVec 3)
  /-- Thumb STRH (immediate offset): 47_thumb.md R1558. -/
  | tStrhImm (imm5 : BitVec 5) (rn : BitVec 3) (rd : BitVec 3)
  /-- Thumb LDRH (immediate offset): 47_thumb.md R1547. -/
  | tLdrhImm (imm5 : BitVec 5) (rn : BitVec 3) (rd : BitVec 3)
  /-- Thumb STR (SP-relative): 47_thumb.md R1563. -/
  | tStrSp (rd : BitVec 3) (imm8 : BitVec 8)
  /-- Thumb LDR (SP-relative): 47_thumb.md R1555. -/
  | tLdrSp (rd : BitVec 3) (imm8 : BitVec 8)
  /-- Thumb ADD (PC plus immediate): 47_thumb.md R1518. -/
  | tAddPc (rd : BitVec 3) (imm8 : BitVec 8)
  /-- Thumb ADD (SP plus immediate): 47_thumb.md R1519. -/
  | tAddSp (rd : BitVec 3) (imm8 : BitVec 8)
  /-- Thumb ADD (SP, immediate): 47_thumb.md R1520. -/
  | tAddSpImm (imm7 : BitVec 7)
  /-- Thumb SUB (SP, immediate): 47_thumb.md R1525. -/
  | tSubSpImm (imm7 : BitVec 7)
  /-- Thumb SXTH: 47_thumb.md R1582. -/
  | tSxth (rm : BitVec 3) (rd : BitVec 3)
  /-- Thumb SXTB: 47_thumb.md R1583. -/
  | tSxtb (rm : BitVec 3) (rd : BitVec 3)
  /-- Thumb UXTH: 47_thumb.md R1584. -/
  | tUxth (rm : BitVec 3) (rd : BitVec 3)
  /-- Thumb UXTB: 47_thumb.md R1585. -/
  | tUxtb (rm : BitVec 3) (rd : BitVec 3)
  /-- Thumb PUSH: 47_thumb.md R1565. -/
  | tPush (r : Bool) (reglist : BitVec 8)
  /-- Thumb SETEND: 47_thumb.md R1576. -/
  | tSetend (eBit : Bool) (sbz : BitVec 3)
  /-- Thumb CPS: 47_thumb.md R1575. -/
  | tCps (imod : Bool) (sbz : Bool) (aBit : Bool) (iBit : Bool) (fBit : Bool)
  /-- Thumb REV: 47_thumb.md R1577. -/
  | tRev (rm : BitVec 3) (rd : BitVec 3)
  /-- Thumb REV16: 47_thumb.md R1578. -/
  | tRev16 (rm : BitVec 3) (rd : BitVec 3)
  /-- Thumb REVSH: 47_thumb.md R1579. -/
  | tRevsh (rm : BitVec 3) (rd : BitVec 3)
  /-- Thumb POP: 47_thumb.md R1566. -/
  | tPop (r : Bool) (reglist : BitVec 8)
  /-- Thumb BKPT: 47_thumb.md R1581. -/
  | tBkpt (imm8 : BitVec 8)
  /-- Thumb UNDEFINED: 47_thumb.md R1590. -/
  | tUndefined1 (any : BitVec 12)
  /-- Thumb STMIA: 47_thumb.md R1564. -/
  | tStmia (rn : BitVec 3) (reglist : BitVec 8)
  /-- Thumb LDMIA: 47_thumb.md R1556. -/
  | tLdmia (rn : BitVec 3) (reglist : BitVec 8)
  /-- Thumb UNDEFINED: 47_thumb.md R1590. -/
  | tUndefined2 (any : BitVec 8)
  /-- Thumb SVC: 47_thumb.md R1580. -/
  | tSvc (imm8 : BitVec 8)
  /-- Thumb B (conditional): 47_thumb.md R1567. -/
  | tBCond (cond : BitVec 4) (imm8 : BitVec 8)
  /-- Thumb B (unconditional): 47_thumb.md R1568. -/
  | tB (imm11 : BitVec 11)
  /-- Thumb BLX (label), second halfword: 47_thumb.md R1572. -/
  | tBlxSecond (imm11 : BitVec 10)
  /-- Thumb UNDEFINED: 47_thumb.md R1590. -/
  | tUndefined3 (any : BitVec 10)
  /-- Thumb BL / BLX (label), first halfword: 47_thumb.md R1570. -/
  | tBlFirst (imm11 : BitVec 11)
  /-- Thumb BL, second halfword: 47_thumb.md R1571. -/
  | tBlSecond (imm11 : BitVec 11)
deriving DecidableEq, Repr

end Sys2Proof
end

