-- ==== Sys2Proof/WellFormed.lean ====
section
/-!
DEFINITION. Which terms of `Instr` are instructions: those whose own row of spec/opcode_table.json is the FIRST row
their word matches (30_encoding.md R880). A term that fails a check stands for a word that belongs to an earlier row.
-/
namespace Sys2Proof

/-- The condition field of a condition (30_encoding.md R834). -/
def Cond.toBits : Cond → BitVec 4
  | .eq => 0b0000#4
  | .ne => 0b0001#4
  | .cs => 0b0010#4
  | .cc => 0b0011#4
  | .mi => 0b0100#4
  | .pl => 0b0101#4
  | .vs => 0b0110#4
  | .vc => 0b0111#4
  | .hi => 0b1000#4
  | .ls => 0b1001#4
  | .ge => 0b1010#4
  | .lt => 0b1011#4
  | .gt => 0b1100#4
  | .le => 0b1101#4
  | .al => 0b1110#4

/-- Does the word match one of the rows, each given by its mask and pattern? -/
def matchesAny {n : Nat} (rows : List (BitVec n × BitVec n)) (w : BitVec n) : Bool :=
  rows.any fun r => w &&& r.1 == r.2

/-- The rows before this UNDEFINED row that share a word with it (mask, pattern). -/
def beforeUndefined2 : List (BitVec 32 × BitVec 32) :=
  [(0xFFF10020#32, 0xF1000000#32), (0xFFF100F0#32, 0xF1010000#32), (0xFF70F000#32, 0xF550F000#32), (0xFF70F010#32, 0xF750F000#32),
    (0xFFF000F0#32, 0xF5700010#32), (0xFE5FFFE0#32, 0xF84D0500#32), (0xFE50FFFF#32, 0xF8100A00#32), (0xFE000000#32, 0xFA000000#32),
    (0xFFF00000#32, 0xFC400000#32), (0xFFF00000#32, 0xFC500000#32), (0xFFE00000#32, 0xFC000000#32), (0xFE100000#32, 0xFC000000#32),
    (0xFE100000#32, 0xFC100000#32), (0xFF000010#32, 0xFE000000#32), (0xFF100010#32, 0xFE000010#32), (0xFF100010#32, 0xFE100010#32)]

/-- The rows before this UNDEFINED row that share a word with it (mask, pattern). -/
def beforeUndefined6 : List (BitVec 32 × BitVec 32) :=
  [(0x0FB000F0#32, 0x01000000#32), (0x0FB000F0#32, 0x01200000#32), (0x0FF000F0#32, 0x01200010#32), (0x0FF000F0#32, 0x01600010#32),
    (0x0FF000F0#32, 0x01200020#32), (0x0FF000F0#32, 0x01200030#32), (0x0FF000F0#32, 0x01000050#32), (0x0FF000F0#32, 0x01200050#32),
    (0x0FF000F0#32, 0x01400050#32), (0x0FF000F0#32, 0x01600050#32), (0x0FF000F0#32, 0x01200070#32), (0x0FF000F0#32, 0x01600070#32)]

/-- The rows before this UNDEFINED row that share a word with it (mask, pattern). -/
def beforeUndefined8 : List (BitVec 32 × BitVec 32) :=
  [(0x0FF000F0#32, 0x06100010#32), (0x0FF000F0#32, 0x06200010#32), (0x0FF000F0#32, 0x06300010#32), (0x0FF000F0#32, 0x06500010#32),
    (0x0FF000F0#32, 0x06600010#32), (0x0FF000F0#32, 0x06700010#32), (0x0FF000F0#32, 0x06100030#32), (0x0FF000F0#32, 0x06200030#32),
    (0x0FF000F0#32, 0x06300030#32), (0x0FF000F0#32, 0x06500030#32), (0x0FF000F0#32, 0x06600030#32), (0x0FF000F0#32, 0x06700030#32),
    (0x0FF000F0#32, 0x06100050#32), (0x0FF000F0#32, 0x06200050#32), (0x0FF000F0#32, 0x06300050#32), (0x0FF000F0#32, 0x06500050#32),
    (0x0FF000F0#32, 0x06600050#32), (0x0FF000F0#32, 0x06700050#32), (0x0FF000F0#32, 0x06100070#32), (0x0FF000F0#32, 0x06200070#32),
    (0x0FF000F0#32, 0x06300070#32), (0x0FF000F0#32, 0x06500070#32), (0x0FF000F0#32, 0x06600070#32), (0x0FF000F0#32, 0x06700070#32)] ++
  [(0x0FF000F0#32, 0x06100090#32), (0x0FF000F0#32, 0x06200090#32), (0x0FF000F0#32, 0x06300090#32), (0x0FF000F0#32, 0x06500090#32),
    (0x0FF000F0#32, 0x06600090#32), (0x0FF000F0#32, 0x06700090#32), (0x0FF000F0#32, 0x061000F0#32), (0x0FF000F0#32, 0x062000F0#32),
    (0x0FF000F0#32, 0x063000F0#32), (0x0FF000F0#32, 0x065000F0#32), (0x0FF000F0#32, 0x066000F0#32), (0x0FF000F0#32, 0x067000F0#32),
    (0x0FF000F0#32, 0x068000B0#32), (0x0FF000F0#32, 0x06B00030#32), (0x0FF000F0#32, 0x06B000B0#32), (0x0FF000F0#32, 0x06F000B0#32),
    (0x0FF000F0#32, 0x06A00030#32), (0x0FF000F0#32, 0x06E00030#32), (0x0FFF00F0#32, 0x068F0070#32), (0x0FF000F0#32, 0x06800070#32),
    (0x0FFF00F0#32, 0x06AF0070#32), (0x0FF000F0#32, 0x06A00070#32), (0x0FFF00F0#32, 0x06BF0070#32), (0x0FF000F0#32, 0x06B00070#32)] ++
  [(0x0FFF00F0#32, 0x06CF0070#32), (0x0FF000F0#32, 0x06C00070#32), (0x0FFF00F0#32, 0x06EF0070#32), (0x0FF000F0#32, 0x06E00070#32),
    (0x0FFF00F0#32, 0x06FF0070#32), (0x0FF000F0#32, 0x06F00070#32), (0x0FF00070#32, 0x06800010#32), (0x0FF00070#32, 0x06800050#32),
    (0x0FE00030#32, 0x06A00010#32), (0x0FE00030#32, 0x06E00010#32), (0x0FF0F0D0#32, 0x0700F010#32), (0x0FF000D0#32, 0x07000010#32),
    (0x0FF0F0D0#32, 0x0700F050#32), (0x0FF000D0#32, 0x07000050#32), (0x0FF000D0#32, 0x07400010#32), (0x0FF000D0#32, 0x07400050#32),
    (0x0FF0F0D0#32, 0x0750F010#32), (0x0FF000D0#32, 0x07500010#32), (0x0FF000D0#32, 0x075000D0#32), (0x0FF0F0F0#32, 0x0780F010#32),
    (0x0FF000F0#32, 0x07800010#32)]

/-- The rows before this UNDEFINED row that share a word with it (mask, pattern). -/
def beforeTUndefined1 : List (BitVec 16 × BitVec 16) :=
  [(0xFF80#16, 0xB000#16), (0xFF80#16, 0xB080#16), (0xFFC0#16, 0xB200#16), (0xFFC0#16, 0xB240#16),
    (0xFFC0#16, 0xB280#16), (0xFFC0#16, 0xB2C0#16), (0xFE00#16, 0xB400#16), (0xFFF0#16, 0xB650#16),
    (0xFFE0#16, 0xB660#16), (0xFFC0#16, 0xBA00#16), (0xFFC0#16, 0xBA40#16), (0xFFC0#16, 0xBAC0#16),
    (0xFE00#16, 0xBC00#16), (0xFF00#16, 0xBE00#16)]

/-- The well-formed instructions: the row of `i` is the first row the word of `i` matches (30_encoding.md R880). The
two CPY rows are never first: their words are also words of MOV, to which `Instr.canonical` takes them. -/
def Instr.wf : Instr → Bool
  | .cps .. => true
  | .setend .. => true
  | .pldImm .. => true
  | .pldReg .. => true
  | .clrex .. => true
  | .srs .. => true
  | .rfe .. => true
  | .blxLabel .. => true
  | .mcrr2 .. => true
  | .mrrc2 .. => true
  | .undefined1 .. => true
  | .stc2 p u _ w _ _ _ _ => p || u || w
  | .ldc2 p u _ w _ _ _ _ => p || u || w
  | .cdp2 .. => true
  | .mcr2 .. => true
  | .mrc2 .. => true
  | .undefined2 any => !matchesAny beforeUndefined2 (0b1111#4 ++ any)
  | .mul .. => true
  | .mla .. => true
  | .umaal .. => true
  | .undefined3 .. => true
  | .undefined4 .. => true
  | .umull .. => true
  | .umlal .. => true
  | .smull .. => true
  | .smlal .. => true
  | .swp .. => true
  | .swpb .. => true
  | .undefined5 _ any _ _ => !(any == 0b000#3 || any == 0b100#3)
  | .strex .. => true
  | .ldrex .. => true
  | .strexd .. => true
  | .ldrexd .. => true
  | .strexb .. => true
  | .ldrexb .. => true
  | .strexh .. => true
  | .ldrexh .. => true
  | .strhImm .. => true
  | .strhReg .. => true
  | .ldrhImm .. => true
  | .ldrhReg .. => true
  | .ldrdImm .. => true
  | .ldrdReg .. => true
  | .ldrsbImm .. => true
  | .ldrsbReg .. => true
  | .strdImm .. => true
  | .strdReg .. => true
  | .ldrshImm .. => true
  | .ldrshReg .. => true
  | .mrs .. => true
  | .msrReg .. => true
  | .bx .. => true
  | .clz .. => true
  | .bxj .. => true
  | .blxReg .. => true
  | .qadd .. => true
  | .qsub .. => true
  | .qdadd .. => true
  | .qdsub .. => true
  | .bkpt .. => true
  | .smc .. => true
  | .smlaxy .. => true
  | .smlawy .. => true
  | .smulwy .. => true
  | .smlalxy .. => true
  | .smulxy .. => true
  | .undefined6 cond any any2 any3 any4 => !matchesAny beforeUndefined6 (cond.toBits ++ 0b00010#5 ++ any ++ 0b0#1 ++ any2 ++ 0b0#1 ++ any3 ++ any4)
  | .nop .. => true
  | .yield .. => true
  | .hint _ _ _ num => !(num == 0#8 || num == 1#8)
  | .msrImm _ r mask _ _ _ => r || mask != 0#4
  | .undefined7 .. => true
  | .andImm .. => true
  | .andRegImm .. => true
  | .andRegReg .. => true
  | .eorImm .. => true
  | .eorRegImm .. => true
  | .eorRegReg .. => true
  | .subImm .. => true
  | .subRegImm .. => true
  | .subRegReg .. => true
  | .rsbImm .. => true
  | .rsbRegImm .. => true
  | .rsbRegReg .. => true
  | .addImm .. => true
  | .addRegImm .. => true
  | .addRegReg .. => true
  | .adcImm .. => true
  | .adcRegImm .. => true
  | .adcRegReg .. => true
  | .sbcImm .. => true
  | .sbcRegImm .. => true
  | .sbcRegReg .. => true
  | .rscImm .. => true
  | .rscRegImm .. => true
  | .rscRegReg .. => true
  | .tstImm .. => true
  | .tstRegImm .. => true
  | .tstRegReg .. => true
  | .teqImm .. => true
  | .teqRegImm .. => true
  | .teqRegReg .. => true
  | .cmpImm .. => true
  | .cmpRegImm .. => true
  | .cmpRegReg .. => true
  | .cmnImm .. => true
  | .cmnRegImm .. => true
  | .cmnRegReg .. => true
  | .orrImm .. => true
  | .orrRegImm .. => true
  | .orrRegReg .. => true
  | .movImm .. => true
  | .movRegImm .. => true
  | .movRegReg .. => true
  | .cpy .. => true
  | .bicImm .. => true
  | .bicRegImm .. => true
  | .bicRegReg .. => true
  | .mvnImm .. => true
  | .mvnRegImm .. => true
  | .mvnRegReg .. => true
  | .sadd16 .. => true
  | .qadd16 .. => true
  | .shadd16 .. => true
  | .uadd16 .. => true
  | .uqadd16 .. => true
  | .uhadd16 .. => true
  | .saddsubx .. => true
  | .qaddsubx .. => true
  | .shaddsubx .. => true
  | .uaddsubx .. => true
  | .uqaddsubx .. => true
  | .uhaddsubx .. => true
  | .ssubaddx .. => true
  | .qsubaddx .. => true
  | .shsubaddx .. => true
  | .usubaddx .. => true
  | .uqsubaddx .. => true
  | .uhsubaddx .. => true
  | .ssub16 .. => true
  | .qsub16 .. => true
  | .shsub16 .. => true
  | .usub16 .. => true
  | .uqsub16 .. => true
  | .uhsub16 .. => true
  | .sadd8 .. => true
  | .qadd8 .. => true
  | .shadd8 .. => true
  | .uadd8 .. => true
  | .uqadd8 .. => true
  | .uhadd8 .. => true
  | .ssub8 .. => true
  | .qsub8 .. => true
  | .shsub8 .. => true
  | .usub8 .. => true
  | .uqsub8 .. => true
  | .uhsub8 .. => true
  | .sel .. => true
  | .rev .. => true
  | .rev16 .. => true
  | .revsh .. => true
  | .ssat16 .. => true
  | .usat16 .. => true
  | .sxtb16 .. => true
  | .sxtab16 _ rn _ _ _ _ => rn != 15#4
  | .sxtb .. => true
  | .sxtab _ rn _ _ _ _ => rn != 15#4
  | .sxth .. => true
  | .sxtah _ rn _ _ _ _ => rn != 15#4
  | .uxtb16 .. => true
  | .uxtab16 _ rn _ _ _ _ => rn != 15#4
  | .uxtb .. => true
  | .uxtab _ rn _ _ _ _ => rn != 15#4
  | .uxth .. => true
  | .uxtah _ rn _ _ _ _ => rn != 15#4
  | .pkhbt .. => true
  | .pkhtb .. => true
  | .ssat .. => true
  | .usat .. => true
  | .smuad .. => true
  | .smlad _ _ rn _ _ _ => rn != 15#4
  | .smusd .. => true
  | .smlsd _ _ rn _ _ _ => rn != 15#4
  | .smlald .. => true
  | .smlsld .. => true
  | .smmul .. => true
  | .smmla _ _ rn _ _ _ => rn != 15#4
  | .smmls .. => true
  | .usad8 .. => true
  | .usada8 _ _ rn _ _ => rn != 15#4
  | .undefined8 cond any any2 => !matchesAny beforeUndefined8 (cond.toBits ++ 0b011#3 ++ any ++ 0b1#1 ++ any2)
  | .ldrtImm .. => true
  | .ldrtReg .. => true
  | .ldrbtImm .. => true
  | .ldrbtReg .. => true
  | .strtImm .. => true
  | .strtReg .. => true
  | .strbtImm .. => true
  | .strbtReg .. => true
  | .ldrImm _ p _ w _ _ _ => p || !w
  | .ldrReg _ p _ w _ _ _ _ _ => p || !w
  | .ldrbImm _ p _ w _ _ _ => p || !w
  | .ldrbReg _ p _ w _ _ _ _ _ => p || !w
  | .strImm _ p _ w _ _ _ => p || !w
  | .strReg _ p _ w _ _ _ _ _ => p || !w
  | .strbImm _ p _ w _ _ _ => p || !w
  | .strbReg _ p _ w _ _ _ _ _ => p || !w
  | .ldm3 .. => true
  | .ldm2 .. => true
  | .ldm1 .. => true
  | .stm2 .. => true
  | .stm1 .. => true
  | .b .. => true
  | .bl .. => true
  | .mcrr .. => true
  | .mrrc .. => true
  | .undefined9 .. => true
  | .stc _ p u _ w _ _ _ _ => p || u || w
  | .ldc _ p u _ w _ _ _ _ => p || u || w
  | .cdp .. => true
  | .mcr .. => true
  | .mrc .. => true
  | .svc .. => true
  | .tLslImm .. => true
  | .tLsrImm .. => true
  | .tAsrImm .. => true
  | .tAddReg .. => true
  | .tSubReg .. => true
  | .tMovLow .. => true
  | .tAddImm3 imm3 _ _ => imm3 != 0#3
  | .tSubImm3 .. => true
  | .tMovImm .. => true
  | .tCmpImm .. => true
  | .tAddImm8 .. => true
  | .tSubImm8 .. => true
  | .tAnd .. => true
  | .tEor .. => true
  | .tLslReg .. => true
  | .tLsrReg .. => true
  | .tAsrReg .. => true
  | .tAdc .. => true
  | .tSbc .. => true
  | .tRor .. => true
  | .tTst .. => true
  | .tNeg .. => true
  | .tCmpLow .. => true
  | .tCmn .. => true
  | .tOrr .. => true
  | .tMul .. => true
  | .tBic .. => true
  | .tMvn .. => true
  | .tAddHigh .. => true
  | .tCmpHigh .. => true
  | .tMovHigh .. => true
  | .tCpy .. => true
  | .tBx .. => true
  | .tBlxReg .. => true
  | .tLdrPc .. => true
  | .tStrReg .. => true
  | .tStrhReg .. => true
  | .tStrbReg .. => true
  | .tLdrsb .. => true
  | .tLdrReg .. => true
  | .tLdrhReg .. => true
  | .tLdrbReg .. => true
  | .tLdrsh .. => true
  | .tStrImm .. => true
  | .tLdrImm .. => true
  | .tStrbImm .. => true
  | .tLdrbImm .. => true
  | .tStrhImm .. => true
  | .tLdrhImm .. => true
  | .tStrSp .. => true
  | .tLdrSp .. => true
  | .tAddPc .. => true
  | .tAddSp .. => true
  | .tAddSpImm .. => true
  | .tSubSpImm .. => true
  | .tSxth .. => true
  | .tSxtb .. => true
  | .tUxth .. => true
  | .tUxtb .. => true
  | .tPush .. => true
  | .tSetend .. => true
  | .tCps .. => true
  | .tRev .. => true
  | .tRev16 .. => true
  | .tRevsh .. => true
  | .tPop .. => true
  | .tBkpt .. => true
  | .tUndefined1 any => !matchesAny beforeTUndefined1 (0b1011#4 ++ any)
  | .tStmia .. => true
  | .tLdmia .. => true
  | .tUndefined2 .. => true
  | .tSvc .. => true
  | .tBCond cond _ => !(cond == 0b1110#4 || cond == 0b1111#4)
  | .tB .. => true
  | .tBlxSecond .. => true
  | .tUndefined3 .. => true
  | .tBlFirst .. => true
  | .tBlSecond .. => true

end Sys2Proof
end

