-- ==== Sys2Proof/Decode.lean ====
section
/-!
DEFINITION. The decoder: the rows of spec/opcode_table.json in their order, the first match wins (30_encoding.md R880),
total on every word; then the encoder, written from the same rows.

The section is noncomputable because Lean's code generator numbers at most 245 constructors of a type with fields, and
`Instr` has 301: what builds an `Instr` gets no compiled code. The kernel evaluates all of it.
-/
namespace Sys2Proof

noncomputable section

/-- The instruction's stored form: one word in ARM state, one halfword in Thumb state (30_encoding.md R832). -/
inductive Words where
  | arm (w : Word)
  | thumb (h : Half)
deriving DecidableEq, Repr

/-- What a word is: an instruction, or a word that matches no row, which is an Undefined instruction
(30_encoding.md R880). -/
inductive Decoded where
  | instr (i : Instr)
  | noRow
deriving DecidableEq, Repr

/-- The condition of a condition field; 0b1111 is none (30_encoding.md R834). -/
def Cond.ofBits (b : BitVec 4) : Option Cond :=
  if b == 0b0000#4 then some .eq
  else if b == 0b0001#4 then some .ne
  else if b == 0b0010#4 then some .cs
  else if b == 0b0011#4 then some .cc
  else if b == 0b0100#4 then some .mi
  else if b == 0b0101#4 then some .pl
  else if b == 0b0110#4 then some .vs
  else if b == 0b0111#4 then some .vc
  else if b == 0b1000#4 then some .hi
  else if b == 0b1001#4 then some .ls
  else if b == 0b1010#4 then some .ge
  else if b == 0b1011#4 then some .lt
  else if b == 0b1100#4 then some .gt
  else if b == 0b1101#4 then some .le
  else if b == 0b1110#4 then some .al
  else none

/-- One row of the table: the bits it fixes, their values, and how its fields are read. -/
structure Row (n : Nat) where
  mask  : BitVec n
  pat   : BitVec n
  build : BitVec n → Option Instr

/-- A row whose instruction has a condition in bits [31:28]. -/
def condRow (mask pat : Word) (build : Cond → Word → Instr) : Row 32 :=
  ⟨mask, pat, fun w => (Cond.ofBits (w.extractLsb' 28 4)).map fun c => build c w⟩

/-- A row without a condition. -/
def plainRow {n : Nat} (mask pat : BitVec n) (build : BitVec n → Instr) : Row n :=
  ⟨mask, pat, fun w => some (build w)⟩

/-- Rows 0 to 19 of the table. -/
def armRows0 : List (Row 32) :=
  [ plainRow 0xFFF10020#32 0xF1000000#32 fun w => .cps (w.extractLsb' 18 2) (w.getLsbD 17) (w.extractLsb' 9 7) (w.getLsbD 8) (w.getLsbD 7) (w.getLsbD 6) (w.extractLsb' 0 5),
    plainRow 0xFFF100F0#32 0xF1010000#32 fun w => .setend (w.extractLsb' 17 3) (w.extractLsb' 10 6) (w.getLsbD 9) (w.getLsbD 8) (w.extractLsb' 0 4),
    plainRow 0xFF70F000#32 0xF550F000#32 fun w => .pldImm (w.getLsbD 23) (w.extractLsb' 16 4) (w.extractLsb' 0 12),
    plainRow 0xFF70F010#32 0xF750F000#32 fun w => .pldReg (w.getLsbD 23) (w.extractLsb' 16 4) (w.extractLsb' 7 5) (w.extractLsb' 5 2) (w.extractLsb' 0 4),
    plainRow 0xFFF000F0#32 0xF5700010#32 fun w => .clrex (w.extractLsb' 16 4) (w.extractLsb' 12 4) (w.extractLsb' 8 4) (w.extractLsb' 0 4),
    plainRow 0xFE5FFFE0#32 0xF84D0500#32 fun w => .srs (w.getLsbD 24) (w.getLsbD 23) (w.getLsbD 21) (w.extractLsb' 0 5),
    plainRow 0xFE50FFFF#32 0xF8100A00#32 fun w => .rfe (w.getLsbD 24) (w.getLsbD 23) (w.getLsbD 21) (w.extractLsb' 16 4),
    plainRow 0xFE000000#32 0xFA000000#32 fun w => .blxLabel (w.getLsbD 24) (w.extractLsb' 0 24),
    plainRow 0xFFF00000#32 0xFC400000#32 fun w => .mcrr2 (w.extractLsb' 16 4) (w.extractLsb' 12 4) (w.extractLsb' 8 4) (w.extractLsb' 4 4) (w.extractLsb' 0 4),
    plainRow 0xFFF00000#32 0xFC500000#32 fun w => .mrrc2 (w.extractLsb' 16 4) (w.extractLsb' 12 4) (w.extractLsb' 8 4) (w.extractLsb' 4 4) (w.extractLsb' 0 4),
    plainRow 0xFFE00000#32 0xFC000000#32 fun w => .undefined1 (w.getLsbD 20) (w.extractLsb' 0 20),
    plainRow 0xFE100000#32 0xFC000000#32 fun w => .stc2 (w.getLsbD 24) (w.getLsbD 23) (w.getLsbD 22) (w.getLsbD 21) (w.extractLsb' 16 4) (w.extractLsb' 12 4) (w.extractLsb' 8 4) (w.extractLsb' 0 8),
    plainRow 0xFE100000#32 0xFC100000#32 fun w => .ldc2 (w.getLsbD 24) (w.getLsbD 23) (w.getLsbD 22) (w.getLsbD 21) (w.extractLsb' 16 4) (w.extractLsb' 12 4) (w.extractLsb' 8 4) (w.extractLsb' 0 8),
    plainRow 0xFF000010#32 0xFE000000#32 fun w => .cdp2 (w.extractLsb' 20 4) (w.extractLsb' 16 4) (w.extractLsb' 12 4) (w.extractLsb' 8 4) (w.extractLsb' 5 3) (w.extractLsb' 0 4),
    plainRow 0xFF100010#32 0xFE000010#32 fun w => .mcr2 (w.extractLsb' 21 3) (w.extractLsb' 16 4) (w.extractLsb' 12 4) (w.extractLsb' 8 4) (w.extractLsb' 5 3) (w.extractLsb' 0 4),
    plainRow 0xFF100010#32 0xFE100010#32 fun w => .mrc2 (w.extractLsb' 21 3) (w.extractLsb' 16 4) (w.extractLsb' 12 4) (w.extractLsb' 8 4) (w.extractLsb' 5 3) (w.extractLsb' 0 4),
    plainRow 0xF0000000#32 0xF0000000#32 fun w => .undefined2 (w.extractLsb' 0 28),
    condRow 0x0FE000F0#32 0x00000090#32 fun c w => .mul c (w.getLsbD 20) (w.extractLsb' 16 4) (w.extractLsb' 12 4) (w.extractLsb' 8 4) (w.extractLsb' 0 4),
    condRow 0x0FE000F0#32 0x00200090#32 fun c w => .mla c (w.getLsbD 20) (w.extractLsb' 16 4) (w.extractLsb' 12 4) (w.extractLsb' 8 4) (w.extractLsb' 0 4),
    condRow 0x0FF000F0#32 0x00400090#32 fun c w => .umaal c (w.extractLsb' 16 4) (w.extractLsb' 12 4) (w.extractLsb' 8 4) (w.extractLsb' 0 4) ]

/-- Rows 20 to 39 of the table. -/
def armRows1 : List (Row 32) :=
  [ condRow 0x0FF000F0#32 0x00500090#32 fun c w => .undefined3 c (w.extractLsb' 8 12) (w.extractLsb' 0 4),
    condRow 0x0FE000F0#32 0x00600090#32 fun c w => .undefined4 c (w.getLsbD 20) (w.extractLsb' 8 12) (w.extractLsb' 0 4),
    condRow 0x0FE000F0#32 0x00800090#32 fun c w => .umull c (w.getLsbD 20) (w.extractLsb' 16 4) (w.extractLsb' 12 4) (w.extractLsb' 8 4) (w.extractLsb' 0 4),
    condRow 0x0FE000F0#32 0x00A00090#32 fun c w => .umlal c (w.getLsbD 20) (w.extractLsb' 16 4) (w.extractLsb' 12 4) (w.extractLsb' 8 4) (w.extractLsb' 0 4),
    condRow 0x0FE000F0#32 0x00C00090#32 fun c w => .smull c (w.getLsbD 20) (w.extractLsb' 16 4) (w.extractLsb' 12 4) (w.extractLsb' 8 4) (w.extractLsb' 0 4),
    condRow 0x0FE000F0#32 0x00E00090#32 fun c w => .smlal c (w.getLsbD 20) (w.extractLsb' 16 4) (w.extractLsb' 12 4) (w.extractLsb' 8 4) (w.extractLsb' 0 4),
    condRow 0x0FF000F0#32 0x01000090#32 fun c w => .swp c (w.extractLsb' 16 4) (w.extractLsb' 12 4) (w.extractLsb' 8 4) (w.extractLsb' 0 4),
    condRow 0x0FF000F0#32 0x01400090#32 fun c w => .swpb c (w.extractLsb' 16 4) (w.extractLsb' 12 4) (w.extractLsb' 8 4) (w.extractLsb' 0 4),
    condRow 0x0F8000F0#32 0x01000090#32 fun c w => .undefined5 c (w.extractLsb' 20 3) (w.extractLsb' 8 12) (w.extractLsb' 0 4),
    condRow 0x0FF000F0#32 0x01800090#32 fun c w => .strex c (w.extractLsb' 16 4) (w.extractLsb' 12 4) (w.extractLsb' 8 4) (w.extractLsb' 0 4),
    condRow 0x0FF000F0#32 0x01900090#32 fun c w => .ldrex c (w.extractLsb' 16 4) (w.extractLsb' 12 4) (w.extractLsb' 8 4) (w.extractLsb' 0 4),
    condRow 0x0FF000F0#32 0x01A00090#32 fun c w => .strexd c (w.extractLsb' 16 4) (w.extractLsb' 12 4) (w.extractLsb' 8 4) (w.extractLsb' 0 4),
    condRow 0x0FF000F0#32 0x01B00090#32 fun c w => .ldrexd c (w.extractLsb' 16 4) (w.extractLsb' 12 4) (w.extractLsb' 8 4) (w.extractLsb' 0 4),
    condRow 0x0FF000F0#32 0x01C00090#32 fun c w => .strexb c (w.extractLsb' 16 4) (w.extractLsb' 12 4) (w.extractLsb' 8 4) (w.extractLsb' 0 4),
    condRow 0x0FF000F0#32 0x01D00090#32 fun c w => .ldrexb c (w.extractLsb' 16 4) (w.extractLsb' 12 4) (w.extractLsb' 8 4) (w.extractLsb' 0 4),
    condRow 0x0FF000F0#32 0x01E00090#32 fun c w => .strexh c (w.extractLsb' 16 4) (w.extractLsb' 12 4) (w.extractLsb' 8 4) (w.extractLsb' 0 4),
    condRow 0x0FF000F0#32 0x01F00090#32 fun c w => .ldrexh c (w.extractLsb' 16 4) (w.extractLsb' 12 4) (w.extractLsb' 8 4) (w.extractLsb' 0 4),
    condRow 0x0E5000F0#32 0x004000B0#32 fun c w => .strhImm c (w.getLsbD 24) (w.getLsbD 23) (w.getLsbD 21) (w.extractLsb' 16 4) (w.extractLsb' 12 4) (w.extractLsb' 8 4) (w.extractLsb' 0 4),
    condRow 0x0E5000F0#32 0x000000B0#32 fun c w => .strhReg c (w.getLsbD 24) (w.getLsbD 23) (w.getLsbD 21) (w.extractLsb' 16 4) (w.extractLsb' 12 4) (w.extractLsb' 8 4) (w.extractLsb' 0 4),
    condRow 0x0E5000F0#32 0x005000B0#32 fun c w => .ldrhImm c (w.getLsbD 24) (w.getLsbD 23) (w.getLsbD 21) (w.extractLsb' 16 4) (w.extractLsb' 12 4) (w.extractLsb' 8 4) (w.extractLsb' 0 4) ]

/-- Rows 40 to 59 of the table. -/
def armRows2 : List (Row 32) :=
  [ condRow 0x0E5000F0#32 0x001000B0#32 fun c w => .ldrhReg c (w.getLsbD 24) (w.getLsbD 23) (w.getLsbD 21) (w.extractLsb' 16 4) (w.extractLsb' 12 4) (w.extractLsb' 8 4) (w.extractLsb' 0 4),
    condRow 0x0E5000F0#32 0x004000D0#32 fun c w => .ldrdImm c (w.getLsbD 24) (w.getLsbD 23) (w.getLsbD 21) (w.extractLsb' 16 4) (w.extractLsb' 12 4) (w.extractLsb' 8 4) (w.extractLsb' 0 4),
    condRow 0x0E5000F0#32 0x000000D0#32 fun c w => .ldrdReg c (w.getLsbD 24) (w.getLsbD 23) (w.getLsbD 21) (w.extractLsb' 16 4) (w.extractLsb' 12 4) (w.extractLsb' 8 4) (w.extractLsb' 0 4),
    condRow 0x0E5000F0#32 0x005000D0#32 fun c w => .ldrsbImm c (w.getLsbD 24) (w.getLsbD 23) (w.getLsbD 21) (w.extractLsb' 16 4) (w.extractLsb' 12 4) (w.extractLsb' 8 4) (w.extractLsb' 0 4),
    condRow 0x0E5000F0#32 0x001000D0#32 fun c w => .ldrsbReg c (w.getLsbD 24) (w.getLsbD 23) (w.getLsbD 21) (w.extractLsb' 16 4) (w.extractLsb' 12 4) (w.extractLsb' 8 4) (w.extractLsb' 0 4),
    condRow 0x0E5000F0#32 0x004000F0#32 fun c w => .strdImm c (w.getLsbD 24) (w.getLsbD 23) (w.getLsbD 21) (w.extractLsb' 16 4) (w.extractLsb' 12 4) (w.extractLsb' 8 4) (w.extractLsb' 0 4),
    condRow 0x0E5000F0#32 0x000000F0#32 fun c w => .strdReg c (w.getLsbD 24) (w.getLsbD 23) (w.getLsbD 21) (w.extractLsb' 16 4) (w.extractLsb' 12 4) (w.extractLsb' 8 4) (w.extractLsb' 0 4),
    condRow 0x0E5000F0#32 0x005000F0#32 fun c w => .ldrshImm c (w.getLsbD 24) (w.getLsbD 23) (w.getLsbD 21) (w.extractLsb' 16 4) (w.extractLsb' 12 4) (w.extractLsb' 8 4) (w.extractLsb' 0 4),
    condRow 0x0E5000F0#32 0x001000F0#32 fun c w => .ldrshReg c (w.getLsbD 24) (w.getLsbD 23) (w.getLsbD 21) (w.extractLsb' 16 4) (w.extractLsb' 12 4) (w.extractLsb' 8 4) (w.extractLsb' 0 4),
    condRow 0x0FB000F0#32 0x01000000#32 fun c w => .mrs c (w.getLsbD 22) (w.extractLsb' 16 4) (w.extractLsb' 12 4) (w.extractLsb' 8 4) (w.extractLsb' 0 4),
    condRow 0x0FB000F0#32 0x01200000#32 fun c w => .msrReg c (w.getLsbD 22) (w.extractLsb' 16 4) (w.extractLsb' 12 4) (w.extractLsb' 8 4) (w.extractLsb' 0 4),
    condRow 0x0FF000F0#32 0x01200010#32 fun c w => .bx c (w.extractLsb' 16 4) (w.extractLsb' 12 4) (w.extractLsb' 8 4) (w.extractLsb' 0 4),
    condRow 0x0FF000F0#32 0x01600010#32 fun c w => .clz c (w.extractLsb' 16 4) (w.extractLsb' 12 4) (w.extractLsb' 8 4) (w.extractLsb' 0 4),
    condRow 0x0FF000F0#32 0x01200020#32 fun c w => .bxj c (w.extractLsb' 16 4) (w.extractLsb' 12 4) (w.extractLsb' 8 4) (w.extractLsb' 0 4),
    condRow 0x0FF000F0#32 0x01200030#32 fun c w => .blxReg c (w.extractLsb' 16 4) (w.extractLsb' 12 4) (w.extractLsb' 8 4) (w.extractLsb' 0 4),
    condRow 0x0FF000F0#32 0x01000050#32 fun c w => .qadd c (w.extractLsb' 16 4) (w.extractLsb' 12 4) (w.extractLsb' 8 4) (w.extractLsb' 0 4),
    condRow 0x0FF000F0#32 0x01200050#32 fun c w => .qsub c (w.extractLsb' 16 4) (w.extractLsb' 12 4) (w.extractLsb' 8 4) (w.extractLsb' 0 4),
    condRow 0x0FF000F0#32 0x01400050#32 fun c w => .qdadd c (w.extractLsb' 16 4) (w.extractLsb' 12 4) (w.extractLsb' 8 4) (w.extractLsb' 0 4),
    condRow 0x0FF000F0#32 0x01600050#32 fun c w => .qdsub c (w.extractLsb' 16 4) (w.extractLsb' 12 4) (w.extractLsb' 8 4) (w.extractLsb' 0 4),
    condRow 0x0FF000F0#32 0x01200070#32 fun c w => .bkpt c (w.extractLsb' 8 12) (w.extractLsb' 0 4) ]

/-- Rows 60 to 79 of the table. -/
def armRows3 : List (Row 32) :=
  [ condRow 0x0FF000F0#32 0x01600070#32 fun c w => .smc c (w.extractLsb' 8 12) (w.extractLsb' 0 4),
    condRow 0x0FF00090#32 0x01000080#32 fun c w => .smlaxy c (w.extractLsb' 16 4) (w.extractLsb' 12 4) (w.extractLsb' 8 4) (w.getLsbD 6) (w.getLsbD 5) (w.extractLsb' 0 4),
    condRow 0x0FF000B0#32 0x01200080#32 fun c w => .smlawy c (w.extractLsb' 16 4) (w.extractLsb' 12 4) (w.extractLsb' 8 4) (w.getLsbD 6) (w.extractLsb' 0 4),
    condRow 0x0FF000B0#32 0x012000A0#32 fun c w => .smulwy c (w.extractLsb' 16 4) (w.extractLsb' 12 4) (w.extractLsb' 8 4) (w.getLsbD 6) (w.extractLsb' 0 4),
    condRow 0x0FF00090#32 0x01400080#32 fun c w => .smlalxy c (w.extractLsb' 16 4) (w.extractLsb' 12 4) (w.extractLsb' 8 4) (w.getLsbD 6) (w.getLsbD 5) (w.extractLsb' 0 4),
    condRow 0x0FF00090#32 0x01600080#32 fun c w => .smulxy c (w.extractLsb' 16 4) (w.extractLsb' 12 4) (w.extractLsb' 8 4) (w.getLsbD 6) (w.getLsbD 5) (w.extractLsb' 0 4),
    condRow 0x0F900080#32 0x01000000#32 fun c w => .undefined6 c (w.extractLsb' 21 2) (w.extractLsb' 8 12) (w.extractLsb' 4 3) (w.extractLsb' 0 4),
    condRow 0x0FFF00FF#32 0x03200000#32 fun c w => .nop c (w.extractLsb' 12 4) (w.extractLsb' 8 4),
    condRow 0x0FFF00FF#32 0x03200001#32 fun c w => .yield c (w.extractLsb' 12 4) (w.extractLsb' 8 4),
    condRow 0x0FFF0000#32 0x03200000#32 fun c w => .hint c (w.extractLsb' 12 4) (w.extractLsb' 8 4) (w.extractLsb' 0 8),
    condRow 0x0FB00000#32 0x03200000#32 fun c w => .msrImm c (w.getLsbD 22) (w.extractLsb' 16 4) (w.extractLsb' 12 4) (w.extractLsb' 8 4) (w.extractLsb' 0 8),
    condRow 0x0FB00000#32 0x03000000#32 fun c w => .undefined7 c (w.getLsbD 22) (w.extractLsb' 0 20),
    condRow 0x0FE00000#32 0x02000000#32 fun c w => .andImm c (w.getLsbD 20) (w.extractLsb' 16 4) (w.extractLsb' 12 4) (w.extractLsb' 8 4) (w.extractLsb' 0 8),
    condRow 0x0FE00010#32 0x00000000#32 fun c w => .andRegImm c (w.getLsbD 20) (w.extractLsb' 16 4) (w.extractLsb' 12 4) (w.extractLsb' 7 5) (w.extractLsb' 5 2) (w.extractLsb' 0 4),
    condRow 0x0FE00090#32 0x00000010#32 fun c w => .andRegReg c (w.getLsbD 20) (w.extractLsb' 16 4) (w.extractLsb' 12 4) (w.extractLsb' 8 4) (w.extractLsb' 5 2) (w.extractLsb' 0 4),
    condRow 0x0FE00000#32 0x02200000#32 fun c w => .eorImm c (w.getLsbD 20) (w.extractLsb' 16 4) (w.extractLsb' 12 4) (w.extractLsb' 8 4) (w.extractLsb' 0 8),
    condRow 0x0FE00010#32 0x00200000#32 fun c w => .eorRegImm c (w.getLsbD 20) (w.extractLsb' 16 4) (w.extractLsb' 12 4) (w.extractLsb' 7 5) (w.extractLsb' 5 2) (w.extractLsb' 0 4),
    condRow 0x0FE00090#32 0x00200010#32 fun c w => .eorRegReg c (w.getLsbD 20) (w.extractLsb' 16 4) (w.extractLsb' 12 4) (w.extractLsb' 8 4) (w.extractLsb' 5 2) (w.extractLsb' 0 4),
    condRow 0x0FE00000#32 0x02400000#32 fun c w => .subImm c (w.getLsbD 20) (w.extractLsb' 16 4) (w.extractLsb' 12 4) (w.extractLsb' 8 4) (w.extractLsb' 0 8),
    condRow 0x0FE00010#32 0x00400000#32 fun c w => .subRegImm c (w.getLsbD 20) (w.extractLsb' 16 4) (w.extractLsb' 12 4) (w.extractLsb' 7 5) (w.extractLsb' 5 2) (w.extractLsb' 0 4) ]

/-- Rows 80 to 99 of the table. -/
def armRows4 : List (Row 32) :=
  [ condRow 0x0FE00090#32 0x00400010#32 fun c w => .subRegReg c (w.getLsbD 20) (w.extractLsb' 16 4) (w.extractLsb' 12 4) (w.extractLsb' 8 4) (w.extractLsb' 5 2) (w.extractLsb' 0 4),
    condRow 0x0FE00000#32 0x02600000#32 fun c w => .rsbImm c (w.getLsbD 20) (w.extractLsb' 16 4) (w.extractLsb' 12 4) (w.extractLsb' 8 4) (w.extractLsb' 0 8),
    condRow 0x0FE00010#32 0x00600000#32 fun c w => .rsbRegImm c (w.getLsbD 20) (w.extractLsb' 16 4) (w.extractLsb' 12 4) (w.extractLsb' 7 5) (w.extractLsb' 5 2) (w.extractLsb' 0 4),
    condRow 0x0FE00090#32 0x00600010#32 fun c w => .rsbRegReg c (w.getLsbD 20) (w.extractLsb' 16 4) (w.extractLsb' 12 4) (w.extractLsb' 8 4) (w.extractLsb' 5 2) (w.extractLsb' 0 4),
    condRow 0x0FE00000#32 0x02800000#32 fun c w => .addImm c (w.getLsbD 20) (w.extractLsb' 16 4) (w.extractLsb' 12 4) (w.extractLsb' 8 4) (w.extractLsb' 0 8),
    condRow 0x0FE00010#32 0x00800000#32 fun c w => .addRegImm c (w.getLsbD 20) (w.extractLsb' 16 4) (w.extractLsb' 12 4) (w.extractLsb' 7 5) (w.extractLsb' 5 2) (w.extractLsb' 0 4),
    condRow 0x0FE00090#32 0x00800010#32 fun c w => .addRegReg c (w.getLsbD 20) (w.extractLsb' 16 4) (w.extractLsb' 12 4) (w.extractLsb' 8 4) (w.extractLsb' 5 2) (w.extractLsb' 0 4),
    condRow 0x0FE00000#32 0x02A00000#32 fun c w => .adcImm c (w.getLsbD 20) (w.extractLsb' 16 4) (w.extractLsb' 12 4) (w.extractLsb' 8 4) (w.extractLsb' 0 8),
    condRow 0x0FE00010#32 0x00A00000#32 fun c w => .adcRegImm c (w.getLsbD 20) (w.extractLsb' 16 4) (w.extractLsb' 12 4) (w.extractLsb' 7 5) (w.extractLsb' 5 2) (w.extractLsb' 0 4),
    condRow 0x0FE00090#32 0x00A00010#32 fun c w => .adcRegReg c (w.getLsbD 20) (w.extractLsb' 16 4) (w.extractLsb' 12 4) (w.extractLsb' 8 4) (w.extractLsb' 5 2) (w.extractLsb' 0 4),
    condRow 0x0FE00000#32 0x02C00000#32 fun c w => .sbcImm c (w.getLsbD 20) (w.extractLsb' 16 4) (w.extractLsb' 12 4) (w.extractLsb' 8 4) (w.extractLsb' 0 8),
    condRow 0x0FE00010#32 0x00C00000#32 fun c w => .sbcRegImm c (w.getLsbD 20) (w.extractLsb' 16 4) (w.extractLsb' 12 4) (w.extractLsb' 7 5) (w.extractLsb' 5 2) (w.extractLsb' 0 4),
    condRow 0x0FE00090#32 0x00C00010#32 fun c w => .sbcRegReg c (w.getLsbD 20) (w.extractLsb' 16 4) (w.extractLsb' 12 4) (w.extractLsb' 8 4) (w.extractLsb' 5 2) (w.extractLsb' 0 4),
    condRow 0x0FE00000#32 0x02E00000#32 fun c w => .rscImm c (w.getLsbD 20) (w.extractLsb' 16 4) (w.extractLsb' 12 4) (w.extractLsb' 8 4) (w.extractLsb' 0 8),
    condRow 0x0FE00010#32 0x00E00000#32 fun c w => .rscRegImm c (w.getLsbD 20) (w.extractLsb' 16 4) (w.extractLsb' 12 4) (w.extractLsb' 7 5) (w.extractLsb' 5 2) (w.extractLsb' 0 4),
    condRow 0x0FE00090#32 0x00E00010#32 fun c w => .rscRegReg c (w.getLsbD 20) (w.extractLsb' 16 4) (w.extractLsb' 12 4) (w.extractLsb' 8 4) (w.extractLsb' 5 2) (w.extractLsb' 0 4),
    condRow 0x0FF00000#32 0x03100000#32 fun c w => .tstImm c (w.extractLsb' 16 4) (w.extractLsb' 12 4) (w.extractLsb' 8 4) (w.extractLsb' 0 8),
    condRow 0x0FF00010#32 0x01100000#32 fun c w => .tstRegImm c (w.extractLsb' 16 4) (w.extractLsb' 12 4) (w.extractLsb' 7 5) (w.extractLsb' 5 2) (w.extractLsb' 0 4),
    condRow 0x0FF00090#32 0x01100010#32 fun c w => .tstRegReg c (w.extractLsb' 16 4) (w.extractLsb' 12 4) (w.extractLsb' 8 4) (w.extractLsb' 5 2) (w.extractLsb' 0 4),
    condRow 0x0FF00000#32 0x03300000#32 fun c w => .teqImm c (w.extractLsb' 16 4) (w.extractLsb' 12 4) (w.extractLsb' 8 4) (w.extractLsb' 0 8) ]

/-- Rows 100 to 119 of the table. -/
def armRows5 : List (Row 32) :=
  [ condRow 0x0FF00010#32 0x01300000#32 fun c w => .teqRegImm c (w.extractLsb' 16 4) (w.extractLsb' 12 4) (w.extractLsb' 7 5) (w.extractLsb' 5 2) (w.extractLsb' 0 4),
    condRow 0x0FF00090#32 0x01300010#32 fun c w => .teqRegReg c (w.extractLsb' 16 4) (w.extractLsb' 12 4) (w.extractLsb' 8 4) (w.extractLsb' 5 2) (w.extractLsb' 0 4),
    condRow 0x0FF00000#32 0x03500000#32 fun c w => .cmpImm c (w.extractLsb' 16 4) (w.extractLsb' 12 4) (w.extractLsb' 8 4) (w.extractLsb' 0 8),
    condRow 0x0FF00010#32 0x01500000#32 fun c w => .cmpRegImm c (w.extractLsb' 16 4) (w.extractLsb' 12 4) (w.extractLsb' 7 5) (w.extractLsb' 5 2) (w.extractLsb' 0 4),
    condRow 0x0FF00090#32 0x01500010#32 fun c w => .cmpRegReg c (w.extractLsb' 16 4) (w.extractLsb' 12 4) (w.extractLsb' 8 4) (w.extractLsb' 5 2) (w.extractLsb' 0 4),
    condRow 0x0FF00000#32 0x03700000#32 fun c w => .cmnImm c (w.extractLsb' 16 4) (w.extractLsb' 12 4) (w.extractLsb' 8 4) (w.extractLsb' 0 8),
    condRow 0x0FF00010#32 0x01700000#32 fun c w => .cmnRegImm c (w.extractLsb' 16 4) (w.extractLsb' 12 4) (w.extractLsb' 7 5) (w.extractLsb' 5 2) (w.extractLsb' 0 4),
    condRow 0x0FF00090#32 0x01700010#32 fun c w => .cmnRegReg c (w.extractLsb' 16 4) (w.extractLsb' 12 4) (w.extractLsb' 8 4) (w.extractLsb' 5 2) (w.extractLsb' 0 4),
    condRow 0x0FE00000#32 0x03800000#32 fun c w => .orrImm c (w.getLsbD 20) (w.extractLsb' 16 4) (w.extractLsb' 12 4) (w.extractLsb' 8 4) (w.extractLsb' 0 8),
    condRow 0x0FE00010#32 0x01800000#32 fun c w => .orrRegImm c (w.getLsbD 20) (w.extractLsb' 16 4) (w.extractLsb' 12 4) (w.extractLsb' 7 5) (w.extractLsb' 5 2) (w.extractLsb' 0 4),
    condRow 0x0FE00090#32 0x01800010#32 fun c w => .orrRegReg c (w.getLsbD 20) (w.extractLsb' 16 4) (w.extractLsb' 12 4) (w.extractLsb' 8 4) (w.extractLsb' 5 2) (w.extractLsb' 0 4),
    condRow 0x0FE00000#32 0x03A00000#32 fun c w => .movImm c (w.getLsbD 20) (w.extractLsb' 16 4) (w.extractLsb' 12 4) (w.extractLsb' 8 4) (w.extractLsb' 0 8),
    condRow 0x0FE00010#32 0x01A00000#32 fun c w => .movRegImm c (w.getLsbD 20) (w.extractLsb' 16 4) (w.extractLsb' 12 4) (w.extractLsb' 7 5) (w.extractLsb' 5 2) (w.extractLsb' 0 4),
    condRow 0x0FE00090#32 0x01A00010#32 fun c w => .movRegReg c (w.getLsbD 20) (w.extractLsb' 16 4) (w.extractLsb' 12 4) (w.extractLsb' 8 4) (w.extractLsb' 5 2) (w.extractLsb' 0 4),
    condRow 0x0FFF0FF0#32 0x01A00000#32 fun c w => .cpy c (w.extractLsb' 12 4) (w.extractLsb' 0 4),
    condRow 0x0FE00000#32 0x03C00000#32 fun c w => .bicImm c (w.getLsbD 20) (w.extractLsb' 16 4) (w.extractLsb' 12 4) (w.extractLsb' 8 4) (w.extractLsb' 0 8),
    condRow 0x0FE00010#32 0x01C00000#32 fun c w => .bicRegImm c (w.getLsbD 20) (w.extractLsb' 16 4) (w.extractLsb' 12 4) (w.extractLsb' 7 5) (w.extractLsb' 5 2) (w.extractLsb' 0 4),
    condRow 0x0FE00090#32 0x01C00010#32 fun c w => .bicRegReg c (w.getLsbD 20) (w.extractLsb' 16 4) (w.extractLsb' 12 4) (w.extractLsb' 8 4) (w.extractLsb' 5 2) (w.extractLsb' 0 4),
    condRow 0x0FE00000#32 0x03E00000#32 fun c w => .mvnImm c (w.getLsbD 20) (w.extractLsb' 16 4) (w.extractLsb' 12 4) (w.extractLsb' 8 4) (w.extractLsb' 0 8),
    condRow 0x0FE00010#32 0x01E00000#32 fun c w => .mvnRegImm c (w.getLsbD 20) (w.extractLsb' 16 4) (w.extractLsb' 12 4) (w.extractLsb' 7 5) (w.extractLsb' 5 2) (w.extractLsb' 0 4) ]

/-- Rows 120 to 139 of the table. -/
def armRows6 : List (Row 32) :=
  [ condRow 0x0FE00090#32 0x01E00010#32 fun c w => .mvnRegReg c (w.getLsbD 20) (w.extractLsb' 16 4) (w.extractLsb' 12 4) (w.extractLsb' 8 4) (w.extractLsb' 5 2) (w.extractLsb' 0 4),
    condRow 0x0FF000F0#32 0x06100010#32 fun c w => .sadd16 c (w.extractLsb' 16 4) (w.extractLsb' 12 4) (w.extractLsb' 8 4) (w.extractLsb' 0 4),
    condRow 0x0FF000F0#32 0x06200010#32 fun c w => .qadd16 c (w.extractLsb' 16 4) (w.extractLsb' 12 4) (w.extractLsb' 8 4) (w.extractLsb' 0 4),
    condRow 0x0FF000F0#32 0x06300010#32 fun c w => .shadd16 c (w.extractLsb' 16 4) (w.extractLsb' 12 4) (w.extractLsb' 8 4) (w.extractLsb' 0 4),
    condRow 0x0FF000F0#32 0x06500010#32 fun c w => .uadd16 c (w.extractLsb' 16 4) (w.extractLsb' 12 4) (w.extractLsb' 8 4) (w.extractLsb' 0 4),
    condRow 0x0FF000F0#32 0x06600010#32 fun c w => .uqadd16 c (w.extractLsb' 16 4) (w.extractLsb' 12 4) (w.extractLsb' 8 4) (w.extractLsb' 0 4),
    condRow 0x0FF000F0#32 0x06700010#32 fun c w => .uhadd16 c (w.extractLsb' 16 4) (w.extractLsb' 12 4) (w.extractLsb' 8 4) (w.extractLsb' 0 4),
    condRow 0x0FF000F0#32 0x06100030#32 fun c w => .saddsubx c (w.extractLsb' 16 4) (w.extractLsb' 12 4) (w.extractLsb' 8 4) (w.extractLsb' 0 4),
    condRow 0x0FF000F0#32 0x06200030#32 fun c w => .qaddsubx c (w.extractLsb' 16 4) (w.extractLsb' 12 4) (w.extractLsb' 8 4) (w.extractLsb' 0 4),
    condRow 0x0FF000F0#32 0x06300030#32 fun c w => .shaddsubx c (w.extractLsb' 16 4) (w.extractLsb' 12 4) (w.extractLsb' 8 4) (w.extractLsb' 0 4),
    condRow 0x0FF000F0#32 0x06500030#32 fun c w => .uaddsubx c (w.extractLsb' 16 4) (w.extractLsb' 12 4) (w.extractLsb' 8 4) (w.extractLsb' 0 4),
    condRow 0x0FF000F0#32 0x06600030#32 fun c w => .uqaddsubx c (w.extractLsb' 16 4) (w.extractLsb' 12 4) (w.extractLsb' 8 4) (w.extractLsb' 0 4),
    condRow 0x0FF000F0#32 0x06700030#32 fun c w => .uhaddsubx c (w.extractLsb' 16 4) (w.extractLsb' 12 4) (w.extractLsb' 8 4) (w.extractLsb' 0 4),
    condRow 0x0FF000F0#32 0x06100050#32 fun c w => .ssubaddx c (w.extractLsb' 16 4) (w.extractLsb' 12 4) (w.extractLsb' 8 4) (w.extractLsb' 0 4),
    condRow 0x0FF000F0#32 0x06200050#32 fun c w => .qsubaddx c (w.extractLsb' 16 4) (w.extractLsb' 12 4) (w.extractLsb' 8 4) (w.extractLsb' 0 4),
    condRow 0x0FF000F0#32 0x06300050#32 fun c w => .shsubaddx c (w.extractLsb' 16 4) (w.extractLsb' 12 4) (w.extractLsb' 8 4) (w.extractLsb' 0 4),
    condRow 0x0FF000F0#32 0x06500050#32 fun c w => .usubaddx c (w.extractLsb' 16 4) (w.extractLsb' 12 4) (w.extractLsb' 8 4) (w.extractLsb' 0 4),
    condRow 0x0FF000F0#32 0x06600050#32 fun c w => .uqsubaddx c (w.extractLsb' 16 4) (w.extractLsb' 12 4) (w.extractLsb' 8 4) (w.extractLsb' 0 4),
    condRow 0x0FF000F0#32 0x06700050#32 fun c w => .uhsubaddx c (w.extractLsb' 16 4) (w.extractLsb' 12 4) (w.extractLsb' 8 4) (w.extractLsb' 0 4),
    condRow 0x0FF000F0#32 0x06100070#32 fun c w => .ssub16 c (w.extractLsb' 16 4) (w.extractLsb' 12 4) (w.extractLsb' 8 4) (w.extractLsb' 0 4) ]

/-- Rows 140 to 159 of the table. -/
def armRows7 : List (Row 32) :=
  [ condRow 0x0FF000F0#32 0x06200070#32 fun c w => .qsub16 c (w.extractLsb' 16 4) (w.extractLsb' 12 4) (w.extractLsb' 8 4) (w.extractLsb' 0 4),
    condRow 0x0FF000F0#32 0x06300070#32 fun c w => .shsub16 c (w.extractLsb' 16 4) (w.extractLsb' 12 4) (w.extractLsb' 8 4) (w.extractLsb' 0 4),
    condRow 0x0FF000F0#32 0x06500070#32 fun c w => .usub16 c (w.extractLsb' 16 4) (w.extractLsb' 12 4) (w.extractLsb' 8 4) (w.extractLsb' 0 4),
    condRow 0x0FF000F0#32 0x06600070#32 fun c w => .uqsub16 c (w.extractLsb' 16 4) (w.extractLsb' 12 4) (w.extractLsb' 8 4) (w.extractLsb' 0 4),
    condRow 0x0FF000F0#32 0x06700070#32 fun c w => .uhsub16 c (w.extractLsb' 16 4) (w.extractLsb' 12 4) (w.extractLsb' 8 4) (w.extractLsb' 0 4),
    condRow 0x0FF000F0#32 0x06100090#32 fun c w => .sadd8 c (w.extractLsb' 16 4) (w.extractLsb' 12 4) (w.extractLsb' 8 4) (w.extractLsb' 0 4),
    condRow 0x0FF000F0#32 0x06200090#32 fun c w => .qadd8 c (w.extractLsb' 16 4) (w.extractLsb' 12 4) (w.extractLsb' 8 4) (w.extractLsb' 0 4),
    condRow 0x0FF000F0#32 0x06300090#32 fun c w => .shadd8 c (w.extractLsb' 16 4) (w.extractLsb' 12 4) (w.extractLsb' 8 4) (w.extractLsb' 0 4),
    condRow 0x0FF000F0#32 0x06500090#32 fun c w => .uadd8 c (w.extractLsb' 16 4) (w.extractLsb' 12 4) (w.extractLsb' 8 4) (w.extractLsb' 0 4),
    condRow 0x0FF000F0#32 0x06600090#32 fun c w => .uqadd8 c (w.extractLsb' 16 4) (w.extractLsb' 12 4) (w.extractLsb' 8 4) (w.extractLsb' 0 4),
    condRow 0x0FF000F0#32 0x06700090#32 fun c w => .uhadd8 c (w.extractLsb' 16 4) (w.extractLsb' 12 4) (w.extractLsb' 8 4) (w.extractLsb' 0 4),
    condRow 0x0FF000F0#32 0x061000F0#32 fun c w => .ssub8 c (w.extractLsb' 16 4) (w.extractLsb' 12 4) (w.extractLsb' 8 4) (w.extractLsb' 0 4),
    condRow 0x0FF000F0#32 0x062000F0#32 fun c w => .qsub8 c (w.extractLsb' 16 4) (w.extractLsb' 12 4) (w.extractLsb' 8 4) (w.extractLsb' 0 4),
    condRow 0x0FF000F0#32 0x063000F0#32 fun c w => .shsub8 c (w.extractLsb' 16 4) (w.extractLsb' 12 4) (w.extractLsb' 8 4) (w.extractLsb' 0 4),
    condRow 0x0FF000F0#32 0x065000F0#32 fun c w => .usub8 c (w.extractLsb' 16 4) (w.extractLsb' 12 4) (w.extractLsb' 8 4) (w.extractLsb' 0 4),
    condRow 0x0FF000F0#32 0x066000F0#32 fun c w => .uqsub8 c (w.extractLsb' 16 4) (w.extractLsb' 12 4) (w.extractLsb' 8 4) (w.extractLsb' 0 4),
    condRow 0x0FF000F0#32 0x067000F0#32 fun c w => .uhsub8 c (w.extractLsb' 16 4) (w.extractLsb' 12 4) (w.extractLsb' 8 4) (w.extractLsb' 0 4),
    condRow 0x0FF000F0#32 0x068000B0#32 fun c w => .sel c (w.extractLsb' 16 4) (w.extractLsb' 12 4) (w.extractLsb' 8 4) (w.extractLsb' 0 4),
    condRow 0x0FF000F0#32 0x06B00030#32 fun c w => .rev c (w.extractLsb' 16 4) (w.extractLsb' 12 4) (w.extractLsb' 8 4) (w.extractLsb' 0 4),
    condRow 0x0FF000F0#32 0x06B000B0#32 fun c w => .rev16 c (w.extractLsb' 16 4) (w.extractLsb' 12 4) (w.extractLsb' 8 4) (w.extractLsb' 0 4) ]

/-- Rows 160 to 179 of the table. -/
def armRows8 : List (Row 32) :=
  [ condRow 0x0FF000F0#32 0x06F000B0#32 fun c w => .revsh c (w.extractLsb' 16 4) (w.extractLsb' 12 4) (w.extractLsb' 8 4) (w.extractLsb' 0 4),
    condRow 0x0FF000F0#32 0x06A00030#32 fun c w => .ssat16 c (w.extractLsb' 16 4) (w.extractLsb' 12 4) (w.extractLsb' 8 4) (w.extractLsb' 0 4),
    condRow 0x0FF000F0#32 0x06E00030#32 fun c w => .usat16 c (w.extractLsb' 16 4) (w.extractLsb' 12 4) (w.extractLsb' 8 4) (w.extractLsb' 0 4),
    condRow 0x0FFF00F0#32 0x068F0070#32 fun c w => .sxtb16 c (w.extractLsb' 12 4) (w.extractLsb' 10 2) (w.extractLsb' 8 2) (w.extractLsb' 0 4),
    condRow 0x0FF000F0#32 0x06800070#32 fun c w => .sxtab16 c (w.extractLsb' 16 4) (w.extractLsb' 12 4) (w.extractLsb' 10 2) (w.extractLsb' 8 2) (w.extractLsb' 0 4),
    condRow 0x0FFF00F0#32 0x06AF0070#32 fun c w => .sxtb c (w.extractLsb' 12 4) (w.extractLsb' 10 2) (w.extractLsb' 8 2) (w.extractLsb' 0 4),
    condRow 0x0FF000F0#32 0x06A00070#32 fun c w => .sxtab c (w.extractLsb' 16 4) (w.extractLsb' 12 4) (w.extractLsb' 10 2) (w.extractLsb' 8 2) (w.extractLsb' 0 4),
    condRow 0x0FFF00F0#32 0x06BF0070#32 fun c w => .sxth c (w.extractLsb' 12 4) (w.extractLsb' 10 2) (w.extractLsb' 8 2) (w.extractLsb' 0 4),
    condRow 0x0FF000F0#32 0x06B00070#32 fun c w => .sxtah c (w.extractLsb' 16 4) (w.extractLsb' 12 4) (w.extractLsb' 10 2) (w.extractLsb' 8 2) (w.extractLsb' 0 4),
    condRow 0x0FFF00F0#32 0x06CF0070#32 fun c w => .uxtb16 c (w.extractLsb' 12 4) (w.extractLsb' 10 2) (w.extractLsb' 8 2) (w.extractLsb' 0 4),
    condRow 0x0FF000F0#32 0x06C00070#32 fun c w => .uxtab16 c (w.extractLsb' 16 4) (w.extractLsb' 12 4) (w.extractLsb' 10 2) (w.extractLsb' 8 2) (w.extractLsb' 0 4),
    condRow 0x0FFF00F0#32 0x06EF0070#32 fun c w => .uxtb c (w.extractLsb' 12 4) (w.extractLsb' 10 2) (w.extractLsb' 8 2) (w.extractLsb' 0 4),
    condRow 0x0FF000F0#32 0x06E00070#32 fun c w => .uxtab c (w.extractLsb' 16 4) (w.extractLsb' 12 4) (w.extractLsb' 10 2) (w.extractLsb' 8 2) (w.extractLsb' 0 4),
    condRow 0x0FFF00F0#32 0x06FF0070#32 fun c w => .uxth c (w.extractLsb' 12 4) (w.extractLsb' 10 2) (w.extractLsb' 8 2) (w.extractLsb' 0 4),
    condRow 0x0FF000F0#32 0x06F00070#32 fun c w => .uxtah c (w.extractLsb' 16 4) (w.extractLsb' 12 4) (w.extractLsb' 10 2) (w.extractLsb' 8 2) (w.extractLsb' 0 4),
    condRow 0x0FF00070#32 0x06800010#32 fun c w => .pkhbt c (w.extractLsb' 16 4) (w.extractLsb' 12 4) (w.extractLsb' 7 5) (w.extractLsb' 0 4),
    condRow 0x0FF00070#32 0x06800050#32 fun c w => .pkhtb c (w.extractLsb' 16 4) (w.extractLsb' 12 4) (w.extractLsb' 7 5) (w.extractLsb' 0 4),
    condRow 0x0FE00030#32 0x06A00010#32 fun c w => .ssat c (w.extractLsb' 16 5) (w.extractLsb' 12 4) (w.extractLsb' 7 5) (w.getLsbD 6) (w.extractLsb' 0 4),
    condRow 0x0FE00030#32 0x06E00010#32 fun c w => .usat c (w.extractLsb' 16 5) (w.extractLsb' 12 4) (w.extractLsb' 7 5) (w.getLsbD 6) (w.extractLsb' 0 4),
    condRow 0x0FF0F0D0#32 0x0700F010#32 fun c w => .smuad c (w.extractLsb' 16 4) (w.extractLsb' 8 4) (w.getLsbD 5) (w.extractLsb' 0 4) ]

/-- Rows 180 to 199 of the table. -/
def armRows9 : List (Row 32) :=
  [ condRow 0x0FF000D0#32 0x07000010#32 fun c w => .smlad c (w.extractLsb' 16 4) (w.extractLsb' 12 4) (w.extractLsb' 8 4) (w.getLsbD 5) (w.extractLsb' 0 4),
    condRow 0x0FF0F0D0#32 0x0700F050#32 fun c w => .smusd c (w.extractLsb' 16 4) (w.extractLsb' 8 4) (w.getLsbD 5) (w.extractLsb' 0 4),
    condRow 0x0FF000D0#32 0x07000050#32 fun c w => .smlsd c (w.extractLsb' 16 4) (w.extractLsb' 12 4) (w.extractLsb' 8 4) (w.getLsbD 5) (w.extractLsb' 0 4),
    condRow 0x0FF000D0#32 0x07400010#32 fun c w => .smlald c (w.extractLsb' 16 4) (w.extractLsb' 12 4) (w.extractLsb' 8 4) (w.getLsbD 5) (w.extractLsb' 0 4),
    condRow 0x0FF000D0#32 0x07400050#32 fun c w => .smlsld c (w.extractLsb' 16 4) (w.extractLsb' 12 4) (w.extractLsb' 8 4) (w.getLsbD 5) (w.extractLsb' 0 4),
    condRow 0x0FF0F0D0#32 0x0750F010#32 fun c w => .smmul c (w.extractLsb' 16 4) (w.extractLsb' 8 4) (w.getLsbD 5) (w.extractLsb' 0 4),
    condRow 0x0FF000D0#32 0x07500010#32 fun c w => .smmla c (w.extractLsb' 16 4) (w.extractLsb' 12 4) (w.extractLsb' 8 4) (w.getLsbD 5) (w.extractLsb' 0 4),
    condRow 0x0FF000D0#32 0x075000D0#32 fun c w => .smmls c (w.extractLsb' 16 4) (w.extractLsb' 12 4) (w.extractLsb' 8 4) (w.getLsbD 5) (w.extractLsb' 0 4),
    condRow 0x0FF0F0F0#32 0x0780F010#32 fun c w => .usad8 c (w.extractLsb' 16 4) (w.extractLsb' 8 4) (w.extractLsb' 0 4),
    condRow 0x0FF000F0#32 0x07800010#32 fun c w => .usada8 c (w.extractLsb' 16 4) (w.extractLsb' 12 4) (w.extractLsb' 8 4) (w.extractLsb' 0 4),
    condRow 0x0E000010#32 0x06000010#32 fun c w => .undefined8 c (w.extractLsb' 5 20) (w.extractLsb' 0 4),
    condRow 0x0F700000#32 0x04300000#32 fun c w => .ldrtImm c (w.getLsbD 23) (w.extractLsb' 16 4) (w.extractLsb' 12 4) (w.extractLsb' 0 12),
    condRow 0x0F700010#32 0x06300000#32 fun c w => .ldrtReg c (w.getLsbD 23) (w.extractLsb' 16 4) (w.extractLsb' 12 4) (w.extractLsb' 7 5) (w.extractLsb' 5 2) (w.extractLsb' 0 4),
    condRow 0x0F700000#32 0x04700000#32 fun c w => .ldrbtImm c (w.getLsbD 23) (w.extractLsb' 16 4) (w.extractLsb' 12 4) (w.extractLsb' 0 12),
    condRow 0x0F700010#32 0x06700000#32 fun c w => .ldrbtReg c (w.getLsbD 23) (w.extractLsb' 16 4) (w.extractLsb' 12 4) (w.extractLsb' 7 5) (w.extractLsb' 5 2) (w.extractLsb' 0 4),
    condRow 0x0F700000#32 0x04200000#32 fun c w => .strtImm c (w.getLsbD 23) (w.extractLsb' 16 4) (w.extractLsb' 12 4) (w.extractLsb' 0 12),
    condRow 0x0F700010#32 0x06200000#32 fun c w => .strtReg c (w.getLsbD 23) (w.extractLsb' 16 4) (w.extractLsb' 12 4) (w.extractLsb' 7 5) (w.extractLsb' 5 2) (w.extractLsb' 0 4),
    condRow 0x0F700000#32 0x04600000#32 fun c w => .strbtImm c (w.getLsbD 23) (w.extractLsb' 16 4) (w.extractLsb' 12 4) (w.extractLsb' 0 12),
    condRow 0x0F700010#32 0x06600000#32 fun c w => .strbtReg c (w.getLsbD 23) (w.extractLsb' 16 4) (w.extractLsb' 12 4) (w.extractLsb' 7 5) (w.extractLsb' 5 2) (w.extractLsb' 0 4),
    condRow 0x0E500000#32 0x04100000#32 fun c w => .ldrImm c (w.getLsbD 24) (w.getLsbD 23) (w.getLsbD 21) (w.extractLsb' 16 4) (w.extractLsb' 12 4) (w.extractLsb' 0 12) ]

/-- Rows 200 to 219 of the table. -/
def armRows10 : List (Row 32) :=
  [ condRow 0x0E500010#32 0x06100000#32 fun c w => .ldrReg c (w.getLsbD 24) (w.getLsbD 23) (w.getLsbD 21) (w.extractLsb' 16 4) (w.extractLsb' 12 4) (w.extractLsb' 7 5) (w.extractLsb' 5 2) (w.extractLsb' 0 4),
    condRow 0x0E500000#32 0x04500000#32 fun c w => .ldrbImm c (w.getLsbD 24) (w.getLsbD 23) (w.getLsbD 21) (w.extractLsb' 16 4) (w.extractLsb' 12 4) (w.extractLsb' 0 12),
    condRow 0x0E500010#32 0x06500000#32 fun c w => .ldrbReg c (w.getLsbD 24) (w.getLsbD 23) (w.getLsbD 21) (w.extractLsb' 16 4) (w.extractLsb' 12 4) (w.extractLsb' 7 5) (w.extractLsb' 5 2) (w.extractLsb' 0 4),
    condRow 0x0E500000#32 0x04000000#32 fun c w => .strImm c (w.getLsbD 24) (w.getLsbD 23) (w.getLsbD 21) (w.extractLsb' 16 4) (w.extractLsb' 12 4) (w.extractLsb' 0 12),
    condRow 0x0E500010#32 0x06000000#32 fun c w => .strReg c (w.getLsbD 24) (w.getLsbD 23) (w.getLsbD 21) (w.extractLsb' 16 4) (w.extractLsb' 12 4) (w.extractLsb' 7 5) (w.extractLsb' 5 2) (w.extractLsb' 0 4),
    condRow 0x0E500000#32 0x04400000#32 fun c w => .strbImm c (w.getLsbD 24) (w.getLsbD 23) (w.getLsbD 21) (w.extractLsb' 16 4) (w.extractLsb' 12 4) (w.extractLsb' 0 12),
    condRow 0x0E500010#32 0x06400000#32 fun c w => .strbReg c (w.getLsbD 24) (w.getLsbD 23) (w.getLsbD 21) (w.extractLsb' 16 4) (w.extractLsb' 12 4) (w.extractLsb' 7 5) (w.extractLsb' 5 2) (w.extractLsb' 0 4),
    condRow 0x0E508000#32 0x08508000#32 fun c w => .ldm3 c (w.getLsbD 24) (w.getLsbD 23) (w.getLsbD 21) (w.extractLsb' 16 4) (w.extractLsb' 0 15),
    condRow 0x0E508000#32 0x08500000#32 fun c w => .ldm2 c (w.getLsbD 24) (w.getLsbD 23) (w.getLsbD 21) (w.extractLsb' 16 4) (w.extractLsb' 0 15),
    condRow 0x0E500000#32 0x08100000#32 fun c w => .ldm1 c (w.getLsbD 24) (w.getLsbD 23) (w.getLsbD 21) (w.extractLsb' 16 4) (w.extractLsb' 0 16),
    condRow 0x0E500000#32 0x08400000#32 fun c w => .stm2 c (w.getLsbD 24) (w.getLsbD 23) (w.getLsbD 21) (w.extractLsb' 16 4) (w.extractLsb' 0 16),
    condRow 0x0E500000#32 0x08000000#32 fun c w => .stm1 c (w.getLsbD 24) (w.getLsbD 23) (w.getLsbD 21) (w.extractLsb' 16 4) (w.extractLsb' 0 16),
    condRow 0x0F000000#32 0x0A000000#32 fun c w => .b c (w.extractLsb' 0 24),
    condRow 0x0F000000#32 0x0B000000#32 fun c w => .bl c (w.extractLsb' 0 24),
    condRow 0x0FF00000#32 0x0C400000#32 fun c w => .mcrr c (w.extractLsb' 16 4) (w.extractLsb' 12 4) (w.extractLsb' 8 4) (w.extractLsb' 4 4) (w.extractLsb' 0 4),
    condRow 0x0FF00000#32 0x0C500000#32 fun c w => .mrrc c (w.extractLsb' 16 4) (w.extractLsb' 12 4) (w.extractLsb' 8 4) (w.extractLsb' 4 4) (w.extractLsb' 0 4),
    condRow 0x0FE00000#32 0x0C000000#32 fun c w => .undefined9 c (w.getLsbD 20) (w.extractLsb' 0 20),
    condRow 0x0E100000#32 0x0C000000#32 fun c w => .stc c (w.getLsbD 24) (w.getLsbD 23) (w.getLsbD 22) (w.getLsbD 21) (w.extractLsb' 16 4) (w.extractLsb' 12 4) (w.extractLsb' 8 4) (w.extractLsb' 0 8),
    condRow 0x0E100000#32 0x0C100000#32 fun c w => .ldc c (w.getLsbD 24) (w.getLsbD 23) (w.getLsbD 22) (w.getLsbD 21) (w.extractLsb' 16 4) (w.extractLsb' 12 4) (w.extractLsb' 8 4) (w.extractLsb' 0 8),
    condRow 0x0F000010#32 0x0E000000#32 fun c w => .cdp c (w.extractLsb' 20 4) (w.extractLsb' 16 4) (w.extractLsb' 12 4) (w.extractLsb' 8 4) (w.extractLsb' 5 3) (w.extractLsb' 0 4) ]

/-- Rows 220 to 222 of the table. -/
def armRows11 : List (Row 32) :=
  [ condRow 0x0F100010#32 0x0E000010#32 fun c w => .mcr c (w.extractLsb' 21 3) (w.extractLsb' 16 4) (w.extractLsb' 12 4) (w.extractLsb' 8 4) (w.extractLsb' 5 3) (w.extractLsb' 0 4),
    condRow 0x0F100010#32 0x0E100010#32 fun c w => .mrc c (w.extractLsb' 21 3) (w.extractLsb' 16 4) (w.extractLsb' 12 4) (w.extractLsb' 8 4) (w.extractLsb' 5 3) (w.extractLsb' 0 4),
    condRow 0x0F000000#32 0x0F000000#32 fun c w => .svc c (w.extractLsb' 0 24) ]

/-- The ARM rows, in the table's order. -/
def armRows : List (Row 32) :=
  armRows0 ++ (armRows1 ++ (armRows2 ++ (armRows3 ++ (armRows4 ++ (armRows5 ++ (armRows6 ++ (armRows7 ++ (armRows8 ++ (armRows9 ++ (armRows10 ++ (armRows11)))))))))))

/-- Rows 223 to 242 of the table. -/
def thumbRows0 : List (Row 16) :=
  [ plainRow 0xF800#16 0x0000#16 fun w => .tLslImm (w.extractLsb' 6 5) (w.extractLsb' 3 3) (w.extractLsb' 0 3),
    plainRow 0xF800#16 0x0800#16 fun w => .tLsrImm (w.extractLsb' 6 5) (w.extractLsb' 3 3) (w.extractLsb' 0 3),
    plainRow 0xF800#16 0x1000#16 fun w => .tAsrImm (w.extractLsb' 6 5) (w.extractLsb' 3 3) (w.extractLsb' 0 3),
    plainRow 0xFE00#16 0x1800#16 fun w => .tAddReg (w.extractLsb' 6 3) (w.extractLsb' 3 3) (w.extractLsb' 0 3),
    plainRow 0xFE00#16 0x1A00#16 fun w => .tSubReg (w.extractLsb' 6 3) (w.extractLsb' 3 3) (w.extractLsb' 0 3),
    plainRow 0xFFC0#16 0x1C00#16 fun w => .tMovLow (w.extractLsb' 3 3) (w.extractLsb' 0 3),
    plainRow 0xFE00#16 0x1C00#16 fun w => .tAddImm3 (w.extractLsb' 6 3) (w.extractLsb' 3 3) (w.extractLsb' 0 3),
    plainRow 0xFE00#16 0x1E00#16 fun w => .tSubImm3 (w.extractLsb' 6 3) (w.extractLsb' 3 3) (w.extractLsb' 0 3),
    plainRow 0xF800#16 0x2000#16 fun w => .tMovImm (w.extractLsb' 8 3) (w.extractLsb' 0 8),
    plainRow 0xF800#16 0x2800#16 fun w => .tCmpImm (w.extractLsb' 8 3) (w.extractLsb' 0 8),
    plainRow 0xF800#16 0x3000#16 fun w => .tAddImm8 (w.extractLsb' 8 3) (w.extractLsb' 0 8),
    plainRow 0xF800#16 0x3800#16 fun w => .tSubImm8 (w.extractLsb' 8 3) (w.extractLsb' 0 8),
    plainRow 0xFFC0#16 0x4000#16 fun w => .tAnd (w.extractLsb' 3 3) (w.extractLsb' 0 3),
    plainRow 0xFFC0#16 0x4040#16 fun w => .tEor (w.extractLsb' 3 3) (w.extractLsb' 0 3),
    plainRow 0xFFC0#16 0x4080#16 fun w => .tLslReg (w.extractLsb' 3 3) (w.extractLsb' 0 3),
    plainRow 0xFFC0#16 0x40C0#16 fun w => .tLsrReg (w.extractLsb' 3 3) (w.extractLsb' 0 3),
    plainRow 0xFFC0#16 0x4100#16 fun w => .tAsrReg (w.extractLsb' 3 3) (w.extractLsb' 0 3),
    plainRow 0xFFC0#16 0x4140#16 fun w => .tAdc (w.extractLsb' 3 3) (w.extractLsb' 0 3),
    plainRow 0xFFC0#16 0x4180#16 fun w => .tSbc (w.extractLsb' 3 3) (w.extractLsb' 0 3),
    plainRow 0xFFC0#16 0x41C0#16 fun w => .tRor (w.extractLsb' 3 3) (w.extractLsb' 0 3) ]

/-- Rows 243 to 262 of the table. -/
def thumbRows1 : List (Row 16) :=
  [ plainRow 0xFFC0#16 0x4200#16 fun w => .tTst (w.extractLsb' 3 3) (w.extractLsb' 0 3),
    plainRow 0xFFC0#16 0x4240#16 fun w => .tNeg (w.extractLsb' 3 3) (w.extractLsb' 0 3),
    plainRow 0xFFC0#16 0x4280#16 fun w => .tCmpLow (w.extractLsb' 3 3) (w.extractLsb' 0 3),
    plainRow 0xFFC0#16 0x42C0#16 fun w => .tCmn (w.extractLsb' 3 3) (w.extractLsb' 0 3),
    plainRow 0xFFC0#16 0x4300#16 fun w => .tOrr (w.extractLsb' 3 3) (w.extractLsb' 0 3),
    plainRow 0xFFC0#16 0x4340#16 fun w => .tMul (w.extractLsb' 3 3) (w.extractLsb' 0 3),
    plainRow 0xFFC0#16 0x4380#16 fun w => .tBic (w.extractLsb' 3 3) (w.extractLsb' 0 3),
    plainRow 0xFFC0#16 0x43C0#16 fun w => .tMvn (w.extractLsb' 3 3) (w.extractLsb' 0 3),
    plainRow 0xFF00#16 0x4400#16 fun w => .tAddHigh (w.getLsbD 7) (w.getLsbD 6) (w.extractLsb' 3 3) (w.extractLsb' 0 3),
    plainRow 0xFF00#16 0x4500#16 fun w => .tCmpHigh (w.getLsbD 7) (w.getLsbD 6) (w.extractLsb' 3 3) (w.extractLsb' 0 3),
    plainRow 0xFF00#16 0x4600#16 fun w => .tMovHigh (w.getLsbD 7) (w.getLsbD 6) (w.extractLsb' 3 3) (w.extractLsb' 0 3),
    plainRow 0xFF00#16 0x4600#16 fun w => .tCpy (w.getLsbD 7) (w.getLsbD 6) (w.extractLsb' 3 3) (w.extractLsb' 0 3),
    plainRow 0xFF80#16 0x4700#16 fun w => .tBx (w.getLsbD 6) (w.extractLsb' 3 3) (w.extractLsb' 0 3),
    plainRow 0xFF80#16 0x4780#16 fun w => .tBlxReg (w.getLsbD 6) (w.extractLsb' 3 3) (w.extractLsb' 0 3),
    plainRow 0xF800#16 0x4800#16 fun w => .tLdrPc (w.extractLsb' 8 3) (w.extractLsb' 0 8),
    plainRow 0xFE00#16 0x5000#16 fun w => .tStrReg (w.extractLsb' 6 3) (w.extractLsb' 3 3) (w.extractLsb' 0 3),
    plainRow 0xFE00#16 0x5200#16 fun w => .tStrhReg (w.extractLsb' 6 3) (w.extractLsb' 3 3) (w.extractLsb' 0 3),
    plainRow 0xFE00#16 0x5400#16 fun w => .tStrbReg (w.extractLsb' 6 3) (w.extractLsb' 3 3) (w.extractLsb' 0 3),
    plainRow 0xFE00#16 0x5600#16 fun w => .tLdrsb (w.extractLsb' 6 3) (w.extractLsb' 3 3) (w.extractLsb' 0 3),
    plainRow 0xFE00#16 0x5800#16 fun w => .tLdrReg (w.extractLsb' 6 3) (w.extractLsb' 3 3) (w.extractLsb' 0 3) ]

/-- Rows 263 to 282 of the table. -/
def thumbRows2 : List (Row 16) :=
  [ plainRow 0xFE00#16 0x5A00#16 fun w => .tLdrhReg (w.extractLsb' 6 3) (w.extractLsb' 3 3) (w.extractLsb' 0 3),
    plainRow 0xFE00#16 0x5C00#16 fun w => .tLdrbReg (w.extractLsb' 6 3) (w.extractLsb' 3 3) (w.extractLsb' 0 3),
    plainRow 0xFE00#16 0x5E00#16 fun w => .tLdrsh (w.extractLsb' 6 3) (w.extractLsb' 3 3) (w.extractLsb' 0 3),
    plainRow 0xF800#16 0x6000#16 fun w => .tStrImm (w.extractLsb' 6 5) (w.extractLsb' 3 3) (w.extractLsb' 0 3),
    plainRow 0xF800#16 0x6800#16 fun w => .tLdrImm (w.extractLsb' 6 5) (w.extractLsb' 3 3) (w.extractLsb' 0 3),
    plainRow 0xF800#16 0x7000#16 fun w => .tStrbImm (w.extractLsb' 6 5) (w.extractLsb' 3 3) (w.extractLsb' 0 3),
    plainRow 0xF800#16 0x7800#16 fun w => .tLdrbImm (w.extractLsb' 6 5) (w.extractLsb' 3 3) (w.extractLsb' 0 3),
    plainRow 0xF800#16 0x8000#16 fun w => .tStrhImm (w.extractLsb' 6 5) (w.extractLsb' 3 3) (w.extractLsb' 0 3),
    plainRow 0xF800#16 0x8800#16 fun w => .tLdrhImm (w.extractLsb' 6 5) (w.extractLsb' 3 3) (w.extractLsb' 0 3),
    plainRow 0xF800#16 0x9000#16 fun w => .tStrSp (w.extractLsb' 8 3) (w.extractLsb' 0 8),
    plainRow 0xF800#16 0x9800#16 fun w => .tLdrSp (w.extractLsb' 8 3) (w.extractLsb' 0 8),
    plainRow 0xF800#16 0xA000#16 fun w => .tAddPc (w.extractLsb' 8 3) (w.extractLsb' 0 8),
    plainRow 0xF800#16 0xA800#16 fun w => .tAddSp (w.extractLsb' 8 3) (w.extractLsb' 0 8),
    plainRow 0xFF80#16 0xB000#16 fun w => .tAddSpImm (w.extractLsb' 0 7),
    plainRow 0xFF80#16 0xB080#16 fun w => .tSubSpImm (w.extractLsb' 0 7),
    plainRow 0xFFC0#16 0xB200#16 fun w => .tSxth (w.extractLsb' 3 3) (w.extractLsb' 0 3),
    plainRow 0xFFC0#16 0xB240#16 fun w => .tSxtb (w.extractLsb' 3 3) (w.extractLsb' 0 3),
    plainRow 0xFFC0#16 0xB280#16 fun w => .tUxth (w.extractLsb' 3 3) (w.extractLsb' 0 3),
    plainRow 0xFFC0#16 0xB2C0#16 fun w => .tUxtb (w.extractLsb' 3 3) (w.extractLsb' 0 3),
    plainRow 0xFE00#16 0xB400#16 fun w => .tPush (w.getLsbD 8) (w.extractLsb' 0 8) ]

/-- Rows 283 to 300 of the table. -/
def thumbRows3 : List (Row 16) :=
  [ plainRow 0xFFF0#16 0xB650#16 fun w => .tSetend (w.getLsbD 3) (w.extractLsb' 0 3),
    plainRow 0xFFE0#16 0xB660#16 fun w => .tCps (w.getLsbD 4) (w.getLsbD 3) (w.getLsbD 2) (w.getLsbD 1) (w.getLsbD 0),
    plainRow 0xFFC0#16 0xBA00#16 fun w => .tRev (w.extractLsb' 3 3) (w.extractLsb' 0 3),
    plainRow 0xFFC0#16 0xBA40#16 fun w => .tRev16 (w.extractLsb' 3 3) (w.extractLsb' 0 3),
    plainRow 0xFFC0#16 0xBAC0#16 fun w => .tRevsh (w.extractLsb' 3 3) (w.extractLsb' 0 3),
    plainRow 0xFE00#16 0xBC00#16 fun w => .tPop (w.getLsbD 8) (w.extractLsb' 0 8),
    plainRow 0xFF00#16 0xBE00#16 fun w => .tBkpt (w.extractLsb' 0 8),
    plainRow 0xF000#16 0xB000#16 fun w => .tUndefined1 (w.extractLsb' 0 12),
    plainRow 0xF800#16 0xC000#16 fun w => .tStmia (w.extractLsb' 8 3) (w.extractLsb' 0 8),
    plainRow 0xF800#16 0xC800#16 fun w => .tLdmia (w.extractLsb' 8 3) (w.extractLsb' 0 8),
    plainRow 0xFF00#16 0xDE00#16 fun w => .tUndefined2 (w.extractLsb' 0 8),
    plainRow 0xFF00#16 0xDF00#16 fun w => .tSvc (w.extractLsb' 0 8),
    plainRow 0xF000#16 0xD000#16 fun w => .tBCond (w.extractLsb' 8 4) (w.extractLsb' 0 8),
    plainRow 0xF800#16 0xE000#16 fun w => .tB (w.extractLsb' 0 11),
    plainRow 0xF801#16 0xE800#16 fun w => .tBlxSecond (w.extractLsb' 1 10),
    plainRow 0xF801#16 0xE801#16 fun w => .tUndefined3 (w.extractLsb' 1 10),
    plainRow 0xF800#16 0xF000#16 fun w => .tBlFirst (w.extractLsb' 0 11),
    plainRow 0xF800#16 0xF800#16 fun w => .tBlSecond (w.extractLsb' 0 11) ]

/-- The Thumb rows, in the table's order. -/
def thumbRows : List (Row 16) :=
  thumbRows0 ++ (thumbRows1 ++ (thumbRows2 ++ (thumbRows3)))

/-- The instruction of the first row the word matches (30_encoding.md R880). -/
def firstMatch {n : Nat} : List (Row n) → BitVec n → Option Instr
  | [], _ => none
  | r :: rs, w => if w &&& r.mask = r.pat then r.build w else firstMatch rs w

/-- The result of looking a word up. -/
def Decoded.ofOption : Option Instr → Decoded
  | some i => .instr i
  | none => .noRow

/-- The instruction of an ARM word or a Thumb halfword (30_encoding.md R832, R880). -/
def decode : Words → Decoded
  | .arm w => .ofOption (firstMatch armRows w)
  | .thumb h => .ofOption (firstMatch thumbRows h)

/-- The words of an instruction, from the encodings of the same rows. -/
def encode : Instr → Words
  | .cps imod mmod sbz aBit iBit fBit mode => .arm (0b111100010000#12 ++ imod ++ BitVec.ofBool mmod ++ 0b0#1 ++ sbz ++ BitVec.ofBool aBit ++ BitVec.ofBool iBit ++ BitVec.ofBool fBit ++ 0b0#1 ++ mode)
  | .setend sbz sbz2 eBit sbz3 sbz4 => .arm (0b111100010000#12 ++ sbz ++ 0b1#1 ++ sbz2 ++ BitVec.ofBool eBit ++ BitVec.ofBool sbz3 ++ 0b0000#4 ++ sbz4)
  | .pldImm u rn imm12 => .arm (0b11110101#8 ++ BitVec.ofBool u ++ 0b101#3 ++ rn ++ 0b1111#4 ++ imm12)
  | .pldReg u rn imm5 shift rm => .arm (0b11110111#8 ++ BitVec.ofBool u ++ 0b101#3 ++ rn ++ 0b1111#4 ++ imm5 ++ shift ++ 0b0#1 ++ rm)
  | .clrex sbo sbo2 sbz sbo3 => .arm (0b111101010111#12 ++ sbo ++ sbo2 ++ sbz ++ 0b0001#4 ++ sbo3)
  | .srs p u w mode => .arm (0b1111100#7 ++ BitVec.ofBool p ++ BitVec.ofBool u ++ 0b1#1 ++ BitVec.ofBool w ++ 0b0110100000101000#16 ++ mode)
  | .rfe p u w rn => .arm (0b1111100#7 ++ BitVec.ofBool p ++ BitVec.ofBool u ++ 0b0#1 ++ BitVec.ofBool w ++ 0b1#1 ++ rn ++ 0b0000101000000000#16)
  | .blxLabel hBit imm24 => .arm (0b1111101#7 ++ BitVec.ofBool hBit ++ imm24)
  | .mcrr2 rn rd cp opc crm => .arm (0b111111000100#12 ++ rn ++ rd ++ cp ++ opc ++ crm)
  | .mrrc2 rn rd cp opc crm => .arm (0b111111000101#12 ++ rn ++ rd ++ cp ++ opc ++ crm)
  | .undefined1 any any2 => .arm (0b11111100000#11 ++ BitVec.ofBool any ++ any2)
  | .stc2 p u nBit w rn crd cp imm8 => .arm (0b1111110#7 ++ BitVec.ofBool p ++ BitVec.ofBool u ++ BitVec.ofBool nBit ++ BitVec.ofBool w ++ 0b0#1 ++ rn ++ crd ++ cp ++ imm8)
  | .ldc2 p u nBit w rn crd cp imm8 => .arm (0b1111110#7 ++ BitVec.ofBool p ++ BitVec.ofBool u ++ BitVec.ofBool nBit ++ BitVec.ofBool w ++ 0b1#1 ++ rn ++ crd ++ cp ++ imm8)
  | .cdp2 opc1 crn crd cp opc2 crm => .arm (0b11111110#8 ++ opc1 ++ crn ++ crd ++ cp ++ opc2 ++ 0b0#1 ++ crm)
  | .mcr2 opc1 crn rd cp opc2 crm => .arm (0b11111110#8 ++ opc1 ++ 0b0#1 ++ crn ++ rd ++ cp ++ opc2 ++ 0b1#1 ++ crm)
  | .mrc2 opc1 crn rd cp opc2 crm => .arm (0b11111110#8 ++ opc1 ++ 0b1#1 ++ crn ++ rd ++ cp ++ opc2 ++ 0b1#1 ++ crm)
  | .undefined2 any => .arm (0b1111#4 ++ any)
  | .mul cond s rd sbz rs rm => .arm (cond.toBits ++ 0b0000000#7 ++ BitVec.ofBool s ++ rd ++ sbz ++ rs ++ 0b1001#4 ++ rm)
  | .mla cond s rd rn rs rm => .arm (cond.toBits ++ 0b0000001#7 ++ BitVec.ofBool s ++ rd ++ rn ++ rs ++ 0b1001#4 ++ rm)
  | .umaal cond rdHi rdLo rs rm => .arm (cond.toBits ++ 0b00000100#8 ++ rdHi ++ rdLo ++ rs ++ 0b1001#4 ++ rm)
  | .undefined3 cond any any2 => .arm (cond.toBits ++ 0b00000101#8 ++ any ++ 0b1001#4 ++ any2)
  | .undefined4 cond any any2 any3 => .arm (cond.toBits ++ 0b0000011#7 ++ BitVec.ofBool any ++ any2 ++ 0b1001#4 ++ any3)
  | .umull cond s rdHi rdLo rs rm => .arm (cond.toBits ++ 0b0000100#7 ++ BitVec.ofBool s ++ rdHi ++ rdLo ++ rs ++ 0b1001#4 ++ rm)
  | .umlal cond s rdHi rdLo rs rm => .arm (cond.toBits ++ 0b0000101#7 ++ BitVec.ofBool s ++ rdHi ++ rdLo ++ rs ++ 0b1001#4 ++ rm)
  | .smull cond s rdHi rdLo rs rm => .arm (cond.toBits ++ 0b0000110#7 ++ BitVec.ofBool s ++ rdHi ++ rdLo ++ rs ++ 0b1001#4 ++ rm)
  | .smlal cond s rdHi rdLo rs rm => .arm (cond.toBits ++ 0b0000111#7 ++ BitVec.ofBool s ++ rdHi ++ rdLo ++ rs ++ 0b1001#4 ++ rm)
  | .swp cond rn rd sbz rm => .arm (cond.toBits ++ 0b00010000#8 ++ rn ++ rd ++ sbz ++ 0b1001#4 ++ rm)
  | .swpb cond rn rd sbz rm => .arm (cond.toBits ++ 0b00010100#8 ++ rn ++ rd ++ sbz ++ 0b1001#4 ++ rm)
  | .undefined5 cond any any2 any3 => .arm (cond.toBits ++ 0b00010#5 ++ any ++ any2 ++ 0b1001#4 ++ any3)
  | .strex cond rn rd sbo rm => .arm (cond.toBits ++ 0b00011000#8 ++ rn ++ rd ++ sbo ++ 0b1001#4 ++ rm)
  | .ldrex cond rn rd sbo sbo2 => .arm (cond.toBits ++ 0b00011001#8 ++ rn ++ rd ++ sbo ++ 0b1001#4 ++ sbo2)
  | .strexd cond rn rd sbo rm => .arm (cond.toBits ++ 0b00011010#8 ++ rn ++ rd ++ sbo ++ 0b1001#4 ++ rm)
  | .ldrexd cond rn rd sbo sbo2 => .arm (cond.toBits ++ 0b00011011#8 ++ rn ++ rd ++ sbo ++ 0b1001#4 ++ sbo2)
  | .strexb cond rn rd sbo rm => .arm (cond.toBits ++ 0b00011100#8 ++ rn ++ rd ++ sbo ++ 0b1001#4 ++ rm)
  | .ldrexb cond rn rd sbo sbo2 => .arm (cond.toBits ++ 0b00011101#8 ++ rn ++ rd ++ sbo ++ 0b1001#4 ++ sbo2)
  | .strexh cond rn rd sbo rm => .arm (cond.toBits ++ 0b00011110#8 ++ rn ++ rd ++ sbo ++ 0b1001#4 ++ rm)
  | .ldrexh cond rn rd sbo sbo2 => .arm (cond.toBits ++ 0b00011111#8 ++ rn ++ rd ++ sbo ++ 0b1001#4 ++ sbo2)
  | .strhImm cond p u w rn rd immH immL => .arm (cond.toBits ++ 0b000#3 ++ BitVec.ofBool p ++ BitVec.ofBool u ++ 0b1#1 ++ BitVec.ofBool w ++ 0b0#1 ++ rn ++ rd ++ immH ++ 0b1011#4 ++ immL)
  | .strhReg cond p u w rn rd sbz rm => .arm (cond.toBits ++ 0b000#3 ++ BitVec.ofBool p ++ BitVec.ofBool u ++ 0b0#1 ++ BitVec.ofBool w ++ 0b0#1 ++ rn ++ rd ++ sbz ++ 0b1011#4 ++ rm)
  | .ldrhImm cond p u w rn rd immH immL => .arm (cond.toBits ++ 0b000#3 ++ BitVec.ofBool p ++ BitVec.ofBool u ++ 0b1#1 ++ BitVec.ofBool w ++ 0b1#1 ++ rn ++ rd ++ immH ++ 0b1011#4 ++ immL)
  | .ldrhReg cond p u w rn rd sbz rm => .arm (cond.toBits ++ 0b000#3 ++ BitVec.ofBool p ++ BitVec.ofBool u ++ 0b0#1 ++ BitVec.ofBool w ++ 0b1#1 ++ rn ++ rd ++ sbz ++ 0b1011#4 ++ rm)
  | .ldrdImm cond p u w rn rd immH immL => .arm (cond.toBits ++ 0b000#3 ++ BitVec.ofBool p ++ BitVec.ofBool u ++ 0b1#1 ++ BitVec.ofBool w ++ 0b0#1 ++ rn ++ rd ++ immH ++ 0b1101#4 ++ immL)
  | .ldrdReg cond p u w rn rd sbz rm => .arm (cond.toBits ++ 0b000#3 ++ BitVec.ofBool p ++ BitVec.ofBool u ++ 0b0#1 ++ BitVec.ofBool w ++ 0b0#1 ++ rn ++ rd ++ sbz ++ 0b1101#4 ++ rm)
  | .ldrsbImm cond p u w rn rd immH immL => .arm (cond.toBits ++ 0b000#3 ++ BitVec.ofBool p ++ BitVec.ofBool u ++ 0b1#1 ++ BitVec.ofBool w ++ 0b1#1 ++ rn ++ rd ++ immH ++ 0b1101#4 ++ immL)
  | .ldrsbReg cond p u w rn rd sbz rm => .arm (cond.toBits ++ 0b000#3 ++ BitVec.ofBool p ++ BitVec.ofBool u ++ 0b0#1 ++ BitVec.ofBool w ++ 0b1#1 ++ rn ++ rd ++ sbz ++ 0b1101#4 ++ rm)
  | .strdImm cond p u w rn rd immH immL => .arm (cond.toBits ++ 0b000#3 ++ BitVec.ofBool p ++ BitVec.ofBool u ++ 0b1#1 ++ BitVec.ofBool w ++ 0b0#1 ++ rn ++ rd ++ immH ++ 0b1111#4 ++ immL)
  | .strdReg cond p u w rn rd sbz rm => .arm (cond.toBits ++ 0b000#3 ++ BitVec.ofBool p ++ BitVec.ofBool u ++ 0b0#1 ++ BitVec.ofBool w ++ 0b0#1 ++ rn ++ rd ++ sbz ++ 0b1111#4 ++ rm)
  | .ldrshImm cond p u w rn rd immH immL => .arm (cond.toBits ++ 0b000#3 ++ BitVec.ofBool p ++ BitVec.ofBool u ++ 0b1#1 ++ BitVec.ofBool w ++ 0b1#1 ++ rn ++ rd ++ immH ++ 0b1111#4 ++ immL)
  | .ldrshReg cond p u w rn rd sbz rm => .arm (cond.toBits ++ 0b000#3 ++ BitVec.ofBool p ++ BitVec.ofBool u ++ 0b0#1 ++ BitVec.ofBool w ++ 0b1#1 ++ rn ++ rd ++ sbz ++ 0b1111#4 ++ rm)
  | .mrs cond r sbo rd sbz sbz2 => .arm (cond.toBits ++ 0b00010#5 ++ BitVec.ofBool r ++ 0b00#2 ++ sbo ++ rd ++ sbz ++ 0b0000#4 ++ sbz2)
  | .msrReg cond r mask sbo sbz rm => .arm (cond.toBits ++ 0b00010#5 ++ BitVec.ofBool r ++ 0b10#2 ++ mask ++ sbo ++ sbz ++ 0b0000#4 ++ rm)
  | .bx cond sbo sbo2 sbo3 rm => .arm (cond.toBits ++ 0b00010010#8 ++ sbo ++ sbo2 ++ sbo3 ++ 0b0001#4 ++ rm)
  | .clz cond sbo rd sbo2 rm => .arm (cond.toBits ++ 0b00010110#8 ++ sbo ++ rd ++ sbo2 ++ 0b0001#4 ++ rm)
  | .bxj cond sbo sbo2 sbo3 rm => .arm (cond.toBits ++ 0b00010010#8 ++ sbo ++ sbo2 ++ sbo3 ++ 0b0010#4 ++ rm)
  | .blxReg cond sbo sbo2 sbo3 rm => .arm (cond.toBits ++ 0b00010010#8 ++ sbo ++ sbo2 ++ sbo3 ++ 0b0011#4 ++ rm)
  | .qadd cond rn rd sbz rm => .arm (cond.toBits ++ 0b00010000#8 ++ rn ++ rd ++ sbz ++ 0b0101#4 ++ rm)
  | .qsub cond rn rd sbz rm => .arm (cond.toBits ++ 0b00010010#8 ++ rn ++ rd ++ sbz ++ 0b0101#4 ++ rm)
  | .qdadd cond rn rd sbz rm => .arm (cond.toBits ++ 0b00010100#8 ++ rn ++ rd ++ sbz ++ 0b0101#4 ++ rm)
  | .qdsub cond rn rd sbz rm => .arm (cond.toBits ++ 0b00010110#8 ++ rn ++ rd ++ sbz ++ 0b0101#4 ++ rm)
  | .bkpt cond imm12 imm4 => .arm (cond.toBits ++ 0b00010010#8 ++ imm12 ++ 0b0111#4 ++ imm4)
  | .smc cond imm12 imm4 => .arm (cond.toBits ++ 0b00010110#8 ++ imm12 ++ 0b0111#4 ++ imm4)
  | .smlaxy cond rd rn rs y x rm => .arm (cond.toBits ++ 0b00010000#8 ++ rd ++ rn ++ rs ++ 0b1#1 ++ BitVec.ofBool y ++ BitVec.ofBool x ++ 0b0#1 ++ rm)
  | .smlawy cond rd rn rs y rm => .arm (cond.toBits ++ 0b00010010#8 ++ rd ++ rn ++ rs ++ 0b1#1 ++ BitVec.ofBool y ++ 0b00#2 ++ rm)
  | .smulwy cond rd sbz rs y rm => .arm (cond.toBits ++ 0b00010010#8 ++ rd ++ sbz ++ rs ++ 0b1#1 ++ BitVec.ofBool y ++ 0b10#2 ++ rm)
  | .smlalxy cond rdHi rdLo rs y x rm => .arm (cond.toBits ++ 0b00010100#8 ++ rdHi ++ rdLo ++ rs ++ 0b1#1 ++ BitVec.ofBool y ++ BitVec.ofBool x ++ 0b0#1 ++ rm)
  | .smulxy cond rd sbz rs y x rm => .arm (cond.toBits ++ 0b00010110#8 ++ rd ++ sbz ++ rs ++ 0b1#1 ++ BitVec.ofBool y ++ BitVec.ofBool x ++ 0b0#1 ++ rm)
  | .undefined6 cond any any2 any3 any4 => .arm (cond.toBits ++ 0b00010#5 ++ any ++ 0b0#1 ++ any2 ++ 0b0#1 ++ any3 ++ any4)
  | .nop cond sbo sbz => .arm (cond.toBits ++ 0b001100100000#12 ++ sbo ++ sbz ++ 0b00000000#8)
  | .yield cond sbo sbz => .arm (cond.toBits ++ 0b001100100000#12 ++ sbo ++ sbz ++ 0b00000001#8)
  | .hint cond sbo sbz num => .arm (cond.toBits ++ 0b001100100000#12 ++ sbo ++ sbz ++ num)
  | .msrImm cond r mask sbo rot imm8 => .arm (cond.toBits ++ 0b00110#5 ++ BitVec.ofBool r ++ 0b10#2 ++ mask ++ sbo ++ rot ++ imm8)
  | .undefined7 cond any any2 => .arm (cond.toBits ++ 0b00110#5 ++ BitVec.ofBool any ++ 0b00#2 ++ any2)
  | .andImm cond s rn rd rot imm8 => .arm (cond.toBits ++ 0b0010000#7 ++ BitVec.ofBool s ++ rn ++ rd ++ rot ++ imm8)
  | .andRegImm cond s rn rd imm5 shift rm => .arm (cond.toBits ++ 0b0000000#7 ++ BitVec.ofBool s ++ rn ++ rd ++ imm5 ++ shift ++ 0b0#1 ++ rm)
  | .andRegReg cond s rn rd rs shift rm => .arm (cond.toBits ++ 0b0000000#7 ++ BitVec.ofBool s ++ rn ++ rd ++ rs ++ 0b0#1 ++ shift ++ 0b1#1 ++ rm)
  | .eorImm cond s rn rd rot imm8 => .arm (cond.toBits ++ 0b0010001#7 ++ BitVec.ofBool s ++ rn ++ rd ++ rot ++ imm8)
  | .eorRegImm cond s rn rd imm5 shift rm => .arm (cond.toBits ++ 0b0000001#7 ++ BitVec.ofBool s ++ rn ++ rd ++ imm5 ++ shift ++ 0b0#1 ++ rm)
  | .eorRegReg cond s rn rd rs shift rm => .arm (cond.toBits ++ 0b0000001#7 ++ BitVec.ofBool s ++ rn ++ rd ++ rs ++ 0b0#1 ++ shift ++ 0b1#1 ++ rm)
  | .subImm cond s rn rd rot imm8 => .arm (cond.toBits ++ 0b0010010#7 ++ BitVec.ofBool s ++ rn ++ rd ++ rot ++ imm8)
  | .subRegImm cond s rn rd imm5 shift rm => .arm (cond.toBits ++ 0b0000010#7 ++ BitVec.ofBool s ++ rn ++ rd ++ imm5 ++ shift ++ 0b0#1 ++ rm)
  | .subRegReg cond s rn rd rs shift rm => .arm (cond.toBits ++ 0b0000010#7 ++ BitVec.ofBool s ++ rn ++ rd ++ rs ++ 0b0#1 ++ shift ++ 0b1#1 ++ rm)
  | .rsbImm cond s rn rd rot imm8 => .arm (cond.toBits ++ 0b0010011#7 ++ BitVec.ofBool s ++ rn ++ rd ++ rot ++ imm8)
  | .rsbRegImm cond s rn rd imm5 shift rm => .arm (cond.toBits ++ 0b0000011#7 ++ BitVec.ofBool s ++ rn ++ rd ++ imm5 ++ shift ++ 0b0#1 ++ rm)
  | .rsbRegReg cond s rn rd rs shift rm => .arm (cond.toBits ++ 0b0000011#7 ++ BitVec.ofBool s ++ rn ++ rd ++ rs ++ 0b0#1 ++ shift ++ 0b1#1 ++ rm)
  | .addImm cond s rn rd rot imm8 => .arm (cond.toBits ++ 0b0010100#7 ++ BitVec.ofBool s ++ rn ++ rd ++ rot ++ imm8)
  | .addRegImm cond s rn rd imm5 shift rm => .arm (cond.toBits ++ 0b0000100#7 ++ BitVec.ofBool s ++ rn ++ rd ++ imm5 ++ shift ++ 0b0#1 ++ rm)
  | .addRegReg cond s rn rd rs shift rm => .arm (cond.toBits ++ 0b0000100#7 ++ BitVec.ofBool s ++ rn ++ rd ++ rs ++ 0b0#1 ++ shift ++ 0b1#1 ++ rm)
  | .adcImm cond s rn rd rot imm8 => .arm (cond.toBits ++ 0b0010101#7 ++ BitVec.ofBool s ++ rn ++ rd ++ rot ++ imm8)
  | .adcRegImm cond s rn rd imm5 shift rm => .arm (cond.toBits ++ 0b0000101#7 ++ BitVec.ofBool s ++ rn ++ rd ++ imm5 ++ shift ++ 0b0#1 ++ rm)
  | .adcRegReg cond s rn rd rs shift rm => .arm (cond.toBits ++ 0b0000101#7 ++ BitVec.ofBool s ++ rn ++ rd ++ rs ++ 0b0#1 ++ shift ++ 0b1#1 ++ rm)
  | .sbcImm cond s rn rd rot imm8 => .arm (cond.toBits ++ 0b0010110#7 ++ BitVec.ofBool s ++ rn ++ rd ++ rot ++ imm8)
  | .sbcRegImm cond s rn rd imm5 shift rm => .arm (cond.toBits ++ 0b0000110#7 ++ BitVec.ofBool s ++ rn ++ rd ++ imm5 ++ shift ++ 0b0#1 ++ rm)
  | .sbcRegReg cond s rn rd rs shift rm => .arm (cond.toBits ++ 0b0000110#7 ++ BitVec.ofBool s ++ rn ++ rd ++ rs ++ 0b0#1 ++ shift ++ 0b1#1 ++ rm)
  | .rscImm cond s rn rd rot imm8 => .arm (cond.toBits ++ 0b0010111#7 ++ BitVec.ofBool s ++ rn ++ rd ++ rot ++ imm8)
  | .rscRegImm cond s rn rd imm5 shift rm => .arm (cond.toBits ++ 0b0000111#7 ++ BitVec.ofBool s ++ rn ++ rd ++ imm5 ++ shift ++ 0b0#1 ++ rm)
  | .rscRegReg cond s rn rd rs shift rm => .arm (cond.toBits ++ 0b0000111#7 ++ BitVec.ofBool s ++ rn ++ rd ++ rs ++ 0b0#1 ++ shift ++ 0b1#1 ++ rm)
  | .tstImm cond rn sbz rot imm8 => .arm (cond.toBits ++ 0b00110001#8 ++ rn ++ sbz ++ rot ++ imm8)
  | .tstRegImm cond rn sbz imm5 shift rm => .arm (cond.toBits ++ 0b00010001#8 ++ rn ++ sbz ++ imm5 ++ shift ++ 0b0#1 ++ rm)
  | .tstRegReg cond rn sbz rs shift rm => .arm (cond.toBits ++ 0b00010001#8 ++ rn ++ sbz ++ rs ++ 0b0#1 ++ shift ++ 0b1#1 ++ rm)
  | .teqImm cond rn sbz rot imm8 => .arm (cond.toBits ++ 0b00110011#8 ++ rn ++ sbz ++ rot ++ imm8)
  | .teqRegImm cond rn sbz imm5 shift rm => .arm (cond.toBits ++ 0b00010011#8 ++ rn ++ sbz ++ imm5 ++ shift ++ 0b0#1 ++ rm)
  | .teqRegReg cond rn sbz rs shift rm => .arm (cond.toBits ++ 0b00010011#8 ++ rn ++ sbz ++ rs ++ 0b0#1 ++ shift ++ 0b1#1 ++ rm)
  | .cmpImm cond rn sbz rot imm8 => .arm (cond.toBits ++ 0b00110101#8 ++ rn ++ sbz ++ rot ++ imm8)
  | .cmpRegImm cond rn sbz imm5 shift rm => .arm (cond.toBits ++ 0b00010101#8 ++ rn ++ sbz ++ imm5 ++ shift ++ 0b0#1 ++ rm)
  | .cmpRegReg cond rn sbz rs shift rm => .arm (cond.toBits ++ 0b00010101#8 ++ rn ++ sbz ++ rs ++ 0b0#1 ++ shift ++ 0b1#1 ++ rm)
  | .cmnImm cond rn sbz rot imm8 => .arm (cond.toBits ++ 0b00110111#8 ++ rn ++ sbz ++ rot ++ imm8)
  | .cmnRegImm cond rn sbz imm5 shift rm => .arm (cond.toBits ++ 0b00010111#8 ++ rn ++ sbz ++ imm5 ++ shift ++ 0b0#1 ++ rm)
  | .cmnRegReg cond rn sbz rs shift rm => .arm (cond.toBits ++ 0b00010111#8 ++ rn ++ sbz ++ rs ++ 0b0#1 ++ shift ++ 0b1#1 ++ rm)
  | .orrImm cond s rn rd rot imm8 => .arm (cond.toBits ++ 0b0011100#7 ++ BitVec.ofBool s ++ rn ++ rd ++ rot ++ imm8)
  | .orrRegImm cond s rn rd imm5 shift rm => .arm (cond.toBits ++ 0b0001100#7 ++ BitVec.ofBool s ++ rn ++ rd ++ imm5 ++ shift ++ 0b0#1 ++ rm)
  | .orrRegReg cond s rn rd rs shift rm => .arm (cond.toBits ++ 0b0001100#7 ++ BitVec.ofBool s ++ rn ++ rd ++ rs ++ 0b0#1 ++ shift ++ 0b1#1 ++ rm)
  | .movImm cond s sbz rd rot imm8 => .arm (cond.toBits ++ 0b0011101#7 ++ BitVec.ofBool s ++ sbz ++ rd ++ rot ++ imm8)
  | .movRegImm cond s sbz rd imm5 shift rm => .arm (cond.toBits ++ 0b0001101#7 ++ BitVec.ofBool s ++ sbz ++ rd ++ imm5 ++ shift ++ 0b0#1 ++ rm)
  | .movRegReg cond s sbz rd rs shift rm => .arm (cond.toBits ++ 0b0001101#7 ++ BitVec.ofBool s ++ sbz ++ rd ++ rs ++ 0b0#1 ++ shift ++ 0b1#1 ++ rm)
  | .cpy cond rd rm => .arm (cond.toBits ++ 0b000110100000#12 ++ rd ++ 0b00000000#8 ++ rm)
  | .bicImm cond s rn rd rot imm8 => .arm (cond.toBits ++ 0b0011110#7 ++ BitVec.ofBool s ++ rn ++ rd ++ rot ++ imm8)
  | .bicRegImm cond s rn rd imm5 shift rm => .arm (cond.toBits ++ 0b0001110#7 ++ BitVec.ofBool s ++ rn ++ rd ++ imm5 ++ shift ++ 0b0#1 ++ rm)
  | .bicRegReg cond s rn rd rs shift rm => .arm (cond.toBits ++ 0b0001110#7 ++ BitVec.ofBool s ++ rn ++ rd ++ rs ++ 0b0#1 ++ shift ++ 0b1#1 ++ rm)
  | .mvnImm cond s sbz rd rot imm8 => .arm (cond.toBits ++ 0b0011111#7 ++ BitVec.ofBool s ++ sbz ++ rd ++ rot ++ imm8)
  | .mvnRegImm cond s sbz rd imm5 shift rm => .arm (cond.toBits ++ 0b0001111#7 ++ BitVec.ofBool s ++ sbz ++ rd ++ imm5 ++ shift ++ 0b0#1 ++ rm)
  | .mvnRegReg cond s sbz rd rs shift rm => .arm (cond.toBits ++ 0b0001111#7 ++ BitVec.ofBool s ++ sbz ++ rd ++ rs ++ 0b0#1 ++ shift ++ 0b1#1 ++ rm)
  | .sadd16 cond rn rd sbo rm => .arm (cond.toBits ++ 0b01100001#8 ++ rn ++ rd ++ sbo ++ 0b0001#4 ++ rm)
  | .qadd16 cond rn rd sbo rm => .arm (cond.toBits ++ 0b01100010#8 ++ rn ++ rd ++ sbo ++ 0b0001#4 ++ rm)
  | .shadd16 cond rn rd sbo rm => .arm (cond.toBits ++ 0b01100011#8 ++ rn ++ rd ++ sbo ++ 0b0001#4 ++ rm)
  | .uadd16 cond rn rd sbo rm => .arm (cond.toBits ++ 0b01100101#8 ++ rn ++ rd ++ sbo ++ 0b0001#4 ++ rm)
  | .uqadd16 cond rn rd sbo rm => .arm (cond.toBits ++ 0b01100110#8 ++ rn ++ rd ++ sbo ++ 0b0001#4 ++ rm)
  | .uhadd16 cond rn rd sbo rm => .arm (cond.toBits ++ 0b01100111#8 ++ rn ++ rd ++ sbo ++ 0b0001#4 ++ rm)
  | .saddsubx cond rn rd sbo rm => .arm (cond.toBits ++ 0b01100001#8 ++ rn ++ rd ++ sbo ++ 0b0011#4 ++ rm)
  | .qaddsubx cond rn rd sbo rm => .arm (cond.toBits ++ 0b01100010#8 ++ rn ++ rd ++ sbo ++ 0b0011#4 ++ rm)
  | .shaddsubx cond rn rd sbo rm => .arm (cond.toBits ++ 0b01100011#8 ++ rn ++ rd ++ sbo ++ 0b0011#4 ++ rm)
  | .uaddsubx cond rn rd sbo rm => .arm (cond.toBits ++ 0b01100101#8 ++ rn ++ rd ++ sbo ++ 0b0011#4 ++ rm)
  | .uqaddsubx cond rn rd sbo rm => .arm (cond.toBits ++ 0b01100110#8 ++ rn ++ rd ++ sbo ++ 0b0011#4 ++ rm)
  | .uhaddsubx cond rn rd sbo rm => .arm (cond.toBits ++ 0b01100111#8 ++ rn ++ rd ++ sbo ++ 0b0011#4 ++ rm)
  | .ssubaddx cond rn rd sbo rm => .arm (cond.toBits ++ 0b01100001#8 ++ rn ++ rd ++ sbo ++ 0b0101#4 ++ rm)
  | .qsubaddx cond rn rd sbo rm => .arm (cond.toBits ++ 0b01100010#8 ++ rn ++ rd ++ sbo ++ 0b0101#4 ++ rm)
  | .shsubaddx cond rn rd sbo rm => .arm (cond.toBits ++ 0b01100011#8 ++ rn ++ rd ++ sbo ++ 0b0101#4 ++ rm)
  | .usubaddx cond rn rd sbo rm => .arm (cond.toBits ++ 0b01100101#8 ++ rn ++ rd ++ sbo ++ 0b0101#4 ++ rm)
  | .uqsubaddx cond rn rd sbo rm => .arm (cond.toBits ++ 0b01100110#8 ++ rn ++ rd ++ sbo ++ 0b0101#4 ++ rm)
  | .uhsubaddx cond rn rd sbo rm => .arm (cond.toBits ++ 0b01100111#8 ++ rn ++ rd ++ sbo ++ 0b0101#4 ++ rm)
  | .ssub16 cond rn rd sbo rm => .arm (cond.toBits ++ 0b01100001#8 ++ rn ++ rd ++ sbo ++ 0b0111#4 ++ rm)
  | .qsub16 cond rn rd sbo rm => .arm (cond.toBits ++ 0b01100010#8 ++ rn ++ rd ++ sbo ++ 0b0111#4 ++ rm)
  | .shsub16 cond rn rd sbo rm => .arm (cond.toBits ++ 0b01100011#8 ++ rn ++ rd ++ sbo ++ 0b0111#4 ++ rm)
  | .usub16 cond rn rd sbo rm => .arm (cond.toBits ++ 0b01100101#8 ++ rn ++ rd ++ sbo ++ 0b0111#4 ++ rm)
  | .uqsub16 cond rn rd sbo rm => .arm (cond.toBits ++ 0b01100110#8 ++ rn ++ rd ++ sbo ++ 0b0111#4 ++ rm)
  | .uhsub16 cond rn rd sbo rm => .arm (cond.toBits ++ 0b01100111#8 ++ rn ++ rd ++ sbo ++ 0b0111#4 ++ rm)
  | .sadd8 cond rn rd sbo rm => .arm (cond.toBits ++ 0b01100001#8 ++ rn ++ rd ++ sbo ++ 0b1001#4 ++ rm)
  | .qadd8 cond rn rd sbo rm => .arm (cond.toBits ++ 0b01100010#8 ++ rn ++ rd ++ sbo ++ 0b1001#4 ++ rm)
  | .shadd8 cond rn rd sbo rm => .arm (cond.toBits ++ 0b01100011#8 ++ rn ++ rd ++ sbo ++ 0b1001#4 ++ rm)
  | .uadd8 cond rn rd sbo rm => .arm (cond.toBits ++ 0b01100101#8 ++ rn ++ rd ++ sbo ++ 0b1001#4 ++ rm)
  | .uqadd8 cond rn rd sbo rm => .arm (cond.toBits ++ 0b01100110#8 ++ rn ++ rd ++ sbo ++ 0b1001#4 ++ rm)
  | .uhadd8 cond rn rd sbo rm => .arm (cond.toBits ++ 0b01100111#8 ++ rn ++ rd ++ sbo ++ 0b1001#4 ++ rm)
  | .ssub8 cond rn rd sbo rm => .arm (cond.toBits ++ 0b01100001#8 ++ rn ++ rd ++ sbo ++ 0b1111#4 ++ rm)
  | .qsub8 cond rn rd sbo rm => .arm (cond.toBits ++ 0b01100010#8 ++ rn ++ rd ++ sbo ++ 0b1111#4 ++ rm)
  | .shsub8 cond rn rd sbo rm => .arm (cond.toBits ++ 0b01100011#8 ++ rn ++ rd ++ sbo ++ 0b1111#4 ++ rm)
  | .usub8 cond rn rd sbo rm => .arm (cond.toBits ++ 0b01100101#8 ++ rn ++ rd ++ sbo ++ 0b1111#4 ++ rm)
  | .uqsub8 cond rn rd sbo rm => .arm (cond.toBits ++ 0b01100110#8 ++ rn ++ rd ++ sbo ++ 0b1111#4 ++ rm)
  | .uhsub8 cond rn rd sbo rm => .arm (cond.toBits ++ 0b01100111#8 ++ rn ++ rd ++ sbo ++ 0b1111#4 ++ rm)
  | .sel cond rn rd sbo rm => .arm (cond.toBits ++ 0b01101000#8 ++ rn ++ rd ++ sbo ++ 0b1011#4 ++ rm)
  | .rev cond sbo rd sbo2 rm => .arm (cond.toBits ++ 0b01101011#8 ++ sbo ++ rd ++ sbo2 ++ 0b0011#4 ++ rm)
  | .rev16 cond sbo rd sbo2 rm => .arm (cond.toBits ++ 0b01101011#8 ++ sbo ++ rd ++ sbo2 ++ 0b1011#4 ++ rm)
  | .revsh cond sbo rd sbo2 rm => .arm (cond.toBits ++ 0b01101111#8 ++ sbo ++ rd ++ sbo2 ++ 0b1011#4 ++ rm)
  | .ssat16 cond satImm rd sbo rm => .arm (cond.toBits ++ 0b01101010#8 ++ satImm ++ rd ++ sbo ++ 0b0011#4 ++ rm)
  | .usat16 cond satImm rd sbo rm => .arm (cond.toBits ++ 0b01101110#8 ++ satImm ++ rd ++ sbo ++ 0b0011#4 ++ rm)
  | .sxtb16 cond rd rotate sbz rm => .arm (cond.toBits ++ 0b011010001111#12 ++ rd ++ rotate ++ sbz ++ 0b0111#4 ++ rm)
  | .sxtab16 cond rn rd rotate sbz rm => .arm (cond.toBits ++ 0b01101000#8 ++ rn ++ rd ++ rotate ++ sbz ++ 0b0111#4 ++ rm)
  | .sxtb cond rd rotate sbz rm => .arm (cond.toBits ++ 0b011010101111#12 ++ rd ++ rotate ++ sbz ++ 0b0111#4 ++ rm)
  | .sxtab cond rn rd rotate sbz rm => .arm (cond.toBits ++ 0b01101010#8 ++ rn ++ rd ++ rotate ++ sbz ++ 0b0111#4 ++ rm)
  | .sxth cond rd rotate sbz rm => .arm (cond.toBits ++ 0b011010111111#12 ++ rd ++ rotate ++ sbz ++ 0b0111#4 ++ rm)
  | .sxtah cond rn rd rotate sbz rm => .arm (cond.toBits ++ 0b01101011#8 ++ rn ++ rd ++ rotate ++ sbz ++ 0b0111#4 ++ rm)
  | .uxtb16 cond rd rotate sbz rm => .arm (cond.toBits ++ 0b011011001111#12 ++ rd ++ rotate ++ sbz ++ 0b0111#4 ++ rm)
  | .uxtab16 cond rn rd rotate sbz rm => .arm (cond.toBits ++ 0b01101100#8 ++ rn ++ rd ++ rotate ++ sbz ++ 0b0111#4 ++ rm)
  | .uxtb cond rd rotate sbz rm => .arm (cond.toBits ++ 0b011011101111#12 ++ rd ++ rotate ++ sbz ++ 0b0111#4 ++ rm)
  | .uxtab cond rn rd rotate sbz rm => .arm (cond.toBits ++ 0b01101110#8 ++ rn ++ rd ++ rotate ++ sbz ++ 0b0111#4 ++ rm)
  | .uxth cond rd rotate sbz rm => .arm (cond.toBits ++ 0b011011111111#12 ++ rd ++ rotate ++ sbz ++ 0b0111#4 ++ rm)
  | .uxtah cond rn rd rotate sbz rm => .arm (cond.toBits ++ 0b01101111#8 ++ rn ++ rd ++ rotate ++ sbz ++ 0b0111#4 ++ rm)
  | .pkhbt cond rn rd imm5 rm => .arm (cond.toBits ++ 0b01101000#8 ++ rn ++ rd ++ imm5 ++ 0b001#3 ++ rm)
  | .pkhtb cond rn rd imm5 rm => .arm (cond.toBits ++ 0b01101000#8 ++ rn ++ rd ++ imm5 ++ 0b101#3 ++ rm)
  | .ssat cond satImm rd imm5 shift rm => .arm (cond.toBits ++ 0b0110101#7 ++ satImm ++ rd ++ imm5 ++ BitVec.ofBool shift ++ 0b01#2 ++ rm)
  | .usat cond satImm rd imm5 shift rm => .arm (cond.toBits ++ 0b0110111#7 ++ satImm ++ rd ++ imm5 ++ BitVec.ofBool shift ++ 0b01#2 ++ rm)
  | .smuad cond rd rs x rm => .arm (cond.toBits ++ 0b01110000#8 ++ rd ++ 0b1111#4 ++ rs ++ 0b00#2 ++ BitVec.ofBool x ++ 0b1#1 ++ rm)
  | .smlad cond rd rn rs x rm => .arm (cond.toBits ++ 0b01110000#8 ++ rd ++ rn ++ rs ++ 0b00#2 ++ BitVec.ofBool x ++ 0b1#1 ++ rm)
  | .smusd cond rd rs x rm => .arm (cond.toBits ++ 0b01110000#8 ++ rd ++ 0b1111#4 ++ rs ++ 0b01#2 ++ BitVec.ofBool x ++ 0b1#1 ++ rm)
  | .smlsd cond rd rn rs x rm => .arm (cond.toBits ++ 0b01110000#8 ++ rd ++ rn ++ rs ++ 0b01#2 ++ BitVec.ofBool x ++ 0b1#1 ++ rm)
  | .smlald cond rdHi rdLo rs x rm => .arm (cond.toBits ++ 0b01110100#8 ++ rdHi ++ rdLo ++ rs ++ 0b00#2 ++ BitVec.ofBool x ++ 0b1#1 ++ rm)
  | .smlsld cond rdHi rdLo rs x rm => .arm (cond.toBits ++ 0b01110100#8 ++ rdHi ++ rdLo ++ rs ++ 0b01#2 ++ BitVec.ofBool x ++ 0b1#1 ++ rm)
  | .smmul cond rd rs r rm => .arm (cond.toBits ++ 0b01110101#8 ++ rd ++ 0b1111#4 ++ rs ++ 0b00#2 ++ BitVec.ofBool r ++ 0b1#1 ++ rm)
  | .smmla cond rd rn rs r rm => .arm (cond.toBits ++ 0b01110101#8 ++ rd ++ rn ++ rs ++ 0b00#2 ++ BitVec.ofBool r ++ 0b1#1 ++ rm)
  | .smmls cond rd rn rs r rm => .arm (cond.toBits ++ 0b01110101#8 ++ rd ++ rn ++ rs ++ 0b11#2 ++ BitVec.ofBool r ++ 0b1#1 ++ rm)
  | .usad8 cond rd rs rm => .arm (cond.toBits ++ 0b01111000#8 ++ rd ++ 0b1111#4 ++ rs ++ 0b0001#4 ++ rm)
  | .usada8 cond rd rn rs rm => .arm (cond.toBits ++ 0b01111000#8 ++ rd ++ rn ++ rs ++ 0b0001#4 ++ rm)
  | .undefined8 cond any any2 => .arm (cond.toBits ++ 0b011#3 ++ any ++ 0b1#1 ++ any2)
  | .ldrtImm cond u rn rd imm12 => .arm (cond.toBits ++ 0b0100#4 ++ BitVec.ofBool u ++ 0b011#3 ++ rn ++ rd ++ imm12)
  | .ldrtReg cond u rn rd imm5 shift rm => .arm (cond.toBits ++ 0b0110#4 ++ BitVec.ofBool u ++ 0b011#3 ++ rn ++ rd ++ imm5 ++ shift ++ 0b0#1 ++ rm)
  | .ldrbtImm cond u rn rd imm12 => .arm (cond.toBits ++ 0b0100#4 ++ BitVec.ofBool u ++ 0b111#3 ++ rn ++ rd ++ imm12)
  | .ldrbtReg cond u rn rd imm5 shift rm => .arm (cond.toBits ++ 0b0110#4 ++ BitVec.ofBool u ++ 0b111#3 ++ rn ++ rd ++ imm5 ++ shift ++ 0b0#1 ++ rm)
  | .strtImm cond u rn rd imm12 => .arm (cond.toBits ++ 0b0100#4 ++ BitVec.ofBool u ++ 0b010#3 ++ rn ++ rd ++ imm12)
  | .strtReg cond u rn rd imm5 shift rm => .arm (cond.toBits ++ 0b0110#4 ++ BitVec.ofBool u ++ 0b010#3 ++ rn ++ rd ++ imm5 ++ shift ++ 0b0#1 ++ rm)
  | .strbtImm cond u rn rd imm12 => .arm (cond.toBits ++ 0b0100#4 ++ BitVec.ofBool u ++ 0b110#3 ++ rn ++ rd ++ imm12)
  | .strbtReg cond u rn rd imm5 shift rm => .arm (cond.toBits ++ 0b0110#4 ++ BitVec.ofBool u ++ 0b110#3 ++ rn ++ rd ++ imm5 ++ shift ++ 0b0#1 ++ rm)
  | .ldrImm cond p u w rn rd imm12 => .arm (cond.toBits ++ 0b010#3 ++ BitVec.ofBool p ++ BitVec.ofBool u ++ 0b0#1 ++ BitVec.ofBool w ++ 0b1#1 ++ rn ++ rd ++ imm12)
  | .ldrReg cond p u w rn rd imm5 shift rm => .arm (cond.toBits ++ 0b011#3 ++ BitVec.ofBool p ++ BitVec.ofBool u ++ 0b0#1 ++ BitVec.ofBool w ++ 0b1#1 ++ rn ++ rd ++ imm5 ++ shift ++ 0b0#1 ++ rm)
  | .ldrbImm cond p u w rn rd imm12 => .arm (cond.toBits ++ 0b010#3 ++ BitVec.ofBool p ++ BitVec.ofBool u ++ 0b1#1 ++ BitVec.ofBool w ++ 0b1#1 ++ rn ++ rd ++ imm12)
  | .ldrbReg cond p u w rn rd imm5 shift rm => .arm (cond.toBits ++ 0b011#3 ++ BitVec.ofBool p ++ BitVec.ofBool u ++ 0b1#1 ++ BitVec.ofBool w ++ 0b1#1 ++ rn ++ rd ++ imm5 ++ shift ++ 0b0#1 ++ rm)
  | .strImm cond p u w rn rd imm12 => .arm (cond.toBits ++ 0b010#3 ++ BitVec.ofBool p ++ BitVec.ofBool u ++ 0b0#1 ++ BitVec.ofBool w ++ 0b0#1 ++ rn ++ rd ++ imm12)
  | .strReg cond p u w rn rd imm5 shift rm => .arm (cond.toBits ++ 0b011#3 ++ BitVec.ofBool p ++ BitVec.ofBool u ++ 0b0#1 ++ BitVec.ofBool w ++ 0b0#1 ++ rn ++ rd ++ imm5 ++ shift ++ 0b0#1 ++ rm)
  | .strbImm cond p u w rn rd imm12 => .arm (cond.toBits ++ 0b010#3 ++ BitVec.ofBool p ++ BitVec.ofBool u ++ 0b1#1 ++ BitVec.ofBool w ++ 0b0#1 ++ rn ++ rd ++ imm12)
  | .strbReg cond p u w rn rd imm5 shift rm => .arm (cond.toBits ++ 0b011#3 ++ BitVec.ofBool p ++ BitVec.ofBool u ++ 0b1#1 ++ BitVec.ofBool w ++ 0b0#1 ++ rn ++ rd ++ imm5 ++ shift ++ 0b0#1 ++ rm)
  | .ldm3 cond p u w rn reglist => .arm (cond.toBits ++ 0b100#3 ++ BitVec.ofBool p ++ BitVec.ofBool u ++ 0b1#1 ++ BitVec.ofBool w ++ 0b1#1 ++ rn ++ 0b1#1 ++ reglist)
  | .ldm2 cond p u sbz rn reglist => .arm (cond.toBits ++ 0b100#3 ++ BitVec.ofBool p ++ BitVec.ofBool u ++ 0b1#1 ++ BitVec.ofBool sbz ++ 0b1#1 ++ rn ++ 0b0#1 ++ reglist)
  | .ldm1 cond p u w rn reglist => .arm (cond.toBits ++ 0b100#3 ++ BitVec.ofBool p ++ BitVec.ofBool u ++ 0b0#1 ++ BitVec.ofBool w ++ 0b1#1 ++ rn ++ reglist)
  | .stm2 cond p u sbz rn reglist => .arm (cond.toBits ++ 0b100#3 ++ BitVec.ofBool p ++ BitVec.ofBool u ++ 0b1#1 ++ BitVec.ofBool sbz ++ 0b0#1 ++ rn ++ reglist)
  | .stm1 cond p u w rn reglist => .arm (cond.toBits ++ 0b100#3 ++ BitVec.ofBool p ++ BitVec.ofBool u ++ 0b0#1 ++ BitVec.ofBool w ++ 0b0#1 ++ rn ++ reglist)
  | .b cond imm24 => .arm (cond.toBits ++ 0b1010#4 ++ imm24)
  | .bl cond imm24 => .arm (cond.toBits ++ 0b1011#4 ++ imm24)
  | .mcrr cond rn rd cp opc crm => .arm (cond.toBits ++ 0b11000100#8 ++ rn ++ rd ++ cp ++ opc ++ crm)
  | .mrrc cond rn rd cp opc crm => .arm (cond.toBits ++ 0b11000101#8 ++ rn ++ rd ++ cp ++ opc ++ crm)
  | .undefined9 cond any any2 => .arm (cond.toBits ++ 0b1100000#7 ++ BitVec.ofBool any ++ any2)
  | .stc cond p u nBit w rn crd cp imm8 => .arm (cond.toBits ++ 0b110#3 ++ BitVec.ofBool p ++ BitVec.ofBool u ++ BitVec.ofBool nBit ++ BitVec.ofBool w ++ 0b0#1 ++ rn ++ crd ++ cp ++ imm8)
  | .ldc cond p u nBit w rn crd cp imm8 => .arm (cond.toBits ++ 0b110#3 ++ BitVec.ofBool p ++ BitVec.ofBool u ++ BitVec.ofBool nBit ++ BitVec.ofBool w ++ 0b1#1 ++ rn ++ crd ++ cp ++ imm8)
  | .cdp cond opc1 crn crd cp opc2 crm => .arm (cond.toBits ++ 0b1110#4 ++ opc1 ++ crn ++ crd ++ cp ++ opc2 ++ 0b0#1 ++ crm)
  | .mcr cond opc1 crn rd cp opc2 crm => .arm (cond.toBits ++ 0b1110#4 ++ opc1 ++ 0b0#1 ++ crn ++ rd ++ cp ++ opc2 ++ 0b1#1 ++ crm)
  | .mrc cond opc1 crn rd cp opc2 crm => .arm (cond.toBits ++ 0b1110#4 ++ opc1 ++ 0b1#1 ++ crn ++ rd ++ cp ++ opc2 ++ 0b1#1 ++ crm)
  | .svc cond imm24 => .arm (cond.toBits ++ 0b1111#4 ++ imm24)
  | .tLslImm imm5 rm rd => .thumb (0b00000#5 ++ imm5 ++ rm ++ rd)
  | .tLsrImm imm5 rm rd => .thumb (0b00001#5 ++ imm5 ++ rm ++ rd)
  | .tAsrImm imm5 rm rd => .thumb (0b00010#5 ++ imm5 ++ rm ++ rd)
  | .tAddReg rm rn rd => .thumb (0b0001100#7 ++ rm ++ rn ++ rd)
  | .tSubReg rm rn rd => .thumb (0b0001101#7 ++ rm ++ rn ++ rd)
  | .tMovLow rn rd => .thumb (0b0001110000#10 ++ rn ++ rd)
  | .tAddImm3 imm3 rn rd => .thumb (0b0001110#7 ++ imm3 ++ rn ++ rd)
  | .tSubImm3 imm3 rn rd => .thumb (0b0001111#7 ++ imm3 ++ rn ++ rd)
  | .tMovImm rd imm8 => .thumb (0b00100#5 ++ rd ++ imm8)
  | .tCmpImm rn imm8 => .thumb (0b00101#5 ++ rn ++ imm8)
  | .tAddImm8 rd imm8 => .thumb (0b00110#5 ++ rd ++ imm8)
  | .tSubImm8 rd imm8 => .thumb (0b00111#5 ++ rd ++ imm8)
  | .tAnd rm rd => .thumb (0b0100000000#10 ++ rm ++ rd)
  | .tEor rm rd => .thumb (0b0100000001#10 ++ rm ++ rd)
  | .tLslReg rm rd => .thumb (0b0100000010#10 ++ rm ++ rd)
  | .tLsrReg rm rd => .thumb (0b0100000011#10 ++ rm ++ rd)
  | .tAsrReg rm rd => .thumb (0b0100000100#10 ++ rm ++ rd)
  | .tAdc rm rd => .thumb (0b0100000101#10 ++ rm ++ rd)
  | .tSbc rm rd => .thumb (0b0100000110#10 ++ rm ++ rd)
  | .tRor rm rd => .thumb (0b0100000111#10 ++ rm ++ rd)
  | .tTst rm rd => .thumb (0b0100001000#10 ++ rm ++ rd)
  | .tNeg rm rd => .thumb (0b0100001001#10 ++ rm ++ rd)
  | .tCmpLow rm rd => .thumb (0b0100001010#10 ++ rm ++ rd)
  | .tCmn rm rd => .thumb (0b0100001011#10 ++ rm ++ rd)
  | .tOrr rm rd => .thumb (0b0100001100#10 ++ rm ++ rd)
  | .tMul rm rd => .thumb (0b0100001101#10 ++ rm ++ rd)
  | .tBic rm rd => .thumb (0b0100001110#10 ++ rm ++ rd)
  | .tMvn rm rd => .thumb (0b0100001111#10 ++ rm ++ rd)
  | .tAddHigh d m rm rd => .thumb (0b01000100#8 ++ BitVec.ofBool d ++ BitVec.ofBool m ++ rm ++ rd)
  | .tCmpHigh hn m rm rn => .thumb (0b01000101#8 ++ BitVec.ofBool hn ++ BitVec.ofBool m ++ rm ++ rn)
  | .tMovHigh d m rm rd => .thumb (0b01000110#8 ++ BitVec.ofBool d ++ BitVec.ofBool m ++ rm ++ rd)
  | .tCpy d m rm rd => .thumb (0b01000110#8 ++ BitVec.ofBool d ++ BitVec.ofBool m ++ rm ++ rd)
  | .tBx m rm sbz => .thumb (0b010001110#9 ++ BitVec.ofBool m ++ rm ++ sbz)
  | .tBlxReg m rm sbz => .thumb (0b010001111#9 ++ BitVec.ofBool m ++ rm ++ sbz)
  | .tLdrPc rd imm8 => .thumb (0b01001#5 ++ rd ++ imm8)
  | .tStrReg rm rn rd => .thumb (0b0101000#7 ++ rm ++ rn ++ rd)
  | .tStrhReg rm rn rd => .thumb (0b0101001#7 ++ rm ++ rn ++ rd)
  | .tStrbReg rm rn rd => .thumb (0b0101010#7 ++ rm ++ rn ++ rd)
  | .tLdrsb rm rn rd => .thumb (0b0101011#7 ++ rm ++ rn ++ rd)
  | .tLdrReg rm rn rd => .thumb (0b0101100#7 ++ rm ++ rn ++ rd)
  | .tLdrhReg rm rn rd => .thumb (0b0101101#7 ++ rm ++ rn ++ rd)
  | .tLdrbReg rm rn rd => .thumb (0b0101110#7 ++ rm ++ rn ++ rd)
  | .tLdrsh rm rn rd => .thumb (0b0101111#7 ++ rm ++ rn ++ rd)
  | .tStrImm imm5 rn rd => .thumb (0b01100#5 ++ imm5 ++ rn ++ rd)
  | .tLdrImm imm5 rn rd => .thumb (0b01101#5 ++ imm5 ++ rn ++ rd)
  | .tStrbImm imm5 rn rd => .thumb (0b01110#5 ++ imm5 ++ rn ++ rd)
  | .tLdrbImm imm5 rn rd => .thumb (0b01111#5 ++ imm5 ++ rn ++ rd)
  | .tStrhImm imm5 rn rd => .thumb (0b10000#5 ++ imm5 ++ rn ++ rd)
  | .tLdrhImm imm5 rn rd => .thumb (0b10001#5 ++ imm5 ++ rn ++ rd)
  | .tStrSp rd imm8 => .thumb (0b10010#5 ++ rd ++ imm8)
  | .tLdrSp rd imm8 => .thumb (0b10011#5 ++ rd ++ imm8)
  | .tAddPc rd imm8 => .thumb (0b10100#5 ++ rd ++ imm8)
  | .tAddSp rd imm8 => .thumb (0b10101#5 ++ rd ++ imm8)
  | .tAddSpImm imm7 => .thumb (0b101100000#9 ++ imm7)
  | .tSubSpImm imm7 => .thumb (0b101100001#9 ++ imm7)
  | .tSxth rm rd => .thumb (0b1011001000#10 ++ rm ++ rd)
  | .tSxtb rm rd => .thumb (0b1011001001#10 ++ rm ++ rd)
  | .tUxth rm rd => .thumb (0b1011001010#10 ++ rm ++ rd)
  | .tUxtb rm rd => .thumb (0b1011001011#10 ++ rm ++ rd)
  | .tPush r reglist => .thumb (0b1011010#7 ++ BitVec.ofBool r ++ reglist)
  | .tSetend eBit sbz => .thumb (0b101101100101#12 ++ BitVec.ofBool eBit ++ sbz)
  | .tCps imod sbz aBit iBit fBit => .thumb (0b10110110011#11 ++ BitVec.ofBool imod ++ BitVec.ofBool sbz ++ BitVec.ofBool aBit ++ BitVec.ofBool iBit ++ BitVec.ofBool fBit)
  | .tRev rm rd => .thumb (0b1011101000#10 ++ rm ++ rd)
  | .tRev16 rm rd => .thumb (0b1011101001#10 ++ rm ++ rd)
  | .tRevsh rm rd => .thumb (0b1011101011#10 ++ rm ++ rd)
  | .tPop r reglist => .thumb (0b1011110#7 ++ BitVec.ofBool r ++ reglist)
  | .tBkpt imm8 => .thumb (0b10111110#8 ++ imm8)
  | .tUndefined1 any => .thumb (0b1011#4 ++ any)
  | .tStmia rn reglist => .thumb (0b11000#5 ++ rn ++ reglist)
  | .tLdmia rn reglist => .thumb (0b11001#5 ++ rn ++ reglist)
  | .tUndefined2 any => .thumb (0b11011110#8 ++ any)
  | .tSvc imm8 => .thumb (0b11011111#8 ++ imm8)
  | .tBCond cond imm8 => .thumb (0b1101#4 ++ cond ++ imm8)
  | .tB imm11 => .thumb (0b11100#5 ++ imm11)
  | .tBlxSecond imm11 => .thumb (0b11101#5 ++ imm11 ++ 0b0#1)
  | .tUndefined3 any => .thumb (0b11101#5 ++ any ++ 0b1#1)
  | .tBlFirst imm11 => .thumb (0b11110#5 ++ imm11)
  | .tBlSecond imm11 => .thumb (0b11111#5 ++ imm11)

/-- The same instruction under the name its word decodes to: CPY is the MOV of its word (40_dataproc.md R936,
47_thumb.md R1513), every other instruction is its own. -/
def Instr.canonical : Instr → Instr
  | .cpy cond rd rm => .movRegImm cond false 0 rd 0 0 rm
  | .tCpy d m rm rd => .tMovHigh d m rm rd
  | i => i

/-- The word at four bytes, the lowest address first, as a little-endian instruction fetch reads it
(20_memory.md R535). -/
def wordOfBytes (b0 b1 b2 b3 : Byte) : Word := b3 ++ b2 ++ b1 ++ b0

/-- The halfword at two bytes. -/
def halfOfBytes (b0 b1 : Byte) : Half := b1 ++ b0

/-- Byte `k` of a number, the least significant byte first. -/
def byteOf (w k : Nat) : Byte := BitVec.ofNat 8 (w >>> (8 * k))

/-- The instruction the decoder reads from the instruction whose bits are `w`, laid out in bytes: a row of 16 bits is
Thumb's, a row of 32 bits is ARM's. -/
def decodeTableWord (nbits w : Nat) : Option Instr :=
  let words :=
    if nbits ≤ 16 then Words.thumb (halfOfBytes (byteOf w 0) (byteOf w 1))
    else Words.arm (wordOfBytes (byteOf w 0) (byteOf w 1) (byteOf w 2) (byteOf w 3))
  match decode words with
  | .instr i => some i
  | .noRow => none

end

end Sys2Proof
end

