-- ==== Sys2Proof/Machine/Bits.lean ====
section
/-!
DEFINITION. Bit fields, sign extension and byte order over words (10_state.md R77, R78).
-/
namespace Sys2Proof.Machine

/-- `w` with bit `k` set to `b`. -/
def setBit (w : Word) (k : Nat) (b : Bool) : Word :=
  if b then w ||| (1#32 <<< k) else w &&& ~~~(1#32 <<< k)

/-- `w` with the field of `len` bits that begins at bit `lo` replaced by `v`. -/
def setField {len : Nat} (w : Word) (lo : Nat) (v : BitVec len) : Word :=
  (w &&& ~~~(((BitVec.allOnes len).setWidth 32) <<< lo)) ||| (v.setWidth 32 <<< lo)

/-- Merge: the bits of `v` where `mask` is set, the bits of `old` elsewhere. -/
def merge (old v mask : Word) : Word := (old &&& ~~~mask) ||| (v &&& mask)

/-- The word with bit 0 equal to `b` and the others 0. -/
def boolWord (b : Bool) : Word := if b then 1 else 0

/-- Byte `k` of a word, 0 the least significant. -/
def byteAt (w : Word) (k : Nat) : Byte := w.extractLsb' (8 * k) 8

/-- The bottom halfword. -/
def lowHalf (w : Word) : Half := w.extractLsb' 0 16

/-- The top halfword. -/
def highHalf (w : Word) : Half := w.extractLsb' 16 16

/-- A word from its two halfwords. -/
def ofHalves (hi lo : Half) : Word := hi ++ lo

/-- A word from its four bytes, the most significant first. -/
def ofBytes (b3 b2 b1 b0 : Byte) : Word := b3 ++ b2 ++ b1 ++ b0

/-- The word with its bytes reversed (42_media_simd.md R1190). -/
def reverseBytes (w : Word) : Word := ofBytes (byteAt w 0) (byteAt w 1) (byteAt w 2) (byteAt w 3)

/-- Round down to a multiple of `2 ^ k`. -/
def alignDown (a : Word) (k : Nat) : Word := (a >>> k) <<< k

/-- Is the address a multiple of 4? -/
def wordAligned (a : Word) : Bool := a &&& 3#32 == 0#32

/-- The value of `len` bytes, the first the least significant. -/
def leValue : List Byte → Nat
  | [] => 0
  | b :: bs => b.toNat + 256 * leValue bs

/-- The `n` bytes of `v`, the least significant first. -/
def leBytes : Nat → Nat → List Byte
  | 0, _ => []
  | n + 1, v => BitVec.ofNat 8 v :: leBytes n (v / 256)

end Sys2Proof.Machine
end

