-- ==== Sys2Proof/Config.lean ====
section
/-!
DEFINITION. What an implementation fixes (00_scope.md R20 to R24, 92_eei_decisions.md section C) at the spec's
default values, and the free values: constants with no body, so that no proof can see what they are (log 4).
-/
namespace Sys2Proof.Config

/-- Instruction cache size in KB, one of 4, 8, 16, 32, 64 (00_scope.md R20; default 16; log 7). -/
def icacheKB : Nat := 16

/-- Data cache size in KB (00_scope.md R20; default 16; log 7). -/
def dcacheKB : Nat := 16

/-- Configured Instruction TCM size of the side in KB (00_scope.md R21; default 16; log 7). -/
def itcmTotalKB : Nat := 16

/-- Configured Data TCM size of the side in KB (00_scope.md R21; default 16; log 7). -/
def dtcmTotalKB : Nat := 16

/-- How many TCMs a side of the given configured size has (00_scope.md R21). -/
def tcmCount (totalKB : Nat) : Nat :=
  if totalKB = 0 then 0 else if totalKB = 4 then 1 else 2

/-- Number of Instruction TCMs (00_scope.md R21). -/
def nItcm : Nat := tcmCount itcmTotalKB

/-- Number of Data TCMs (00_scope.md R21). -/
def nDtcm : Nat := tcmCount dtcmTotalKB

/-- Size of each Instruction TCM in KB (00_scope.md R21). -/
def itcmKB : Nat := itcmTotalKB / max nItcm 1

/-- Size of each Data TCM in KB (00_scope.md R21). -/
def dtcmKB : Nat := dtcmTotalKB / max nDtcm 1

/-- `MINOR_REV` (00_scope.md R23; default 7 for r0p7; log 7). -/
def minorRev : BitVec 4 := 7

/-- `COPROC_PRESENT` (00_scope.md R24, D16): the external coprocessors attached; the default is none (log 7). -/
def coprocPresent : List Nat := []

/-- `STORE_PC_OFFSET` (44_loadstore.md R1290, U53): whether a stored R15 is the instruction's address plus 12
(else plus 8). A parameter the spec gives no default: it has no body (log 8). -/
opaque storePcIs12 : Bool

/-- `STORE_PC_OFFSET` as a word, 8 or 12 (92_eei_decisions.md section C; log 8). -/
def storePcOffset : Word := if storePcIs12 then 12 else 8

/-- The source of fresh undefined words: `any value` of 93_implementation_defined.md. The machine applies it to a
counter that every draw advances (log 4). -/
opaque freeWord : Nat → BitVec 32

/-- By how much the cycle counter advances at a step: a free natural number (D76, 71_timing.md R2020; log 26). -/
opaque freeTicks : Nat → Nat

end Sys2Proof.Config
end

