-- ==== Sys2Proof/Machine/State.lean ====
section
/-!
DEFINITION. The state of the machine as plain data: every piece of state spec/ gives the ARM1176JZ-S (10_state.md
R100 and the files it names), the ways a step can stop, and the state right after a power-on reset.
-/
namespace Sys2Proof.Machine

/-! ### Why a step stops -/

/-- The faults a step can end in. -/
inductive Fault where
  /-- The machine is in Jazelle state (CPSR.J = 1, CPSR.T = 0), whose instructions no source gives: "unmodelled
  state: Jazelle" (10_state.md R76, D54; log 20). Raised by an exception return that would enter that state, and by the
  core's step where a Debug state exit entered it. Safe: nothing is claimed of what follows. -/
  | jazelleState
deriving DecidableEq, Repr

/-- The refusals: the undefined-behaviour stop of 00_scope.md R36, one name for each cause that
93_implementation_defined.md treats as `refuse`. Each is safe: no claim follows from a step that stops. -/
inductive Refusal where
  /-- An arm of `exec` that has no meaning yet. -/
  | notModelled (mnemonic : String)
  /-- U64: an operand combination the architecture calls UNPREDICTABLE. Raised by meanings, after the condition. -/
  | unpredictableOperands
  /-- U64: a should-be-zero or should-be-one bit of the instruction violated. Raised by meanings. -/
  | shouldBeBits
  /-- U64: an interworking branch to an address with bits [1:0] = 0b10 (43_branch_status.md R1202). -/
  | branchAddress
  /-- U48: a write of a mode value that is none of the eight modes (10_state.md R50). -/
  | unassignedMode
  /-- U49: the SPSR read or written in User or System mode (10_state.md R54). -/
  | spsrAbsent
  /-- U24: a data access with SCTLR.B = 1 and CPSR.E = 1 (20_memory.md R537). -/
  | reservedEndianness
  /-- U26: an unaligned access to Device or Strongly Ordered memory that does not fault (20_memory.md R545). -/
  | unalignedDevice
  /-- U31: a load- or store-exclusive to Device or Strongly Ordered memory (20_memory.md R607). -/
  | exclusiveToDevice
  /-- U33: an access through a mapping with a reserved TEX, C, B encoding (21_mmu.md R661). -/
  | reservedMemoryType
  /-- U78, D30: a write with bit [31] = 1 to the System Validation Cache Size Mask (14_cp15_dma_misc.md R485). -/
  | cacheSizeMask
  /-- U23: a DMA transfer whose TCM address is mapped as Device memory (14_cp15_dma_misc.md R443). -/
  | dmaDeviceTcm
  /-- U46: the reset pins in the combination Table 9-1 does not list (62_platform.md R1856). -/
  | resetPins
deriving DecidableEq, Repr

/-! ### The parts of the state -/

/-- What kind of access: an instruction fetch, a data read, a data write. -/
inductive Access where
  | fetch
  | read
  | write
deriving DecidableEq, Repr

/-- Which reset (70_reset_and_hazards.md R1956, R1957). -/
inductive ResetKind where
  | powerOn
  | warm
deriving DecidableEq, Repr

/-- Core activity (10_state.md R100): running, Standby (62_platform.md R1880), Debug state (61_debug.md R1770,
`DSCR[0]`), held in reset (70_reset_and_hazards.md R1960). -/
inductive Activity where
  | running
  | standby
  | debug
  | heldInReset (kind : ResetKind)
deriving DecidableEq, Repr

/-- A pending imprecise Data Abort (60_exceptions.md R1638). -/
structure ImpreciseAbort where
  /-- AXI SLVERR, else DECERR. -/
  slverr : Bool
  /-- The access was a write. -/
  write  : Bool
  /-- The world of the access was Non-secure. -/
  ns     : Bool
deriving DecidableEq, Repr

/-- A watchpoint debug event recorded by an instruction (61_debug.md R1754, R1760). -/
structure WatchHit where
  /-- The MVA of the first byte of the access that hit. -/
  far       : Word
  /-- The access was a write. -/
  write     : Bool
  /-- The domain of the address (0 with the MMU off). -/
  domain    : BitVec 4
  /-- The address of the instruction plus 8 (ARM) or 4 (Thumb), R1735. -/
  wfar      : Word
  /-- Debug was permitted where the instruction executed (R1758). -/
  permitted : Bool
deriving DecidableEq, Repr

/-- The answer of a platform region that does not answer OKAY (62_platform.md R1909, 20_memory.md R606). -/
inductive BusAnswer where
  /-- AXI slave error. -/
  | slverr
  /-- AXI decode error. -/
  | decerr
  /-- OKAY to every access, an exclusive one included: no exclusive monitor there. -/
  | noExclusive
deriving DecidableEq, Repr

/-- One region of the predicate `Refuses` of 62_platform.md R1909, as data. -/
structure BusRegion where
  /-- First physical address of the region. -/
  first    : Nat
  /-- Last physical address of the region. -/
  last     : Nat
  /-- Secure and Non-secure accesses are answered so. -/
  secure     : Bool
  nonSecure  : Bool
  /-- Privileged and User accesses are answered so. -/
  privileged : Bool
  user       : Bool
  /-- Instruction accesses and data accesses are answered so (22_l1_l2.md R814). -/
  insn     : Bool
  data     : Bool
  /-- Reads and writes are answered so. -/
  reads    : Bool
  writes   : Bool
  /-- The answer. -/
  answer   : BusAnswer
deriving DecidableEq, Repr

/-- A TLB lockdown entry, the fields of 14_cp15_dma_misc.md R492 to R495. -/
structure TlbEntry where
  va     : BitVec 20
  global : Bool
  asid   : BitVec 8
  pa     : BitVec 20
  nsa    : Bool
  nstid  : Bool
  size   : BitVec 2
  apx    : Bool
  ap     : BitVec 2
  valid  : Bool
  ap1    : BitVec 2
  ap2    : BitVec 2
  ap3    : BitVec 2
  spv    : Bool
  domain : BitVec 4
  xn     : Bool
  tex    : BitVec 3
  c      : Bool
  b      : Bool
  s      : Bool
deriving DecidableEq, Repr

/-- The CP15 registers with one copy for each world (11_cp15_overview_id.md R134). -/
structure Banked where
  /-- The banked bits of the Control Register (12_cp15_control.md R231). -/
  sctlr      : Word
  ttbr0      : Word
  ttbr1      : Word
  ttbcr      : Word
  dacr       : Word
  dfsr       : Word
  ifsr       : Word
  far        : Word
  ifar       : Word
  /-- The PA Register (13_cp15_cache_tlb.md R350). -/
  par        : Word
  /-- Cache Dirty Status (13_cp15_cache_tlb.md R348). -/
  cacheDirty : Word
  /-- TCM Selection (13_cp15_cache_tlb.md R386). -/
  tcmSel     : Word
  prrr       : Word
  nmrr       : Word
  vbar       : Word
  fcse       : Word
  contextId  : Word
  /-- User Read/Write, User Read-only, Privileged Only Thread and Process ID (14_cp15_dma_misc.md R463). -/
  tidUrw     : Word
  tidUro     : Word
  tidPriv    : Word
  /-- Peripheral Port Memory Remap (14_cp15_dma_misc.md R465). -/
  periph     : Word
deriving DecidableEq, Repr

/-- The CP15 registers of control and configuration with one copy. -/
structure Cp15 where
  /-- The Secure copies of the banked registers. -/
  s             : Banked
  /-- The Non-secure copies. -/
  ns            : Banked
  /-- The Secure-modify-only bits FI, L4, RR, B of the Control Register (12_cp15_control.md R231). -/
  sctlrCommon   : Word
  actlr         : Word
  cpacr         : Word
  scr           : Word
  sder          : Word
  nsacr         : Word
  /-- Data and Instruction Cache Lockdown (13_cp15_cache_tlb.md R359). -/
  dcLockdown    : Word
  icLockdown    : Word
  /-- TCM Region registers, one for each TCM (13_cp15_cache_tlb.md R380, R382). -/
  dtcmRegion    : Vector Word 2
  itcmRegion    : Vector Word 2
  /-- TCM Non-secure Control Access, one for each TCM (13_cp15_cache_tlb.md R384, R385). -/
  dtcmNs        : Vector Bool 2
  itcmNs        : Vector Bool 2
  /-- Cache Behavior Override (13_cp15_cache_tlb.md R387). -/
  cacheOverride : Word
  /-- TLB Lockdown: Victim and P (13_cp15_cache_tlb.md R388). -/
  tlbLockdown   : Word
  /-- The eight TLB lockdown entries (14_cp15_dma_misc.md R495). -/
  tlb           : Vector TlbEntry 8
  /-- TLB Lockdown Index (14_cp15_dma_misc.md R491). -/
  tlbIndex      : BitVec 3
  mvbar         : Word
  /-- V of the Validation Control register (14_cp15_dma_misc.md R470). -/
  valV          : Bool
  /-- Cache Master Valid registers (14_cp15_dma_misc.md R486). -/
  icMaster      : Vector Word 8
  dcMaster      : Vector Word 8
deriving DecidableEq, Repr

/-- One DMA channel (14_cp15_dma_misc.md R440 to R450, 22_l1_l2.md R781, R783). -/
structure DmaChannel where
  control   : Word
  intStart  : Word
  extStart  : Word
  intEnd    : Word
  /-- Channel Status: ESX [16], ISX [13], BP [12], ES [11:7], IS [6:2], Status [1:0]. -/
  status    : Word
  contextId : Word
  /-- The engine's current internal and external address. -/
  curInt    : Word
  curExt    : Word
  /-- The TCM of the side in which the transfer made its first transaction since the Start command (R445). -/
  tcm       : Option (Fin 2)
  /-- The Start command was executed in User mode (D43). -/
  userStart : Bool
  /-- The channel is Interrupting (14_cp15_dma_misc.md R448). -/
  irq       : Bool
  /-- The channel received an AXI error response (nDMAEXTERRIRQ, 14_cp15_dma_misc.md R448). -/
  extErr    : Bool
deriving DecidableEq, Repr

/-- The DMA registers (14_cp15_dma_misc.md R430). -/
structure Dma where
  /-- DMA User Accessibility: U1, U0. -/
  user    : BitVec 2
  /-- DMA Channel Number: channel 1 selected. -/
  chan    : Bool
  ch0     : DmaChannel
  ch1     : DmaChannel
deriving DecidableEq, Repr

/-- The performance monitor and the validation counters (14_cp15_dma_misc.md R472 to R483). -/
structure Pmu where
  pmnc    : Word
  ccnt    : Word
  /-- The six more bits of the Cycle Counter, below its bit 0, in which it counts with PMNC.D = 1 (R472). -/
  divider : BitVec 6
  pmn0    : Word
  pmn1    : Word
  /-- The external debug request counter. -/
  dbgReq  : BitVec 6
  /-- Started validation counters: reset, interrupt, fast interrupt, external debug request. -/
  started : BitVec 4
  /-- Validation counters (reset, interrupt, fast interrupt) that wrapped around and whose overflow flag has not been cleared since:
  they are not yet back at performance monitor duty (R483; log 27). -/
  wrapped : BitVec 3
deriving DecidableEq, Repr

/-- The CP14 debug registers (61_debug.md R1703). -/
structure Debug where
  /-- The stored bits of the DSCR: 30, 29, 19, 15 to 2, 1. -/
  dscr         : Word
  rdtr         : Word
  wdtr         : Word
  wfar         : Word
  vcr          : Word
  bvr          : Vector Word 6
  bcr          : Vector Word 6
  wvr          : Vector Word 2
  wcr          : Vector Word 2
  dsccr        : BitVec 3
  dsmcr        : BitVec 7
  dbgPc        : Word
  dbgPcValid   : Bool
  dbgPcWritten : Bool
  /-- The most recent IRQ address the VIC supplied for each world (R1737). -/
  lastIrqS     : Option Word
  lastIrqNs    : Option Word
  /-- A watchpoint event not yet taken (R1754). -/
  watch        : Option WatchHit
deriving DecidableEq, Repr

/-- The DBGTAP controller (63_dbgtap.md R1790). -/
structure Tap where
  ir         : BitVec 5
  screg      : BitVec 5
  itr        : Word
  instCompl  : Bool
  ready      : Bool
  nRetry     : Bool
  valid      : Bool
  haltReq    : Bool
  /-- The data of the completed chain-7 read request, if the completed request was a read (R1802). -/
  req7       : Option Word
  /-- Address and Thumb bit of the most recently committed instruction (R1804, D75). -/
  sample     : Word
  sampleT    : Bool
  /-- The model's own field: the value the last scan shifted out. -/
  out        : BitVec 40
deriving DecidableEq, Repr

/-- What the last step of the core showed on the instruction interface and on the Secure Monitor bus (62_platform.md R1901,
R1908; log 55). -/
structure Trace where
  /-- ETMIACTL[0], IAValid: an instruction was executed. -/
  valid   : Bool
  /-- ETMIACTL[11], IAException: it is an exception vector. -/
  vector  : Bool
  /-- ETMIACTL[9], IADataInst: it is a data instruction. -/
  data    : Bool
  /-- A Data Synchronization or Data Memory Barrier executed. -/
  barrier : Bool
  /-- A Flush Prefetch Buffer operation executed. -/
  flush   : Bool
deriving DecidableEq, Repr

/-- A step that ran no instruction shows nothing. -/
def Trace.quiet : Trace := { valid := false, vector := false, data := false, barrier := false, flush := false }

/-- The input pins, `true` for HIGH (62_platform.md R1851, 61_debug.md R1785). -/
structure Pins where
  nIRQ         : Bool
  nFIQ         : Bool
  irqAddr      : Word
  irqAddrV     : Bool
  vinithi      : Bool
  bigendinit   : Bool
  ubitinit     : Bool
  initram      : Bool
  cp15sdisable : Bool
  dbgen        : Bool
  edbgrq       : Bool
  spiden       : Bool
  spniden      : Bool
  dbgVersion   : BitVec 4
  dbgManid     : BitVec 11
deriving DecidableEq, Repr

/-- The one-bit input pins an event can change. -/
inductive PinName where
  | nIRQ
  | nFIQ
  | irqAddrV
  | vinithi
  | bigendinit
  | ubitinit
  | initram
  | cp15sdisable
  | dbgen
  | edbgrq
  | spiden
  | spniden
deriving DecidableEq, Repr

/-- What the outside of the processor can do at one step (62_platform.md R1851; log 10). -/
inductive Event where
  /-- Nothing: the core makes its step. -/
  | core
  /-- A pin takes a level. -/
  | pin (p : PinName) (high : Bool)
  /-- The VIC drives IRQADDR. -/
  | irqAddr (a : Word)
  /-- nRESETIN goes LOW, with nPORESETIN LOW for `powerOn` (62_platform.md R1856). -/
  | assertReset (kind : ResetKind)
  /-- nRESETIN goes HIGH. -/
  | releaseReset
  /-- nPORESETIN alone is driven LOW, which Table 9-1 does not list (U46). -/
  | porAlone
  /-- DBGTAP reset, an IR scan, a DR scan, a pass through Run-Test/Idle (63_dbgtap.md R1791). -/
  | tapReset
  | scanIR (v : BitVec 5)
  | scanDR (v : BitVec 40)
  | runTestIdle
  /-- The platform reports a late error for an earlier access (60_exceptions.md R1638). -/
  | busError (a : ImpreciseAbort)
  /-- Another master writes a byte (20_memory.md R604). -/
  | masterWrite (pa : Word) (b : Byte)
  /-- The platform changes its refused regions (62_platform.md R1909). -/
  | setRegions (l : List BusRegion)
  /-- One DMA transaction without a core step (22_l1_l2.md R784). -/
  | dma
deriving DecidableEq, Repr

/-- The exclusive monitors (20_memory.md R600). -/
structure Monitors where
  /-- The local monitor is Exclusive. -/
  locl : Bool
  /-- The global tag: physical address and size. -/
  globl : Option (Word × Nat)
deriving DecidableEq, Repr

/-- The whole state of the machine. -/
structure State where
  /-- The 32 general registers other than the PC. Index 0 to 14: R0 to R14 (usr); 15 to 19: R8_fiq to R12_fiq;
  20, 21: R13, R14 of fiq; 22, 23: irq; 24, 25: svc; 26, 27: abt; 28, 29: und; 30, 31: mon (10_state.md R52). -/
  regs         : Vector Word 32
  /-- SPSR of fiq, irq, svc, abt, und, mon (10_state.md R52). -/
  spsr         : Vector Word 6
  cpsr         : Word
  /-- The address of the instruction being executed (10_state.md R56). -/
  pc           : Word
  cp15         : Cp15
  dma          : Dma
  pmu          : Pmu
  dbg          : Debug
  tap          : Tap
  pins         : Pins
  /-- Main memory, byte by physical address, in canonical form. -/
  mem          : List Host.Cell
  /-- TCM contents, byte by offset, in canonical form (22_l1_l2.md R760). -/
  itcm0        : List Host.Cell
  itcm1        : List Host.Cell
  dtcm0        : List Host.Cell
  dtcm1        : List Host.Cell
  monitors     : Monitors
  /-- The pending imprecise Data Abort (60_exceptions.md R1638). -/
  pendingAbort : Option ImpreciseAbort
  activity     : Activity
  /-- IRQACK of the VIC handshake (62_platform.md R1862). -/
  irqAck       : Bool
  /-- What the last step of the core showed (62_platform.md R1901, R1908). -/
  trace        : Trace
  /-- The platform's refused regions (62_platform.md R1909). -/
  regions      : List BusRegion
  /-- The MODEL's own: how many free values have been drawn (log 4). -/
  freeCtr      : Nat
  /-- The MODEL's own: what the outside does next (log 10). -/
  agenda       : List Event
deriving DecidableEq, Repr

/-! ### Reset values -/

/-- The Size field of a TCM Region register for a TCM of `kb` KB (13_cp15_cache_tlb.md R380). -/
def tcmSizeCode (kb : Nat) : Word :=
  if kb = 4 then 3 else if kb = 8 then 4 else if kb = 16 then 5 else if kb = 32 then 6 else 0

/-- The banked bits of the Control Register at reset: V, U and EE from the pins (12_cp15_control.md R233). -/
def resetSctlr (p : Pins) : Word :=
  (if p.vinithi then 0x00002000#32 else 0) ||| (if p.ubitinit then 0x00400000#32 else 0) |||
    (if p.ubitinit && p.bigendinit then 0x02000000#32 else 0)

/-- A world's copies of the banked CP15 registers at reset (70_reset_and_hazards.md R1952, D14; log 6). -/
def resetBanked (p : Pins) : Banked :=
  { sctlr := resetSctlr p, ttbr0 := 0, ttbr1 := 0, ttbcr := 0, dacr := 0, dfsr := 0, ifsr := 0, far := 0,
    ifar := 0, par := 0, cacheDirty := 0, tcmSel := 0, prrr := 0x00098AA4, nmrr := 0x44E048E0, vbar := 0,
    fcse := 0, contextId := 0, tidUrw := 0, tidUro := 0, tidPriv := 0, periph := 0 }

/-- A TLB lockdown entry at reset: not valid (70_reset_and_hazards.md R1953, D62), the other fields 0 (log 5). -/
def resetTlbEntry : TlbEntry :=
  { va := 0, global := false, asid := 0, pa := 0, nsa := false, nstid := false, size := 0, apx := false,
    ap := 0, valid := false, ap1 := 0, ap2 := 0, ap3 := 0, spv := false, domain := 0, xn := false, tex := 0,
    c := false, b := false, s := false }

/-- The CP15 registers at reset (70_reset_and_hazards.md R1952). -/
def resetCp15 (p : Pins) : Cp15 :=
  { s := resetBanked p, ns := resetBanked p,
    sctlrCommon := if p.bigendinit && !p.ubitinit then 0x00000080 else 0,
    actlr := 0x00000007, cpacr := 0, scr := 0, sder := 0, nsacr := 0,
    dcLockdown := 0xFFFFFFF0, icLockdown := 0xFFFFFFF0,
    dtcmRegion := Vector.replicate 2 (tcmSizeCode Config.dtcmKB <<< 2),
    itcmRegion := Vector.replicate 2 ((tcmSizeCode Config.itcmKB <<< 2) ||| (if p.initram then 1 else 0)),
    dtcmNs := Vector.replicate 2 false, itcmNs := Vector.replicate 2 false,
    cacheOverride := 0, tlbLockdown := 0, tlb := Vector.replicate 8 resetTlbEntry, tlbIndex := 0, mvbar := 0,
    valV := false, icMaster := Vector.replicate 8 0, dcMaster := Vector.replicate 8 0 }

/-- A DMA channel at reset: Idle, Control 0x08000000; the address and context registers, which have no reset value
(U20), 0 (log 5). -/
def resetDmaChannel : DmaChannel :=
  { control := 0x08000000, intStart := 0, extStart := 0, intEnd := 0, status := 0, contextId := 0, curInt := 0,
    curExt := 0, tcm := none, userStart := false, irq := false, extErr := false }

/-- The DMA registers at reset (70_reset_and_hazards.md R1952). -/
def resetDma : Dma :=
  { user := 0, chan := false, ch0 := resetDmaChannel, ch1 := resetDmaChannel }

/-- The performance monitor at reset (70_reset_and_hazards.md R1952; the divider 0, log 5). -/
def resetPmu : Pmu :=
  { pmnc := 0, ccnt := 0, divider := 0, pmn0 := 0, pmn1 := 0, dbgReq := 0, started := 0, wrapped := 0 }

/-- The CP14 debug registers after a power-on reset (61_debug.md R1726, R1747; log 5). -/
def resetDebug : Debug :=
  { dscr := 0x00000002, rdtr := 0, wdtr := 0, wfar := 0, vcr := 0, bvr := Vector.replicate 6 0,
    bcr := Vector.replicate 6 0, wvr := Vector.replicate 2 0, wcr := Vector.replicate 2 0, dsccr := 0, dsmcr := 0,
    dbgPc := 0, dbgPcValid := false, dbgPcWritten := false, lastIrqS := none, lastIrqNs := none, watch := none }

/-- The reset vector (70_reset_and_hazards.md R1951). -/
def resetVector (p : Pins) : Word := if p.vinithi then 0xFFFF0000 else 0

/-- CPSR after reset (70_reset_and_hazards.md R1951): Supervisor mode, A, I, F set, E from the pins; the flags, which
are indeterminate, 0 (log 1). -/
def resetCpsr (p : Pins) : Word :=
  0x000001D3 ||| (if p.ubitinit && p.bigendinit then 0x00000200 else 0)

/-- The DBGTAP at power-on (63_dbgtap.md R1790, R1811). -/
def resetTap (p : Pins) : Tap :=
  { ir := 0b11110, screg := 3, itr := 0, instCompl := true, ready := false, nRetry := false, valid := false,
    haltReq := false, req7 := none, sample := resetVector p, sampleT := false, out := 0 }

/-- The input pins of a run with no interrupt and no debugger (92_eei_decisions.md section C, D73; log 10, log 11). -/
def defaultPins : Pins :=
  { nIRQ := true, nFIQ := true, irqAddr := 0, irqAddrV := true, vinithi := false, bigendinit := false,
    ubitinit := false, initram := false, cp15sdisable := false, dbgen := false, edbgrq := false, spiden := true,
    spniden := true, dbgVersion := 0, dbgManid := 0b11110000111 }

/-- The machine right after a power-on reset with the default pins (70_reset_and_hazards.md R1950 to R1958): memory
and TCMs list nothing, and the registers the spec gives no reset value are 0 (log 1, log 2). -/
def State.reset : State :=
  { regs := Vector.replicate 32 0, spsr := Vector.replicate 6 0, cpsr := resetCpsr defaultPins,
    pc := resetVector defaultPins, cp15 := resetCp15 defaultPins, dma := resetDma, pmu := resetPmu,
    dbg := resetDebug, tap := resetTap defaultPins, pins := defaultPins, mem := [], itcm0 := [], itcm1 := [],
    dtcm0 := [], dtcm1 := [], monitors := { locl := false, globl := none }, pendingAbort := none,
    activity := .running, irqAck := false, trace := .quiet, regions := [], freeCtr := 0, agenda := [] }

end Sys2Proof.Machine
end

