-- ==== Sys2Proof/Machine/Ops.lean ====
section
/-!
DEFINITION. The shared operations of every meaning: the monad of a meaning, byte stores in canonical form, the core
registers and their banks (10_state.md R50 to R57), the program status registers (R60 to R70), the vector addresses,
TAKING an exception (60_exceptions.md R1604), RETURNING from one (43_branch_status.md R1205), and the helpers that write
the PC (43_branch_status.md R1201 to R1204).
-/
namespace Sys2Proof.Machine

/-! ### The monad of a meaning -/

/-- Why a meaning ends before its last line. -/
inductive Stop where
  /-- An exception was entered, or the instruction is ignored: the state the meaning left is the next state. -/
  | taken
  /-- The meaning is refused. -/
  | refused (r : Refusal)
  /-- The machine faults. -/
  | faulted (f : Fault)
deriving DecidableEq, Repr

/-- Reads and updates the state, and may stop. -/
abbrev M (α : Type) := EStateM Stop State α

/-- The outcome of a meaning from a state. -/
def M.outcome (x : M Unit) (s : State) : Host.Outcome State Fault Refusal :=
  match x s with
  | .ok _ s' => .next s'
  | .error .taken s' => .next s'
  | .error (.refused r) _ => .refused r
  | .error (.faulted f) _ => .fault f

/-- The undefined-behaviour stop (00_scope.md R36). -/
def refuse {α : Type} (r : Refusal) : M α := throw (.refused r)

/-- The undefined-behaviour stop, where the condition holds. -/
def refuseIf (c : Bool) (r : Refusal) : M Unit := if c then refuse r else pure ()

/-- Refuse an operand combination the architecture calls UNPREDICTABLE (U64; log 18). -/
def unpredictableIf (c : Bool) : M Unit := refuseIf c .unpredictableOperands

/-- Refuse a violated should-be-zero or should-be-one field (30_encoding.md R861, U64; log 19). -/
def shouldBe (ok : Bool) : M Unit := refuseIf (!ok) .shouldBeBits

/-- A fresh undefined word: `any value` (log 4). -/
def draw : M Word := fun s =>
  .ok (Config.freeWord s.freeCtr) { s with freeCtr := s.freeCtr + 1 }

/-! ### Bytes in canonical form -/

/-- What a byte that nothing has written reads as, in main memory and in a TCM (70_reset_and_hazards.md R1953 gives
no contents; log 2). -/
def unlistedByte : Byte := 0

/-- The byte at an address. -/
def readCell : List Host.Cell → Nat → Byte
  | [], _ => unlistedByte
  | (b, v) :: t, a => if a = b then v else if a < b then unlistedByte else readCell t a

/-- Write the byte at an address, keeping the canonical form. -/
def writeCell : List Host.Cell → Nat → Byte → List Host.Cell
  | [], a, v => if v = unlistedByte then [] else [(a, v)]
  | (b, w) :: t, a, v =>
    if a < b then (if v = unlistedByte then (b, w) :: t else (a, v) :: (b, w) :: t)
    else if a = b then (if v = unlistedByte then t else (a, v) :: t)
    else (b, w) :: writeCell t a v

/-- The canonical form: addresses strictly rise, start at `lo` or later, end below `hi`, and no entry equals what an
unlisted address reads as. -/
def Memory.wfFrom : Nat → Nat → List Host.Cell → Bool
  | _, _, [] => true
  | lo, hi, (b, v) :: t => decide (lo ≤ b) && decide (b < hi) && decide (v ≠ unlistedByte) && wfFrom (b + 1) hi t

/-- The canonical form of a store of `size` bytes. -/
def Memory.wf (size : Nat) (m : List Host.Cell) : Bool := Memory.wfFrom 0 size m

/-! ### Modes and worlds -/

/-- The eight modes (10_state.md R50). -/
inductive Mode where
  | usr
  | fiq
  | irq
  | svc
  | mon
  | abt
  | und
  | sys
deriving DecidableEq, Repr

/-- The value of CPSR.M for a mode (10_state.md R50). -/
def Mode.toBits : Mode → BitVec 5
  | .usr => 0b10000
  | .fiq => 0b10001
  | .irq => 0b10010
  | .svc => 0b10011
  | .mon => 0b10110
  | .abt => 0b10111
  | .und => 0b11011
  | .sys => 0b11111

/-- The mode a value of CPSR.M stands for, if it is assigned (10_state.md R50). -/
def Mode.ofBits (b : BitVec 5) : Option Mode :=
  if b = 0b10000 then some .usr
  else if b = 0b10001 then some .fiq
  else if b = 0b10010 then some .irq
  else if b = 0b10011 then some .svc
  else if b = 0b10110 then some .mon
  else if b = 0b10111 then some .abt
  else if b = 0b11011 then some .und
  else if b = 0b11111 then some .sys
  else none

/-- CPSR.M. -/
def State.modeBits (s : State) : BitVec 5 := s.cpsr.extractLsb' 0 5

/-- The current mode. A value that is no mode, which no run reaches (R50, U48), is read as System. -/
def State.mode (s : State) : Mode := (Mode.ofBits s.modeBits).getD .sys

/-- `Privileged` (10_state.md R51). -/
def State.privileged (s : State) : Bool := s.mode != .usr

/-- SCR.NS (12_cp15_control.md R242). -/
def State.scrNs (s : State) : Bool := s.cp15.scr.getLsbD 0

/-- `Secure` (10_state.md R51). -/
def State.secure (s : State) : Bool := s.mode == .mon || !s.scrNs

/-- Is the core in the Non-secure world? -/
def State.nonSecure (s : State) : Bool := !s.secure

/-- Is the core in Debug state (`InDebugState`, 61_debug.md R1770)? -/
def State.inDebug (s : State) : Bool := s.activity == .debug

/-! ### CPSR fields (10_state.md R60) -/

def State.flagN (s : State) : Bool := s.cpsr.getLsbD 31
def State.flagZ (s : State) : Bool := s.cpsr.getLsbD 30
def State.flagC (s : State) : Bool := s.cpsr.getLsbD 29
def State.flagV (s : State) : Bool := s.cpsr.getLsbD 28
def State.flagQ (s : State) : Bool := s.cpsr.getLsbD 27
def State.bitJ (s : State) : Bool := s.cpsr.getLsbD 24
def State.ge (s : State) : BitVec 4 := s.cpsr.extractLsb' 16 4
def State.bitE (s : State) : Bool := s.cpsr.getLsbD 9
def State.bitA (s : State) : Bool := s.cpsr.getLsbD 8
def State.bitI (s : State) : Bool := s.cpsr.getLsbD 7
def State.bitF (s : State) : Bool := s.cpsr.getLsbD 6
def State.bitT (s : State) : Bool := s.cpsr.getLsbD 5

/-- The assigned bits of a program status register (10_state.md R60, D55). -/
def psrAssigned : Word := 0xF90F03FF

/-! ### Banked CP15 copies -/

/-- The copies of a world. -/
def Cp15.bank (c : Cp15) (ns : Bool) : Banked := if ns then c.ns else c.s

/-- Replace the copies of a world. -/
def Cp15.setBank (c : Cp15) (ns : Bool) (b : Banked) : Cp15 :=
  if ns then { c with ns := b } else { c with s := b }

/-- The Control Register as a world reads it: its banked bits, the bits with one copy, and the bits that read as one
(12_cp15_control.md R230, R231). -/
def Cp15.sctlr (c : Cp15) (ns : Bool) : Word := (c.bank ns).sctlr ||| c.sctlrCommon ||| 0x00050078

/-- The Control Register of the current world. -/
def State.sctlr (s : State) : Word := s.cp15.sctlr s.nonSecure

/-! ### Core registers -/

/-- Where R13 of a mode stands; R14 follows it (10_state.md R53). -/
def stackSlot : Mode → Nat
  | .usr => 13
  | .sys => 13
  | .fiq => 20
  | .irq => 22
  | .svc => 24
  | .abt => 26
  | .und => 28
  | .mon => 30

/-- `Rbank` of 10_state.md R53, for a register number other than 15: the index in `State.regs`. -/
def regSlot (m : Mode) (n : BitVec 4) : Fin 32 :=
  if n = 13 then Fin.ofNat 32 (stackSlot m)
  else if n = 14 then Fin.ofNat 32 (stackSlot m + 1)
  else if m = .fiq ∧ 8 ≤ n.toNat then Fin.ofNat 32 (n.toNat + 7)
  else Fin.ofNat 32 n.toNat

/-- The register of a mode. -/
def State.regOf (s : State) (m : Mode) (n : BitVec 4) : Word := s.regs[regSlot m n]

/-- The state with a register of a mode written. -/
def State.setRegOf (s : State) (m : Mode) (n : BitVec 4) (v : Word) : State :=
  { s with regs := s.regs.set (regSlot m n) v }

/-- `R[n]` for a register number other than 15. -/
def State.reg (s : State) (n : BitVec 4) : Word := s.regOf s.mode n

/-- The state with `R[n]` written, for a register number other than 15. -/
def State.setReg (s : State) (n : BitVec 4) (v : Word) : State := s.setRegOf s.mode n v

/-- `SPSRbank` of 10_state.md R53. -/
def spsrSlot : Mode → Option (Fin 6)
  | .fiq => some 0
  | .irq => some 1
  | .svc => some 2
  | .abt => some 3
  | .und => some 4
  | .mon => some 5
  | .usr => none
  | .sys => none

/-- The state with the SPSR of a mode written; User and System have none (10_state.md R54). -/
def State.setSpsrOf (s : State) (m : Mode) (v : Word) : State :=
  match spsrSlot m with
  | some k => { s with spsr := s.spsr.set k v }
  | none => s

/-- Read R15 as an operand: the address of the instruction plus 8, or plus 4 in Thumb state (10_state.md R56); in Debug
state `DbgPC`, or a free value once it is no longer valid (61_debug.md R1775, U58; log 31). -/
def readPc : M Word := do
  let s ← get
  if s.inDebug then
    if s.dbg.dbgPcValid then pure s.dbg.dbgPc else draw
  else pure (s.pc + (if s.bitT then 4 else 8))

/-- `R[n]` as an operand, R15 included. -/
def readReg (n : BitVec 4) : M Word := do
  if n = 15 then readPc else
    let s ← get
    pure (s.reg n)

/-- `R[n] <- v` for a register number other than 15. -/
def writeReg (n : BitVec 4) (v : Word) : M Unit := modify fun s => s.setReg n v

/-- A register of the User bank, R15 included (`R_usr[n]`, 10_state.md R53). -/
def readUserReg (n : BitVec 4) : M Word := do
  if n = 15 then readPc else
    let s ← get
    pure (s.regOf .usr n)

/-- `R_usr[n] <- v`. -/
def writeUserReg (n : BitVec 4) (v : Word) : M Unit := modify fun s => s.setRegOf .usr n v

/-- The SPSR of the current mode; in User and System mode undefined behaviour (10_state.md R54, U49; log 21). -/
def readSpsr : M Word := do
  let s ← get
  match spsrSlot s.mode with
  | some k => pure s.spsr[k]
  | none => refuse .spsrAbsent

/-! ### The PC -/

/-- The length in bytes of an instruction of the current state (10_state.md R75). -/
def State.ilen (s : State) : Word := if s.bitT then 2 else 4

/-- The address of the next instruction. -/
def State.nextInsn (s : State) : Word := s.pc + s.ilen

/-- The next instruction is the following one (10_state.md R56). In Debug state the PC is not incremented
(61_debug.md R1775). -/
def advance : M Unit := modify fun s => if s.inDebug then s else { s with pc := s.nextInsn }

/-- `BranchTo` (43_branch_status.md R1201); in Debug state a write of `DbgPC` (61_debug.md R1775). -/
def State.branchTo (s : State) (a : Word) : State :=
  if s.inDebug then
    { s with dbg := { s.dbg with dbgPc := a, dbgPcWritten := true, dbgPcValid := false } }
  else { s with pc := a }

/-- `BranchTo` (43_branch_status.md R1201). -/
def branchTo (a : Word) : M Unit := modify fun s => s.branchTo a

/-- The state with CPSR.T set to `t`. -/
def State.setT (s : State) (t : Bool) : State := { s with cpsr := setBit s.cpsr 5 t }

/-- `BXWritePC` (43_branch_status.md R1202). -/
def bxWritePc (v : Word) : M Unit := do
  if v.getLsbD 0 then modify fun s => (s.setT true).branchTo (v &&& 0xFFFFFFFE)
  else if v.getLsbD 1 then refuse .branchAddress
  else modify fun s => (s.setT false).branchTo v

/-- The address with the bits below the alignment of the current state cleared. -/
def State.alignPc (s : State) (v : Word) : Word := if s.bitT then v &&& 0xFFFFFFFE else v &&& 0xFFFFFFFC

/-- `LoadWritePC` (43_branch_status.md R1203). -/
def loadWritePc (v : Word) : M Unit := do
  let s ← get
  if s.sctlr.getLsbD 15 then branchTo (s.alignPc v) else bxWritePc v

/-- `ALUWritePC` (43_branch_status.md R1204). -/
def aluWritePc (v : Word) : M Unit := modify fun s => s.branchTo (s.alignPc v)

/-! ### Writing the program status registers -/

/-- The instructions that write the CPSR (10_state.md R70). -/
inductive PsrWrite where
  | msr
  | cps
  | exceptionReturn
deriving DecidableEq, Repr

/-- `CPSRWriteMask` (10_state.md R70); for an MSR in Debug state the mask of 61_debug.md R1773. -/
def State.cpsrWriteMask (s : State) (kind : PsrWrite) : Word :=
  let flags : Word := 0xF80F0200
  let jt : Word := 0x01000020
  let aBit : Word := if s.secure || s.cp15.scr.getLsbD 5 then 0x100 else 0
  let fBit : Word := if s.secure || s.cp15.scr.getLsbD 4 then 0x40 else 0
  let control : Word := 0x9F ||| aBit ||| fBit
  if s.inDebug && kind == .msr then
    flags ||| jt ||| (if s.nonSecure || s.pins.spiden then control else 0)
  else
    flags ||| (if kind == .exceptionReturn then jt else 0) ||| (if s.privileged then control else 0)

/-- `MonitorModeGuard` (10_state.md R70): outside the Secure privileged modes a write of Secure Monitor mode is
ignored. For an MSR in Debug state the guard is 61_debug.md R1772. -/
def State.monitorGuard (s : State) (kind : PsrWrite) (newMode : BitVec 5) : Bool :=
  newMode == Mode.mon.toBits && !(s.secure && s.privileged) && !(s.inDebug && kind == .msr)

/-- Write the bits of `m` of the CPSR that may be written, as MSR and the exception returns do (43_branch_status.md
R1205, R1221): a value that is no mode is undefined behaviour (U48; log 21). -/
def writeCpsr (kind : PsrWrite) (m v : Word) : M Unit := do
  let s ← get
  let m := m &&& s.cpsrWriteMask kind &&& psrAssigned
  let newMode : BitVec 5 := v.extractLsb' 0 5
  if m.getLsbD 0 then
    if s.monitorGuard kind newMode then
      set { s with cpsr := merge s.cpsr v (m &&& 0xFFFFFFE0) }
    else if (Mode.ofBits newMode).isSome then
      set { s with cpsr := merge s.cpsr v m }
    else refuse .unassignedMode
  else set { s with cpsr := merge s.cpsr v m }

/-- `ExceptionReturn` (43_branch_status.md R1205): the CPSR from `psr`, then the PC, aligned by the new state. A return to
Jazelle state stops the machine (D54; log 20); in Debug state J and T act only at its exit (61_debug.md R1773). -/
def exceptionReturn (newPc psr : Word) : M Unit := do
  writeCpsr .exceptionReturn psrAssigned psr
  let s ← get
  if s.bitJ && !s.bitT && !s.inDebug then throw (.faulted .jazelleState)
  modify fun s => s.branchTo (s.alignPc newPc)

/-! ### Taking an exception -/

/-- The exceptions an instruction or the boundary takes (60_exceptions.md R1604). -/
inductive Exn where
  | undef
  | svc
  | smc
  | pabt
  | dabt
  | irq
  | fiq
deriving DecidableEq, Repr

/-- The mode an exception enters when it is not routed to Secure Monitor mode (60_exceptions.md R1604). SMC is always
routed. -/
def Exn.mode : Exn → Mode
  | .undef => .und
  | .svc => .svc
  | .smc => .mon
  | .pabt => .abt
  | .dabt => .abt
  | .irq => .irq
  | .fiq => .fiq

/-- The vector offset (60_exceptions.md R1600). -/
def Exn.offset : Exn → Word
  | .undef => 0x04
  | .svc => 0x08
  | .smc => 0x08
  | .pabt => 0x0C
  | .dabt => 0x10
  | .irq => 0x18
  | .fiq => 0x1C

/-- `VectorAddr` for the Secure Monitor table (60_exceptions.md R1603). -/
def Cp15.monVector (c : Cp15) (off : Word) : Word := (c.mvbar &&& 0xFFFFFFE0) + off

/-- `VectorAddr` for the table of a world (60_exceptions.md R1603). -/
def Cp15.vector (c : Cp15) (ns : Bool) (off : Word) : Word :=
  if (c.sctlr ns).getLsbD 13 then 0xFFFF0000 + off else ((c.bank ns).vbar &&& 0xFFFFFFE0) + off

/-- The CPSR after the entry of an exception (60_exceptions.md R1604, R1620). -/
def entryCpsr (old : Word) (m : Mode) (setA setF ee : Bool) : Word :=
  let c := setField old 0 m.toBits
  let c := setBit (setBit (setBit c 5 false) 24 false) 7 true
  let c := if setF then setBit c 6 true else c
  let c := if setA then setBit c 8 true else c
  setBit c 9 ee

/-- `TakeException(kind, ret, toMonitor)` (60_exceptions.md R1604, R1605). With the VIC port enabled an IRQ goes to
IRQADDR, which the boundary has waited for (R1633, 62_platform.md R1862). -/
def State.takeException (s : State) (kind : Exn) (ret : Word) (toMonitor : Bool) : State :=
  let old := s.cpsr
  let scr := if s.mode == .mon then setBit s.cp15.scr 0 false else s.cp15.scr
  let cp := { s.cp15 with scr := scr }
  let ns := scr.getLsbD 0
  if toMonitor then
    let t := (s.setRegOf .mon 14 ret).setSpsrOf .mon old
    { t with
      cp15 := cp
      cpsr := entryCpsr old .mon true true ((cp.sctlr false).getLsbD 25)
      pc := cp.monVector kind.offset }
  else
    let t := (s.setRegOf kind.mode 14 ret).setSpsrOf kind.mode old
    let setF := kind == .fiq && (!ns || scr.getLsbD 4)
    let setA := (kind == .pabt || kind == .dabt || kind == .irq || kind == .fiq) && (!ns || scr.getLsbD 5)
    { t with
      cp15 := cp
      cpsr := entryCpsr old kind.mode setA setF ((cp.sctlr ns).getLsbD 25)
      pc := if kind == .irq && (cp.sctlr ns).getLsbD 24 then s.pins.irqAddr &&& 0xFFFFFFFC
            else cp.vector ns kind.offset }

/-- Set a sticky bit of the DSCR (61_debug.md R1777). -/
def State.setDscrBit (s : State) (k : Nat) (b : Bool) : State :=
  { s with dbg := { s.dbg with dscr := setBit s.dbg.dscr k b } }

/-- Take an exception in place of the instruction's own effect and end it. In Debug state (61_debug.md R1777) an
Undefined Instruction sets DSCR[8], a precise Data Abort sets DSCR[6], and SVC, SMC and BKPT are ignored. -/
def raise {α : Type} (kind : Exn) (ret : State → Word) (toMonitor : State → Bool) : M α := do
  modify fun s =>
    if s.inDebug then
      match kind with
      | .undef => s.setDscrBit 8 true
      | .dabt => s.setDscrBit 6 true
      | _ => s
    else s.takeException kind (ret s) (toMonitor s)
  throw .taken

/-- Take the Undefined Instruction exception (60_exceptions.md R1612). -/
def raiseUndefined {α : Type} : M α := raise .undef State.nextInsn fun _ => false

/-- Take the Undefined Instruction exception where the condition holds. -/
def undefinedIf (c : Bool) : M Unit := if c then raiseUndefined else pure ()

/-- SCR.EA (12_cp15_control.md R242). -/
def State.scrEa (s : State) : Bool := s.cp15.scr.getLsbD 3

/-- Take a precise Data Abort (60_exceptions.md R1624): R14 is the address of the instruction plus 8; an external one
goes to Secure Monitor mode when SCR.EA is set. -/
def raiseDataAbort {α : Type} (external : Bool) : M α :=
  raise .dabt (fun s => s.pc + 8) fun s => external && s.scrEa

end Sys2Proof.Machine
end

