-- ==== Sys2Proof/Machine/DebugMatch.lean ====
section
/-!
DEFINITION. Debug permission by world and mode, the debug-mode in force (61_debug.md R1710 to R1712), and the comparisons
of breakpoints, watchpoints and vector catches (R1737, R1740 to R1744, R1751 to R1753).
-/
namespace Sys2Proof.Machine

/-- The debug-modes (61_debug.md R1711). -/
inductive DbgMode where
  | disabled
  | none
  | halting
  | monitor
deriving DecidableEq, Repr

/-- `DbgMode` (61_debug.md R1711). -/
def State.dbgMode (s : State) : DbgMode :=
  if !s.pins.dbgen then .disabled
  else if s.dbg.dscr.getLsbD 14 then .halting
  else if s.dbg.dscr.getLsbD 15 then .monitor
  else .none

/-- `InvasivePermitted` (61_debug.md R1712). -/
def State.invasivePermitted (s : State) : Bool :=
  s.nonSecure || s.pins.spiden || (s.cp15.sder.getLsbD 0 && !s.privileged)

/-- `NonInvasivePermitted` (61_debug.md R1712). -/
def State.nonInvasivePermitted (s : State) : Bool :=
  s.nonSecure || s.pins.spniden || (s.cp15.sder.getLsbD 1 && !s.privileged)

/-- "Debug permitted" (61_debug.md R1712, R1758). -/
def State.debugPermitted (s : State) : Bool := s.pins.dbgen && s.invasivePermitted

/-- The Context ID Register of the current world. -/
def State.contextId (s : State) : Word := (s.cp15.bank s.nonSecure).contextId

/-- `WorldOK` of a control register (61_debug.md R1751). -/
def State.worldOk (s : State) (c : Word) : Bool :=
  let f : BitVec 2 := c.extractLsb' 14 2
  f == 0b00 || (f == 0b01 && s.nonSecure) || (f == 0b10 && s.secure)

/-- `PrivOK` of a control register for an access of the given privilege (61_debug.md R1751, R1753). -/
def privOk (c : Word) (priv : Bool) : Bool :=
  let f : BitVec 2 := c.extractLsb' 1 2
  f == 0b11 || (f == 0b01 && priv) || (f == 0b10 && !priv)

/-- BRP `m` is context ID capable, set for comparison and linking, enabled, and matches (61_debug.md R1741). -/
def State.ctxLinked (s : State) (m : Fin 6) : Bool :=
  decide (4 ≤ m.val) && s.dbg.bcr[m].extractLsb' 20 3 == 0b011#3 && s.dbg.bcr[m].getLsbD 0 &&
    s.dbg.bvr[m] == s.contextId

/-- `CtxLinkOK` (61_debug.md R1751): linking is off, or the BRP named by bits [19:16] matches. A BRP cannot be linked
with itself: one that compares an IMVA is not set for context ID comparison. -/
def State.ctxLinkOk (s : State) (c : Word) : Bool :=
  !c.getLsbD 20 ||
    (let m : BitVec 4 := c.extractLsb' 16 4
     (m == 4 && s.ctxLinked 4) || (m == 5 && s.ctxLinked 5))

/-- Bit 7 of the Control Register: word-invariant big-endian (20_memory.md R532). -/
def State.bigEndian32 (s : State) : Bool := s.sctlr.getLsbD 7

/-- The byte lanes of the instruction at `a` (61_debug.md R1751). -/
def State.insnLanes (s : State) (a : Word) : BitVec 4 :=
  if s.bitT then
    (if (if s.bigEndian32 then a ^^^ 2#32 else a).getLsbD 1 then 0b1100 else 0b0011)
  else 0b1111

/-- `AddrHit(n)` (61_debug.md R1751). -/
def State.bvrHit (s : State) (n : Fin 6) (a : Word) : Bool :=
  s.dbg.bvr[n].extractLsb' 2 30 == a.extractLsb' 2 30 && (s.dbg.bcr[n].extractLsb' 5 4 &&& s.insnLanes a) != 0

/-- `BreakpointHit(n)` for the instruction at IMVA `a` (61_debug.md R1751). -/
def State.breakpointHit (s : State) (n : Fin 6) (a : Word) : Bool :=
  let c := s.dbg.bcr[n]
  let meaning : BitVec 2 := c.extractLsb' 21 2
  c.getLsbD 0 && s.worldOk c && privOk c s.privileged &&
    (if meaning == 0b00 then s.bvrHit n a && s.ctxLinkOk c
     else if meaning == 0b10 then !s.bvrHit n a && s.ctxLinkOk c
     else if meaning == 0b01 then
       decide (4 ≤ n.val) && !c.getLsbD 20 && c.extractLsb' 5 4 == 0b1111#4 && s.dbg.bvr[n] == s.contextId
     else false)

/-- In Monitor debug-mode an unlinked context ID match and every mismatch are ignored in a privileged mode
(61_debug.md R1759). -/
def State.breakpointIgnored (s : State) (n : Fin 6) : Bool :=
  let f : BitVec 3 := s.dbg.bcr[n].extractLsb' 20 3
  s.dbgMode == .monitor && s.privileged && (f == 0b010 || f == 0b100 || f == 0b101)

/-- A breakpoint debug event occurs for the instruction at IMVA `a` and is not ignored (61_debug.md R1752, R1759). -/
def State.breakpointEvent (s : State) (a : Word) : Bool :=
  ([0, 1, 2, 3, 4, 5] : List (Fin 6)).any fun n => s.breakpointHit n a && !s.breakpointIgnored n

/-- The little-endian byte address of a byte of an access of `size` bytes (61_debug.md R1753). -/
def State.lanesByte (s : State) (size : Nat) (x : Word) : Word :=
  if s.bigEndian32 then (if size = 1 then x ^^^ 3#32 else if size = 2 then x ^^^ 2#32 else x) else x

/-- `wlanes` of 61_debug.md R1753 for watchpoint `n`: the lanes of its word that `len` bytes from `d` on touch, a part of an
access of `size` bytes. -/
def State.watchLanes (s : State) (n : Fin 2) (d : Word) (size len : Nat) : BitVec 4 :=
  (List.range len).foldl (fun acc i =>
    let b := s.lanesByte size (d + BitVec.ofNat 32 i)
    if b.extractLsb' 2 30 == s.dbg.wvr[n].extractLsb' 2 30 then acc ||| (1#4 <<< (b.extractLsb' 0 2).toNat) else acc) 0

/-- `KindOK` (61_debug.md R1753); a SWP triggers on Load, Store or Either. -/
def watchKindOk (c : Word) (load store : Bool) : Bool :=
  let f : BitVec 2 := c.extractLsb' 3 2
  f == 0b11 || (f == 0b01 && load) || (f == 0b10 && store)

/-- `WatchpointHit(n)` (61_debug.md R1753). -/
def State.watchpointHit (s : State) (n : Fin 2) (d : Word) (size len : Nat) (load store priv : Bool) : Bool :=
  let c := s.dbg.wcr[n]
  c.getLsbD 0 && (c.extractLsb' 5 4 &&& s.watchLanes n d size len) != 0 && s.worldOk c && privOk c priv &&
    watchKindOk c load store && s.ctxLinkOk c

/-- Some watchpoint hits. -/
def State.watchHit (s : State) (d : Word) (size len : Nat) (load store priv : Bool) : Bool :=
  s.watchpointHit 0 d size len load store priv || s.watchpointHit 1 d size len load store priv

/-- Record the first watchpoint hit of an instruction (61_debug.md R1754, R1760): each part of an access, `len` bytes from the
MVA `d` on, is compared on its own (20_memory.md R620 step 3; log 30). In Debug state software debug events are ignored
(R1771). -/
def recordWatch (d : Word) (size len : Nat) (load store priv : Bool) (domain : BitVec 4) : M Unit :=
  modify fun s =>
    if s.dbg.watch.isNone && !s.inDebug && s.watchHit d size len load store priv then
      { s with dbg := { s.dbg with
          watch := some { far := d, write := store, domain := domain, wfar := s.pc + (if s.bitT then 4 else 8),
                          permitted := s.debugPermitted } } }
    else s

/-- The vectors of a world or of Secure Monitor mode that vector catch compares: the VCR bit and the offset
(61_debug.md R1736). Data Abort and Prefetch Abort are the pair that Monitor debug-mode ignores (R1759). -/
def catchOffsets : List (Nat × Word) := [(1, 0x04), (2, 0x08), (3, 0x0C), (4, 0x10), (7, 0x1C)]

/-- Vector catch of one group (61_debug.md R1737): `base` is the bit number of the group's bit 0, `vec` its vector
address by offset, and `irq` the address its IRQ bit catches. -/
def State.catchGroup (s : State) (base : Nat) (vec : Word → Word) (irq : Option Word) (a : Word) : Bool :=
  let on (k : Nat) := s.dbg.vcr.getLsbD (base + k)
  catchOffsets.any (fun p =>
    on p.1 && vec p.2 == a && !(s.dbgMode == .monitor && (p.1 == 3 || p.1 == 4))) ||
    (on 6 && irq == some a)

/-- The address of the IRQ vector of a world that vector catch compares (61_debug.md R1737, D69). -/
def State.catchIrq (s : State) (ns : Bool) : Option Word :=
  if (s.cp15.sctlr ns).getLsbD 24 then (if ns then s.dbg.lastIrqNs else s.dbg.lastIrqS)
  else some (s.cp15.vector ns 0x18)

/-- A vector catch debug event occurs for a fetch from `pc`, a virtual address (log 50), and is not ignored (61_debug.md R1737,
R1759). -/
def State.vectorCatchEvent (s : State) (pc : Word) : Bool :=
  let a := pc &&& 0xFFFFFFFC
  if s.nonSecure then s.catchGroup 24 (s.cp15.vector true) (s.catchIrq true) a
  else
    (s.dbg.vcr.getLsbD 0 && a == (if (s.cp15.sctlr false).getLsbD 13 then 0xFFFF0000 else 0)) ||
      s.catchGroup 0 (s.cp15.vector false) (s.catchIrq false) a ||
      s.catchGroup 8 s.cp15.monVector (some (s.cp15.monVector 0x18)) a

end Sys2Proof.Machine
end

