-- ==== Sys2Proof/Machine/Mmu.lean ====
section
/-!
DEFINITION. The memory management unit (21_mmu.md): the modified virtual address, the TLB lockdown entries, the
translation table walk, access control and the memory attributes, as the function `Translate` of R685.
-/
namespace Sys2Proof.Machine

/-- The memory types (20_memory.md R560). -/
inductive MemType where
  | stronglyOrdered
  | device
  | normal
deriving DecidableEq, Repr

/-- The attributes of a region (21_mmu.md R660). The cache policies are those of Table 6-3. -/
structure Attrs where
  type   : MemType
  shared : Bool
  inner  : BitVec 2
  outer  : BitVec 2
deriving DecidableEq, Repr

/-- A request to the MMU (21_mmu.md R631, R632). -/
structure Request where
  mva  : Word
  kind : Access
  priv : Bool
  /-- The world of the request is Non-secure. -/
  ns   : Bool
deriving DecidableEq, Repr

/-- A fault of a translation (21_mmu.md R670): bit 4 of `status` is FSR[10]. -/
structure MmuFault where
  status   : BitVec 5
  domain   : BitVec 4
  /-- An external abort on the translation table walk. -/
  external : Bool
  slverr   : Bool
deriving DecidableEq, Repr

/-- A successful translation. No attributes: the encoding is reserved (U33). -/
structure Translation where
  pa     : Word
  /-- The NS attribute (21_mmu.md R663). -/
  nsAttr : Bool
  attrs  : Option Attrs
  domain : BitVec 4
deriving DecidableEq, Repr

/-- `MVA(VA)` with the FCSE PID of a world (14_cp15_dma_misc.md R460). -/
def Cp15.mva (c : Cp15) (ns : Bool) (va : Word) : Word :=
  if va.extractLsb' 25 7 = 0#7 then ((c.bank ns).fcse &&& 0xFE000000) ||| va else va

/-! ### The platform's memory -/

/-- What the platform sees of an access: its address, which with B = 1 is the program's (20_memory.md R538; log 61), AxPROT and its
direction (22_l1_l2.md R814, R825). -/
structure BusAccess where
  pa    : Word
  /-- AxPROT[1]. -/
  ns    : Bool
  /-- AxPROT[0]. -/
  priv  : Bool
  /-- AxPROT[2]: an instruction access. -/
  insn  : Bool
  write : Bool
deriving DecidableEq, Repr

/-- An access of the core: a fetch is an instruction access, a read or a write a data access (22_l1_l2.md R814). -/
def Access.onBus (kind : Access) (pa : Word) (ns priv : Bool) : BusAccess :=
  { pa := pa, ns := ns, priv := priv, insn := kind == .fetch, write := kind == .write }

/-- A refused region answers the access (62_platform.md R1909). -/
def BusRegion.answers (r : BusRegion) (a : BusAccess) : Bool :=
  decide (r.first ≤ a.pa.toNat) && decide (a.pa.toNat ≤ r.last) && (if a.ns then r.nonSecure else r.secure) &&
    (if a.priv then r.privileged else r.user) && (if a.insn then r.insn else r.data) &&
    (if a.write then r.writes else r.reads)

/-- What the platform answers to an access that is not OKAY (62_platform.md R1909). -/
def State.busAnswer (s : State) (a : BusAccess) : Option BusAnswer := (s.regions.find? (·.answers a)).map (·.answer)

/-- The error response to an ordinary access: `some slverr`. -/
def State.busError (s : State) (a : BusAccess) : Option Bool :=
  match s.busAnswer a with
  | some .slverr => some true
  | some .decerr => some false
  | _ => none

/-- The little-endian word at an aligned physical address, as the table walk reads it (21_mmu.md R636, D39). -/
def State.physWord (s : State) (pa : Word) : Word :=
  let a := pa.toNat
  ofBytes (readCell s.mem (a + 3)) (readCell s.mem (a + 2)) (readCell s.mem (a + 1)) (readCell s.mem a)

/-! ### Lockdown entries -/

/-- log2 of the size of an entry (14_cp15_dma_misc.md R493). -/
def TlbEntry.sizeLog (e : TlbEntry) : Nat :=
  if e.size = 0b00 then 24 else if e.size = 0b01 then 12 else if e.size = 0b10 then 16 else 20

/-- Does the entry map a section or a supersection (21_mmu.md R700)? -/
def TlbEntry.isSection (e : TlbEntry) : Bool := e.size == 0b00 || e.size == 0b11

/-- `Match` (21_mmu.md R700). -/
def TlbEntry.hits (e : TlbEntry) (c : Cp15) (r : Request) : Bool :=
  e.valid && e.nstid == r.ns && (e.va ++ 0#12) >>> e.sizeLog == r.mva >>> e.sizeLog &&
    (e.global || e.asid == (c.bank r.ns).contextId.extractLsb' 0 8)

/-- The access permission bits for an address (21_mmu.md R649). An entry of a section that a program marks with SPV selects
among its four fields as a small page does (log 57). -/
def TlbEntry.apAt (e : TlbEntry) (mva : Word) : BitVec 2 :=
  if e.spv then
    let k : BitVec 2 := if e.size = 0b10 then mva.extractLsb' 14 2 else mva.extractLsb' 10 2
    if k = 0 then e.ap else if k = 1 then e.ap1 else if k = 2 then e.ap2 else e.ap3
  else e.ap

/-- The physical address (21_mmu.md R649). -/
def TlbEntry.paAt (e : TlbEntry) (mva : Word) : Word :=
  let low : Word := (1#32 <<< e.sizeLog) - 1
  ((e.pa ++ 0#12) &&& ~~~low) ||| (mva &&& low)

/-- The lockdown entry that translates a request; the first where several match (U34; log 14). In Debug state DSMCR.nDMM
= 0 disables matching (61_debug.md R1746). -/
def State.tlbLookup (s : State) (r : Request) : Option TlbEntry :=
  if s.inDebug && !s.dbg.dsmcr.getLsbD 6 then none
  else s.cp15.tlb.toList.find? fun e => e.hits s.cp15 r

/-! ### The walk -/

/-- `UseTTBR0` (21_mmu.md R634). -/
def useTtbr0 (mva : Word) (n : Nat) : Bool := n == 0 || mva >>> (32 - n) == 0

/-- `L1Addr` (21_mmu.md R635). -/
def Banked.l1Addr (b : Banked) (mva : Word) : Word :=
  let n := (b.ttbcr.extractLsb' 0 3).toNat
  if useTtbr0 mva n then alignDown b.ttbr0 (14 - n) ||| ((((mva <<< n) >>> n) >>> 20) <<< 2)
  else alignDown b.ttbr1 14 ||| ((mva >>> 20) <<< 2)

/-- `L2Addr` (21_mmu.md R642). -/
def l2Addr (l1 mva : Word) : Word := (l1 &&& 0xFFFFFC00) ||| (((mva >>> 12) &&& 0xFF) <<< 2)

/-- The part of an entry that every walk of a request fills alike (21_mmu.md R663, R700). -/
def State.newEntry (s : State) (r : Request) (nsBit nG : Bool) : TlbEntry :=
  { resetTlbEntry with
    va := r.mva.extractLsb' 12 20, valid := true, nstid := r.ns, nsa := r.ns || nsBit, global := !nG,
    asid := if nG then (s.cp15.bank r.ns).contextId.extractLsb' 0 8 else 0 }

/-- The entry of a section or supersection descriptor (21_mmu.md R639, R641, R647, R649). -/
def State.sectionEntry (s : State) (r : Request) (l1 : Word) : TlbEntry :=
  let xp := (s.cp15.sctlr r.ns).getLsbD 23
  let super := l1.getLsbD 18
  { s.newEntry r (l1.getLsbD 19) (xp && l1.getLsbD 17) with
    size := if super then 0b00 else 0b11
    pa := l1.extractLsb' 12 20 &&& (if super then 0xFF000#20 else 0xFFF00#20)
    domain := if super then 0 else l1.extractLsb' 5 4
    tex := l1.extractLsb' 12 3, ap := l1.extractLsb' 10 2, c := l1.getLsbD 3, b := l1.getLsbD 2
    s := xp && l1.getLsbD 16, apx := xp && l1.getLsbD 15, xn := xp && l1.getLsbD 4 }

/-- The entry of a second-level descriptor (21_mmu.md R644, R645, R649). -/
def State.pageEntry (s : State) (r : Request) (l1 l2 : Word) : TlbEntry :=
  let xp := (s.cp15.sctlr r.ns).getLsbD 23
  let large := l2.extractLsb' 0 2 == 0b01#2
  let small := !xp && l2.extractLsb' 0 2 == 0b10#2
  { s.newEntry r (l1.getLsbD 3) (xp && l2.getLsbD 11) with
    size := if large then 0b10 else 0b01
    pa := l2.extractLsb' 12 20 &&& (if large then 0xFFFF0#20 else 0xFFFFF#20)
    domain := l1.extractLsb' 5 4
    tex := if large then l2.extractLsb' 12 3 else if small then 0 else l2.extractLsb' 6 3
    ap := l2.extractLsb' 4 2, c := l2.getLsbD 3, b := l2.getLsbD 2
    s := xp && l2.getLsbD 10, apx := xp && l2.getLsbD 9
    xn := xp && (if large then l2.getLsbD 15 else l2.getLsbD 0)
    spv := !xp && (large || small)
    ap1 := if !xp && (large || small) then l2.extractLsb' 6 2 else 0
    ap2 := if !xp && (large || small) then l2.extractLsb' 8 2 else 0
    ap3 := if !xp && (large || small) then l2.extractLsb' 10 2 else 0 }

/-- A translation fault that no external abort caused. -/
def mmuFault (status : BitVec 5) (domain : BitVec 4) : MmuFault :=
  { status := status, domain := domain, external := false, slverr := false }

/-- The translation table walk (21_mmu.md R636, R637, R676 steps 3 to 5). Its accesses are data reads with the privilege of
the request (22_l1_l2.md R810, R814; log 49). -/
def State.walk (s : State) (r : Request) : Except MmuFault TlbEntry :=
  let b := s.cp15.bank r.ns
  let n := (b.ttbcr.extractLsb' 0 3).toNat
  if (if useTtbr0 r.mva n then b.ttbcr.getLsbD 4 else b.ttbcr.getLsbD 5) then .error (mmuFault 0b00101 0)
  else
    let a1 := b.l1Addr r.mva
    match s.busError (Access.read.onBus a1 r.ns r.priv) with
    | some sl => .error { status := 0b01100, domain := 0, external := true, slverr := sl }
    | none =>
      let l1 := s.physWord a1
      let t1 : BitVec 2 := l1.extractLsb' 0 2
      if t1 = 0b10 then .ok (s.sectionEntry r l1)
      else if t1 = 0b01 then
        let d : BitVec 4 := l1.extractLsb' 5 4
        let a2 := l2Addr l1 r.mva
        match s.busError (Access.read.onBus a2 r.ns r.priv) with
        | some sl => .error { status := 0b01110, domain := d, external := true, slverr := sl }
        | none =>
          let l2 := s.physWord a2
          if l2.extractLsb' 0 2 = 0b00#2 then .error (mmuFault 0b00111 d) else .ok (s.pageEntry r l1 l2)
      else .error (mmuFault 0b00101 0)

/-! ### Access control -/

/-- What one kind of code may do (21_mmu.md R651). -/
inductive Perm where
  | noAccess
  | readOnly
  | readWrite
deriving DecidableEq, Repr

/-- `Perm` (21_mmu.md R651): privileged, then User. The encodings no table lists give no access (U32). -/
def permissions (apx : Bool) (ap : BitVec 2) (sBit rBit : Bool) : Perm × Perm :=
  if ap = 0b00 then
    if apx then (.noAccess, .noAccess)
    else if sBit && !rBit then (.readOnly, .noAccess)
    else if !sBit && rBit then (.readOnly, .readOnly)
    else (.noAccess, .noAccess)
  else if apx then (.readOnly, if ap = 0b01 then .noAccess else .readOnly)
  else (.readWrite, if ap = 0b01 then .noAccess else if ap = 0b10 then .readOnly else .readWrite)

/-- `Allowed` (21_mmu.md R651). -/
def Perm.allows (p : Perm) (kind : Access) : Bool :=
  match p with
  | .readWrite => true
  | .readOnly => kind != .write
  | .noAccess => false

/-- The access permissions of the S and R bits, deprecated: APX:AP = 000 where S and R have opposite values (21_mmu.md R651, R653). -/
def usesSR (apx : Bool) (ap : BitVec 2) (sBit rBit : Bool) : Bool := !apx && ap == 0 && sBit != rBit

/-- The checks of an entry (21_mmu.md R676 steps 6 to 8): Access bit, domain, permission. The deprecated case of the S and R bits
has no Access bit (R653; log 48). -/
def State.checkEntry (s : State) (r : Request) (e : TlbEntry) : Option MmuFault :=
  let ctl := s.cp15.sctlr r.ns
  let ap := e.apAt r.mva
  let fault (sec page : BitVec 5) := some (mmuFault (if e.isSection then sec else page) e.domain)
  let dom : BitVec 2 := (s.cp15.bank r.ns).dacr.extractLsb' (2 * e.domain.toNat) 2
  let perms := permissions e.apx ap (ctl.getLsbD 8) (ctl.getLsbD 9)
  if ctl.getLsbD 29 && ctl.getLsbD 23 && !ap.getLsbD 0 && !usesSR e.apx ap (ctl.getLsbD 8) (ctl.getLsbD 9) then fault 0b00011 0b00110
  else if !dom.getLsbD 0 then fault 0b01001 0b01011
  else if dom = 0b01 &&
      (!(if r.priv then perms.1 else perms.2).allows r.kind || (r.kind == .fetch && e.xn)) then
    fault 0b01101 0b01111
  else none

/-! ### Attributes -/

/-- Attributes without TEX remap (21_mmu.md R661, Table 6-2); reserved encodings have none (U33). -/
def decodeAttrs (tex : BitVec 3) (c b s : Bool) : Option Attrs :=
  let cb : BitVec 2 := BitVec.ofBool c ++ BitVec.ofBool b
  if tex.getLsbD 2 then some { type := .normal, shared := s, inner := cb, outer := tex.extractLsb' 0 2 }
  else if tex = 0b000 then
    some (if cb = 0b00 then { type := .stronglyOrdered, shared := true, inner := 0, outer := 0 }
      else if cb = 0b01 then { type := .device, shared := true, inner := 0, outer := 0 }
      else { type := .normal, shared := s, inner := cb, outer := cb })
  else if tex = 0b001 && cb = 0b00 then some { type := .normal, shared := s, inner := 0, outer := 0 }
  else if tex = 0b001 && cb = 0b11 then some { type := .normal, shared := s, inner := 0b01, outer := 0b01 }
  else if tex = 0b010 && cb = 0b00 then some { type := .device, shared := false, inner := 0, outer := 0 }
  else none

/-- Attributes with TEX remap (21_mmu.md R662): `n` is TEX[0]:C:B. -/
def Banked.remapAttrs (bk : Banked) (n : Nat) (s : Bool) : Attrs :=
  let t : BitVec 2 := bk.prrr.extractLsb' (2 * n) 2
  if t = 0b00 then { type := .stronglyOrdered, shared := true, inner := 0, outer := 0 }
  else if t = 0b01 then
    { type := .device, shared := bk.prrr.getLsbD (if s then 17 else 16), inner := 0, outer := 0 }
  else
    { type := .normal, shared := bk.prrr.getLsbD (if s then 19 else 18),
      inner := bk.nmrr.extractLsb' (2 * n) 2, outer := bk.nmrr.extractLsb' (2 * n + 16) 2 }

/-- The attributes of an entry for a world (21_mmu.md R685). -/
def Cp15.entryAttrs (c : Cp15) (ns : Bool) (e : TlbEntry) : Option Attrs :=
  if (c.sctlr ns).getLsbD 28 then
    some ((c.bank ns).remapAttrs
      ((if e.tex.getLsbD 0 then 4 else 0) + (if e.c then 2 else 0) + (if e.b then 1 else 0)) e.s)
  else decodeAttrs e.tex e.c e.b e.s

/-- The attributes with the MMU off (21_mmu.md R664). -/
def Cp15.offAttrs (c : Cp15) (ns : Bool) (kind : Access) : Attrs :=
  let ctl := c.sctlr ns
  if ctl.getLsbD 28 then (c.bank ns).remapAttrs 0 true
  else if kind == .fetch && ctl.getLsbD 12 then { type := .normal, shared := false, inner := 0b10, outer := 0b10 }
  else { type := .stronglyOrdered, shared := true, inner := 0, outer := 0 }

/-! ### Translation -/

/-- Where the result of a walk goes (21_mmu.md R705): into lockdown entry Victim when P is set and the request may use
the lockdown region; Victim then increments, from 7 to 0 (D22). In Debug state DSMCR.nDML = 0 disables loading
(61_debug.md R1746). -/
def State.insertEntry (s : State) (e : TlbEntry) : State :=
  let reg := s.cp15.tlbLockdown
  if reg.getLsbD 0 && !(e.nstid && !s.cp15.nsacr.getLsbD 17) && !(s.inDebug && !s.dbg.dsmcr.getLsbD 4) then
    let v : BitVec 3 := reg.extractLsb' 26 3
    { s with cp15 := { s.cp15 with
        tlb := s.cp15.tlb.set v.toNat e v.isLt
        tlbLockdown := setField reg 26 (v + 1) } }
  else s

/-- The entry of a request, from the lockdown entries or from a walk, and the state with what the walk wrote into the
lockdown region (21_mmu.md R676 steps 2 to 5). -/
def State.findEntry (s : State) (r : Request) : Except MmuFault TlbEntry × State :=
  match s.tlbLookup r with
  | some e => (.ok e, s)
  | none =>
    match s.walk r with
    | .error f => (.error f, s)
    | .ok e => (.ok e, s.insertEntry e)

/-- The result of an entry that nothing is checked of. -/
def State.entryTranslation (s : State) (r : Request) (e : TlbEntry) : Translation :=
  { pa := e.paAt r.mva, nsAttr := r.ns || e.nsa, attrs := s.cp15.entryAttrs r.ns e, domain := e.domain }

/-- The result with the MMU off: the flat mapping (21_mmu.md R664). -/
def State.flatTranslation (s : State) (r : Request) : Translation :=
  { pa := r.mva, nsAttr := r.ns, attrs := some (s.cp15.offAttrs r.ns r.kind), domain := 0 }

/-- `Translate` (21_mmu.md R685) with the fault of the checks of the entry beside its result, and the state with what the walk
wrote into the lockdown region. A store-exclusive that fails does not exercise its permission (20_memory.md R602). -/
def State.translateDeferred (s : State) (r : Request) : Except MmuFault (Translation × Option MmuFault) × State :=
  if !(s.cp15.sctlr r.ns).getLsbD 0 then (.ok (s.flatTranslation r, none), s)
  else
    match s.findEntry r with
    | (.error f, s') => (.error f, s')
    | (.ok e, s') => (.ok (s.entryTranslation r e, s.checkEntry r e), s')

/-- `Translate` (21_mmu.md R685), and the state with what the walk wrote into the lockdown region. -/
def State.translate (s : State) (r : Request) : Except MmuFault Translation × State :=
  match s.translateDeferred r with
  | (.error f, s') => (.error f, s')
  | (.ok (_, some f), s') => (.error f, s')
  | (.ok (t, none), s') => (.ok t, s')

/-- A function of the state that also gives a state, as an operation. -/
def liftState {α : Type} (f : State → α × State) : M α := fun s => .ok (f s).1 (f s).2

/-- `Translate` as an operation. -/
def translate (r : Request) : M (Except MmuFault Translation) := liftState fun s => s.translate r

end Sys2Proof.Machine
end

