-- ==== Sys2Proof/Machine/Access.lean ====
section
/-!
DEFINITION. One access to memory, from the virtual address to the bytes (20_memory.md R620): alignment, translation, TCM
and bus, byte order, aborts (21_mmu.md R667 to R676), watchpoints, the exclusive monitors (20_memory.md R600 to R608),
and the instruction fetch.
-/
namespace Sys2Proof.Machine

/-! ### Tightly-coupled memories -/

/-- The TCMs (22_l1_l2.md R760). -/
inductive Tcm where
  | itcm0
  | itcm1
  | dtcm0
  | dtcm1
deriving DecidableEq, Repr

/-- The number of the TCM on its side. -/
def Tcm.number : Tcm → Fin 2
  | .itcm0 => 0
  | .itcm1 => 1
  | .dtcm0 => 0
  | .dtcm1 => 1

/-- Is the TCM implemented (22_l1_l2.md R765)? -/
def Tcm.present : Tcm → Bool
  | .itcm0 => decide (1 ≤ Config.nItcm)
  | .itcm1 => decide (2 ≤ Config.nItcm)
  | .dtcm0 => decide (1 ≤ Config.nDtcm)
  | .dtcm1 => decide (2 ≤ Config.nDtcm)

/-- The size of the TCM in bytes (22_l1_l2.md R765). -/
def Tcm.size : Tcm → Nat
  | .itcm0 => Config.itcmKB * 1024
  | .itcm1 => Config.itcmKB * 1024
  | .dtcm0 => Config.dtcmKB * 1024
  | .dtcm1 => Config.dtcmKB * 1024

/-- The Region register of the TCM (13_cp15_cache_tlb.md R380, R382). -/
def Cp15.tcmRegion (c : Cp15) : Tcm → Word
  | .itcm0 => c.itcmRegion[0]
  | .itcm1 => c.itcmRegion[1]
  | .dtcm0 => c.dtcmRegion[0]
  | .dtcm1 => c.dtcmRegion[1]

/-- The NS access bit of the TCM (13_cp15_cache_tlb.md R384, R385). -/
def Cp15.tcmNs (c : Cp15) : Tcm → Bool
  | .itcm0 => c.itcmNs[0]
  | .itcm1 => c.itcmNs[1]
  | .dtcm0 => c.dtcmNs[0]
  | .dtcm1 => c.dtcmNs[1]

/-- Does the TCM answer an access with this NS attribute to this address (22_l1_l2.md R766, R771)? -/
def Cp15.tcmHit (c : Cp15) (t : Tcm) (pa : Word) (nsAttr : Bool) : Bool :=
  let high : Word := ~~~(BitVec.ofNat 32 t.size - 1)
  t.present && (c.tcmRegion t).getLsbD 0 && pa &&& high == c.tcmRegion t &&& 0xFFFFF000 &&& high &&
    c.tcmNs t == nsAttr

/-- `TCMLookup` (22_l1_l2.md R772, R776). -/
def Cp15.tcmLookup (c : Cp15) (pa : Word) (nsAttr : Bool) (kind : Access) : Option Tcm :=
  (if kind = .fetch then [Tcm.itcm0, .itcm1] else [.dtcm0, .dtcm1, .itcm0, .itcm1]).find? fun t => c.tcmHit t pa nsAttr

/-- The offset of an address in the TCM. -/
def Tcm.offset (t : Tcm) (pa : Word) : Nat := pa.toNat % t.size

/-- The contents of a TCM. -/
def State.tcmCells (s : State) : Tcm → List Host.Cell
  | .itcm0 => s.itcm0
  | .itcm1 => s.itcm1
  | .dtcm0 => s.dtcm0
  | .dtcm1 => s.dtcm1

/-- The state with the contents of a TCM replaced. -/
def State.setTcmCells (s : State) (t : Tcm) (l : List Host.Cell) : State :=
  match t with
  | .itcm0 => { s with itcm0 := l }
  | .itcm1 => { s with itcm1 := l }
  | .dtcm0 => { s with dtcm0 := l }
  | .dtcm1 => { s with dtcm1 := l }

/-- Read a byte at a physical address, from the TCM that answers or from memory. -/
def State.readByteAt (s : State) (tcm : Option Tcm) (pa : Word) : Byte :=
  match tcm with
  | some t => readCell (s.tcmCells t) (t.offset pa)
  | none => readCell s.mem pa.toNat

/-- Write a byte at a physical address, to the TCM that answers or to memory. -/
def State.writeByteAt (s : State) (tcm : Option Tcm) (pa : Word) (b : Byte) : State :=
  match tcm with
  | some t => s.setTcmCells t (writeCell (s.tcmCells t) (t.offset pa) b)
  | none => { s with mem := writeCell s.mem pa.toNat b }

/-! ### Aborts -/

/-- A precise Data Abort an access takes (21_mmu.md R675). -/
structure DataAbort where
  status   : BitVec 5
  domain   : BitVec 4
  /-- The MVA written to the FAR. -/
  far      : Word
  write    : Bool
  external : Bool
  slverr   : Bool
deriving DecidableEq, Repr

/-- The value of a fault status register (12_cp15_control.md R254, 21_mmu.md R675). -/
def fsrValue (status : BitVec 5) (domain : BitVec 4) (write slverr : Bool) : Word :=
  (status.extractLsb' 0 4).setWidth 32 ||| (domain.setWidth 32 <<< 4) |||
    (if status.getLsbD 4 then 0x400 else 0) ||| (if write then 0x800 else 0) ||| (if slverr then 0x1000 else 0)

/-- `FaultRegWorld` (21_mmu.md R674): are the Non-secure copies written? -/
def State.faultNs (s : State) (external : Bool) : Bool := !(external && s.scrEa) && s.nonSecure

/-- The state with DFSR and FAR of a world written. -/
def State.setDataFault (s : State) (ns : Bool) (dfsr far : Word) : State :=
  { s with cp15 := s.cp15.setBank ns { s.cp15.bank ns with dfsr := dfsr, far := far } }

/-- The state with IFSR of a world written. -/
def State.setIfsr (s : State) (ns : Bool) (v : Word) : State :=
  { s with cp15 := s.cp15.setBank ns { s.cp15.bank ns with ifsr := v } }

/-- The state with IFAR of a world written. -/
def State.setIfar (s : State) (ns : Bool) (v : Word) : State :=
  { s with cp15 := s.cp15.setBank ns { s.cp15.bank ns with ifar := v } }

/-- Take a precise Data Abort: DFSR and FAR, then the exception (21_mmu.md R671, R675, 60_exceptions.md R1624). A
watchpoint hit of the aborting instruction is dropped: the instruction is executed again (log 30). -/
def takeDataAbort {α : Type} (a : DataAbort) : M α := do
  modify fun s =>
    { s.setDataFault (s.faultNs a.external) (fsrValue a.status a.domain a.write a.slverr) a.far with
      dbg := { s.dbg with watch := none } }
  raiseDataAbort a.external

/-- The abort of a translation fault. -/
def MmuFault.dataAbort (f : MmuFault) (mva : Word) (write : Bool) : DataAbort :=
  { status := f.status, domain := f.domain, far := mva, write := write, external := f.external, slverr := f.slverr }

/-- An alignment fault (20_memory.md R546). -/
def alignmentAbort (mva : Word) (write : Bool) : DataAbort :=
  { status := 0b00001, domain := 0, far := mva, write := write, external := false, slverr := false }

/-- Record an imprecise error response (60_exceptions.md R1638, D59); in Debug state DSCR[7] is set, and with DSCR[19]
set the error is otherwise discarded (61_debug.md R1778). -/
def State.recordImprecise (s : State) (a : ImpreciseAbort) : State :=
  let s := if s.inDebug then s.setDscrBit 7 true else s
  if (s.inDebug && s.dbg.dscr.getLsbD 19) || s.pendingAbort.isSome then s else { s with pendingAbort := some a }

/-- `EffectiveFI` (60_exceptions.md R1639): FI, unless the Auxiliary Control Register's FIO overrides it. That FIO = 1 leaves the
external aborts of loads from Normal memory imprecise is R1639 against the words of 12_cp15_control.md R236 (DEDUCED, log 56). -/
def State.effectiveFi (s : State) : Bool := s.sctlr.getLsbD 21 && !s.cp15.actlr.getLsbD 31

/-! ### Alignment -/

/-- The access types (20_memory.md R540). -/
inductive AccessType where
  | byte
  | half
  | halfSync
  | wordLoad
  | wordStore
  | wordSync
  | twoWord
  | multi
  | doubleSync
deriving DecidableEq, Repr

/-- The result of the alignment check (20_memory.md R549). `forced k` clears the low `k` bits of the address. -/
inductive Alignment where
  | normal
  | unaligned
  | forced (k : Nat)
  | fault
deriving DecidableEq, Repr

/-- `AlignCheck` (20_memory.md R549); the rows Table 4-3 marks Unpredictable are what its Note column says this processor
does (R544, U25; log 24). -/
def alignCheck (aBit uBit : Bool) (t : AccessType) (a : BitVec 3) : Alignment :=
  let half := a.getLsbD 0
  let word := a.getLsbD 0 || a.getLsbD 1
  let strict := aBit || uBit
  match t with
  | .byte => .normal
  | .half => if !half then .normal else if aBit then .fault else if uBit then .unaligned else .forced 1
  | .halfSync => if !half then .normal else if strict then .fault else .forced 1
  | .wordLoad => if !word then .normal else if aBit then .fault else if uBit then .unaligned else .forced 2
  | .wordStore => if !word then .normal else if aBit then .fault else if uBit then .unaligned else .forced 2
  | .wordSync => if !word then .normal else if strict then .fault else .forced 2
  | .multi => if !word then .normal else if strict then .fault else .forced 2
  | .twoWord =>
    if word then (if strict then .fault else .forced 2)
    else if a = 0 then .normal
    else if uBit then .normal else if aBit then .fault else .forced 2
  | .doubleSync => if a = 0 then .normal else if strict then .fault else .forced 3

/-- An access after its alignment check: the address it is made at, and whether it is unaligned. -/
structure Aligned where
  va        : Word
  unaligned : Bool
deriving DecidableEq, Repr

/-- The state of the core the access is made in is the reserved endianness configuration (20_memory.md R537, U24). -/
def State.reservedEndian (s : State) : Bool := s.bigEndian32 && s.bitE

/-- Step 1 of an access (20_memory.md R620). -/
def checkAlignment (t : AccessType) (va : Word) (write : Bool) : M (Except DataAbort Aligned) := do
  let s ← get
  refuseIf s.reservedEndian .reservedEndianness
  match alignCheck (s.sctlr.getLsbD 1) (s.sctlr.getLsbD 22) t (va.extractLsb' 0 3) with
  | .normal => pure (.ok { va := va, unaligned := false })
  | .unaligned => pure (.ok { va := va, unaligned := true })
  | .forced k => pure (.ok { va := alignDown va k, unaligned := false })
  | .fault => pure (.error (alignmentAbort (s.cp15.mva s.nonSecure va) write))

/-! ### One item -/

/-- How an item is accessed. -/
structure Mode1 where
  /-- The access is privileged. -/
  priv    : Bool
  /-- The access is a load to the PC or the CPSR, or the load part of a SWP: its external abort is precise
  (60_exceptions.md R1639). -/
  precise : Bool
  /-- The access is unaligned. -/
  unaligned : Bool
  /-- The first address of a multiple transfer, which a precise external abort reports in place of the failing part's
  (21_mmu.md R667, U37; log 42). -/
  base    : Option Word
deriving DecidableEq, Repr

/-- Where a part of an item lies after translation. -/
structure Place where
  pa     : Word
  nsAttr : Bool
  tcm    : Option Tcm
  type   : MemType
  shared : Bool
  domain : BitVec 4
deriving DecidableEq, Repr

/-- Is the address in the peripheral port remap region of a world (14_cp15_dma_misc.md R465, R466)? Unlisted sizes remap
nothing (U21). -/
def Banked.inPeripheral (b : Banked) (pa : Word) : Bool :=
  let size := (b.periph.extractLsb' 0 5).toNat
  decide (3 ≤ size) && decide (size ≤ 22) && pa >>> (size + 9) == (b.periph &&& 0xFFFFF000) >>> (size + 9)

/-- The place of an address a translation gives: a visible TCM makes it Normal and Non-shared (22_l1_l2.md R768), the
peripheral port Device and Non-shared (14_cp15_dma_misc.md R466). -/
def Cp15.place (c : Cp15) (ns : Bool) (kind : Access) (t : Translation) (a : Attrs) : Place :=
  match c.tcmLookup t.pa t.nsAttr kind with
  | some tcm =>
    { pa := t.pa, nsAttr := t.nsAttr, tcm := some tcm, type := .normal, shared := false, domain := t.domain }
  | none =>
    if kind != .fetch && (c.bank ns).inPeripheral t.pa then
      { pa := t.pa, nsAttr := t.nsAttr, tcm := none, type := .device, shared := false, domain := t.domain }
    else
      { pa := t.pa, nsAttr := t.nsAttr, tcm := none, type := a.type, shared := a.shared, domain := t.domain }

/-- The place of an address depends on the memory attributes its mapping gives: it lies in no TCM, and is not a data address in
the peripheral port (22_l1_l2.md R768, 14_cp15_dma_misc.md R466). -/
def Cp15.usesAttrs (c : Cp15) (ns : Bool) (kind : Access) (t : Translation) : Bool :=
  (c.tcmLookup t.pa t.nsAttr kind).isNone && !(kind != .fetch && (c.bank ns).inPeripheral t.pa)

/-- The place a translation gives; one that rests on a reserved memory type is refused (U33; log 25). -/
def State.placeOf (s : State) (ns : Bool) (kind : Access) (t : Translation) : Option Place :=
  match t.attrs with
  | none =>
    if s.cp15.usesAttrs ns kind t then none
    else some (s.cp15.place ns kind t { type := .normal, shared := false, inner := 0, outer := 0 })
  | some a => some (s.cp15.place ns kind t a)

/-- The request of the core to the MMU for a data address of the current world (21_mmu.md R631 to R633). -/
def State.request (s : State) (va : Word) (kind : Access) (priv : Bool) : Request :=
  { mva := s.cp15.mva s.nonSecure va, kind := kind, priv := priv, ns := s.nonSecure }

/-- Translate a data address of the current world and find its place; a reserved memory type is refused (U33). -/
def locate (va : Word) (kind : Access) (priv : Bool) : M (Except MmuFault Place) := do
  let s ← get
  match ← translate (s.request va kind priv) with
  | .error f => pure (.error f)
  | .ok t =>
    match s.placeOf s.nonSecure kind t with
    | some p => pure (.ok p)
    | none => refuse .reservedMemoryType

/-- An unaligned access to Device or Strongly Ordered memory: an Alignment fault with M = XP = 1, else undefined behaviour
(20_memory.md R545, U26; log 23). -/
def checkUnaligned (m : Mode1) (p : Place) (mva : Word) (write : Bool) : M (Option DataAbort) := do
  if m.unaligned && p.type != .normal then
    let s ← get
    if s.sctlr.getLsbD 0 && s.sctlr.getLsbD 23 then pure (some (alignmentAbort mva write))
    else refuse .unalignedDevice
  else pure none

/-- The error response of the bus to an access to a place; a TCM gives none (22_l1_l2.md R771). -/
def State.placeError (s : State) (p : Place) (kind : Access) (priv : Bool) : Option Bool :=
  if p.tcm.isSome then none else s.busError (kind.onBus p.pa p.nsAttr priv)

/-- A part of an item between word boundaries: its first address and its length, and the length of the item
(20_memory.md R620 step 2). -/
structure Part where
  va   : Word
  len  : Nat
  item : Nat
deriving DecidableEq, Repr

/-- The parts of an item of `n` bytes, ascending. -/
def parts (va : Word) (n : Nat) : List Part :=
  let room := 4 - (va.extractLsb' 0 2).toNat
  if n ≤ room then [{ va := va, len := n, item := n }]
  else [{ va := va, len := room, item := n }, { va := va + BitVec.ofNat 32 room, len := n - room, item := n }]

/-- The physical address of byte `k` of a part: with B = 1 byte addresses are renamed (20_memory.md R532). This is where memory
holds the byte; another master knows it by the address of the program (R538; log 61). -/
def State.byteAddr (s : State) (pa : Word) (k : Nat) : Word :=
  let a := pa + BitVec.ofNat 32 k
  if s.bigEndian32 then a ^^^ 3#32 else a

/-- The bytes of a part, ascending. -/
def State.partBytes (s : State) (p : Place) : Nat → Nat → List Byte
  | _, 0 => []
  | k, n + 1 => s.readByteAt p.tcm (s.byteAddr p.pa k) :: partBytes s p (k + 1) n

/-- Write the bytes of a part, ascending. -/
def State.writePart (s : State) (p : Place) : Nat → List Byte → State
  | _, [] => s
  | k, b :: bs => writePart (s.writeByteAt p.tcm (s.byteAddr p.pa k) b) p (k + 1) bs

/-- The value of an item from its bytes in ascending order (20_memory.md R541, R551, R553). -/
def State.assemble (s : State) (bytes : List Byte) : Word :=
  BitVec.ofNat 32 (leValue (if s.bitE || s.bigEndian32 then bytes.reverse else bytes))

/-- The bytes of an item of `n` bytes in ascending order (20_memory.md R552, R553). -/
def State.scatter (s : State) (v : Word) (n : Nat) : List Byte :=
  let l := leBytes n v.toNat
  if s.bitE || s.bigEndian32 then l.reverse else l

/-- What the parts of an item gave. -/
structure Gathered where
  bytes  : List Byte
  /-- Some part received an imprecise error: the value is undefined (D58). -/
  failed : Bool
deriving DecidableEq, Repr

/-- An external abort on a data access is precise (60_exceptions.md R1639). -/
def State.abortPrecise (s : State) (m : Mode1) (p : Place) (write : Bool) : Bool :=
  (!write && s.effectiveFi) || p.type == .stronglyOrdered || m.precise

/-- A precise external abort of a part at the MVA `mva`: a multiple transfer reports its first address (21_mmu.md R667,
20_memory.md R547). -/
def State.externalAbort (s : State) (m : Mode1) (domain : BitVec 4) (mva : Word) (write slverr : Bool) : DataAbort :=
  { status := 0b01000, domain := domain, write := write, external := true, slverr := slverr,
    far := match m.base with
      | some va => s.cp15.mva s.nonSecure va
      | none => mva }

/-- Read the parts of an item, ascending: each is translated, compared, checked and read on its own (20_memory.md R547,
R620). -/
def readParts (m : Mode1) : List Part → Gathered → M (Except DataAbort Gathered)
  | [], g => pure (.ok g)
  | p :: ps, g => do
    let mva := (← get).cp15.mva (← get).nonSecure p.va
    match ← locate p.va .read m.priv with
    | .error f => pure (.error (f.dataAbort mva false))
    | .ok place =>
      match ← checkUnaligned m place mva false with
      | some a => pure (.error a)
      | none => do
        recordWatch mva p.item p.len true false m.priv place.domain
        let s ← get
        match s.placeError place .read m.priv with
        | none => readParts m ps { g with bytes := g.bytes ++ s.partBytes place 0 p.len }
        | some slverr =>
          if s.abortPrecise m place false then pure (.error (s.externalAbort m place.domain mva false slverr))
          else do
            modify fun s => s.recordImprecise { slverr := slverr, write := false, ns := s.nonSecure }
            readParts m ps { g with failed := true }

/-- Write the parts of an item, ascending: did a part receive an imprecise error? A place that answers with an error is not
written (log 9). -/
def writeParts (m : Mode1) : List Part → List Byte → Bool → M (Except DataAbort Bool)
  | [], _, failed => pure (.ok failed)
  | p :: ps, bytes, failed => do
    let mva := (← get).cp15.mva (← get).nonSecure p.va
    match ← locate p.va .write m.priv with
    | .error f => pure (.error (f.dataAbort mva true))
    | .ok place =>
      match ← checkUnaligned m place mva true with
      | some a => pure (.error a)
      | none => do
        recordWatch mva p.item p.len false true m.priv place.domain
        let s ← get
        match s.placeError place .write m.priv with
        | none => do
          set (s.writePart place 0 (bytes.take p.len))
          writeParts m ps (bytes.drop p.len) failed
        | some slverr =>
          if s.abortPrecise m place true then pure (.error (s.externalAbort m place.domain mva true slverr))
          else do
            modify fun s => s.recordImprecise { slverr := slverr, write := true, ns := s.nonSecure }
            writeParts m ps (bytes.drop p.len) true

/-- A free value of the size of an item. -/
def drawItem (n : Nat) : M Word := do
  let w ← draw
  pure (if n = 1 then w &&& 0xFF else if n = 2 then w &&& 0xFFFF else w)

/-- Read an item of `n` bytes (1, 2 or 4), zero-extended, and whether it received an imprecise error: then it is a free
value. -/
def readChecked (m : Mode1) (va : Word) (n : Nat) : M (Except DataAbort (Word × Bool)) := do
  match ← readParts m (parts va n) { bytes := [], failed := false } with
  | .error a => pure (.error a)
  | .ok g => do
    let s ← get
    if g.failed then
      let w ← drawItem n
      pure (.ok (w, true))
    else pure (.ok (s.assemble g.bytes, false))

/-- Read an item of `n` bytes (1, 2 or 4), zero-extended. -/
def readItem (m : Mode1) (va : Word) (n : Nat) : M (Except DataAbort Word) := do
  match ← readChecked m va n with
  | .error a => pure (.error a)
  | .ok r => pure (.ok r.1)

/-- Write an item of `n` bytes (1, 2 or 4): did it receive an imprecise error? -/
def writeChecked (m : Mode1) (va : Word) (n : Nat) (v : Word) : M (Except DataAbort Bool) := do
  let s ← get
  writeParts m (parts va n) (s.scatter v n) false

/-- Write an item of `n` bytes (1, 2 or 4). -/
def writeItem (m : Mode1) (va : Word) (n : Nat) (v : Word) : M (Except DataAbort Unit) := do
  match ← writeChecked m va n v with
  | .error a => pure (.error a)
  | .ok _ => pure (.ok ())

/-- Go on, or take the abort. -/
def orAbort {α : Type} (r : Except DataAbort α) : M α :=
  match r with
  | .ok a => pure a
  | .error a => takeDataAbort a

/-! ### The exclusive monitors -/

/-- The state with the local monitor set or cleared (20_memory.md R600). -/
def State.setLocal (s : State) (b : Bool) : State := { s with monitors := { s.monitors with locl := b } }

/-- The mode of an exclusive access: its words report the first address (21_mmu.md R667, U37; log 42). -/
def State.exclusiveMode (s : State) (a : Aligned) : Mode1 :=
  { priv := s.privileged, precise := false, unaligned := false, base := some a.va }

/-- The bus answers an exclusive access of `n` bytes to Shared memory with OKAY: there is no monitor there
(20_memory.md R606). -/
def State.noMonitor (s : State) (p : Place) (kind : Access) (priv : Bool) (n : Nat) : Bool :=
  let okay (pa : Word) : Bool := s.busAnswer (kind.onBus pa p.nsAttr priv) == some .noExclusive
  p.shared && (okay p.pa || (n == 8 && okay (p.pa + 4)))

/-- Compare an exclusive access with the watchpoints: each word of a doubleword on its own (61_debug.md R1753). -/
def recordExclusive (mva : Word) (n : Nat) (load priv : Bool) (domain : BitVec 4) : M Unit :=
  if n = 8 then do
    recordWatch mva 4 4 load (!load) priv domain
    recordWatch (mva + 4) 4 4 load (!load) priv domain
  else recordWatch mva n n load (!load) priv domain

/-- The state marked by a load-exclusive of `n` bytes (20_memory.md R601). -/
def State.markExclusive (s : State) (p : Place) (n : Nat) : State :=
  (if p.shared then { s with monitors := { s.monitors with globl := some (p.pa, n) } } else s).setLocal true

/-- An external abort on a load-exclusive, precise or not, can leave the local monitor Exclusive: the model opens no monitor
and sets it freely; the global tag stays (20_memory.md R606; log 36). -/
def freeLocal : M Unit := do
  let w ← draw
  modify fun s => s.setLocal (s.monitors.locl || w.getLsbD 0)

/-- The words of a load-exclusive, each with whether it received an imprecise error, or the abort of one of them. -/
def readItems (m : Mode1) (n : Nat) : List Word → M (Except DataAbort (List (Word × Bool)))
  | [] => pure (.ok [])
  | va :: vas => do
    match ← readChecked m va n with
    | .error a => pure (.error a)
    | .ok w =>
      match ← readItems m n vas with
      | .error a => pure (.error a)
      | .ok ws => pure (.ok (w :: ws))

/-- The addresses of the items of an exclusive access of `n` bytes. -/
def exclusiveItems (va : Word) (n : Nat) : List Word := if n = 8 then [va, va + 4] else [va]

/-- A load-exclusive that the bus answers with OKAY: an external abort, whose SLVERR bit is free, since the answer is neither
error (20_memory.md R606, 22_l1_l2.md R821; log 36). An imprecise one completes with free values. -/
def loadWithoutMonitor (m : Mode1) (p : Place) (mva : Word) (n : Nat) : M (List Word) := do
  let s ← get
  recordExclusive mva n true m.priv p.domain
  let w ← draw
  freeLocal
  if s.abortPrecise m p false then takeDataAbort (s.externalAbort m p.domain mva false (w.getLsbD 0))
  else do
    modify fun s => s.recordImprecise { slverr := w.getLsbD 0, write := false, ns := s.nonSecure }
    let w0 ← drawItem n
    let w1 ← draw
    pure [w0, w1]

/-- A load-exclusive of `n` bytes (20_memory.md R601, R606, R607): the values of its items. It is refused on Device and
Strongly Ordered memory (U31). -/
def loadExclusive (t : AccessType) (va : Word) (n : Nat) : M (List Word) := do
  let a ← orAbort (← checkAlignment t va false)
  let s ← get
  let m := s.exclusiveMode a
  let mva := s.cp15.mva s.nonSecure a.va
  match ← locate a.va .read m.priv with
  | .error f => takeDataAbort (f.dataAbort mva false)
  | .ok p => do
    refuseIf (p.type != .normal) .exclusiveToDevice
    if (← get).noMonitor p .read m.priv n then loadWithoutMonitor m p mva n
    else
      match ← readItems m (min n 4) (exclusiveItems a.va n) with
      | .error e => do
        if e.external then freeLocal
        takeDataAbort e
      | .ok ws => do
        if ws.any (·.2) then freeLocal else modify fun s => s.markExclusive p n
        pure (ws.map (·.1))

/-- Write the items of a store-exclusive at ascending addresses: did one receive an imprecise error? -/
def writeItems (m : Mode1) (n : Nat) : List (Word × Word) → M (Except DataAbort Bool)
  | [] => pure (.ok false)
  | (va, w) :: rest => do
    match ← writeChecked m va n w with
    | .error a => pure (.error a)
    | .ok failed =>
      match ← writeItems m n rest with
      | .error a => pure (.error a)
      | .ok failed' => pure (.ok (failed || failed'))

/-- A store-exclusive that takes a Data Abort: the local monitor is open after it too, whatever the outcome
(20_memory.md R602; log 36). -/
def abortExclusive {α : Type} (e : DataAbort) : M α := do
  modify fun s => s.setLocal false
  takeDataAbort e

/-- A store-exclusive that finds no reservation: status 1, nothing stored, no permission exercised
(20_memory.md R602). -/
def storeFails (m : Mode1) (mva : Word) (n : Nat) (domain : BitVec 4) : M Word := do
  recordExclusive mva n false m.priv domain
  modify fun s => s.setLocal false
  pure 1

/-- A store-exclusive that holds its reservation (20_memory.md R602, R606): the monitors are cleared. Where the bus answers
with OKAY, or with an imprecise error to Shared memory, which completes as if the answer had been OKAY (60_exceptions.md
R1639; log 36), the status is 1. -/
def storeHeld (m : Mode1) (p : Place) (va mva : Word) (n : Nat) (vs : List Word) : M Word := do
  let cleared (s : State) : State :=
    (if p.shared then { s with monitors := { s.monitors with globl := none } } else s).setLocal false
  if (← get).noMonitor p .write m.priv n then do
    recordExclusive mva n false m.priv p.domain
    modify cleared
    pure 1
  else
    match ← writeItems m (min n 4) ((exclusiveItems va n).zip vs) with
    | .error e => abortExclusive e
    | .ok failed => do
      modify cleared
      pure (if failed && p.shared then 1 else 0)

/-- A store-exclusive of `n` bytes (20_memory.md R602, R606, R607): 0 if it stored, 1 if not. The alignment is checked first,
then the local and, for Shared memory, the global monitor, and only then the permission and the memory type: with no
reservation a store-exclusive to Device or Strongly Ordered memory fails too, and is not refused (log 58). -/
def storeExclusive (t : AccessType) (va : Word) (n : Nat) (vs : List Word) : M Word := do
  match ← checkAlignment t va true with
  | .error e => abortExclusive e
  | .ok a => do
    let s ← get
    let m := s.exclusiveMode a
    let r := s.request a.va .write m.priv
    if !s.monitors.locl then
      storeFails m r.mva n (match (s.translateDeferred r).1 with
        | .ok t => t.1.domain
        | .error f => f.domain)
    else
      match ← liftState fun s => s.translateDeferred r with
      | .error f => abortExclusive (f.dataAbort r.mva true)
      | .ok (t, denied) => do
        let s ← get
        let place := s.placeOf r.ns .write t
        if place.any fun p => p.shared && s.monitors.globl != some (p.pa, n) then storeFails m r.mva n t.domain
        else
          match denied, place with
          | some f, _ => abortExclusive (f.dataAbort r.mva true)
          | none, none => refuse .reservedMemoryType
          | none, some p => do
            refuseIf (p.type != .normal) .exclusiveToDevice
            storeHeld m p a.va r.mva n vs

/-! ### Instruction fetch -/

/-- A Prefetch Abort (21_mmu.md R671, R675). -/
structure FetchAbort where
  status   : BitVec 5
  external : Bool
  slverr   : Bool
deriving DecidableEq, Repr

/-- The bytes of the instruction at the PC: a word in ARM state, a halfword in Thumb state, always little-endian but for
the renaming of B = 1 (20_memory.md R535). -/
def fetchInsn : M (Except FetchAbort Words) := do
  let s ← get
  let r := s.request s.pc .fetch s.privileged
  match ← translate r with
  | .error f => pure (.error { status := f.status, external := f.external, slverr := f.slverr })
  | .ok t => do
    let s ← get
    let tcm := s.cp15.tcmLookup t.pa t.nsAttr .fetch
    refuseIf (t.attrs.isNone && tcm.isNone) .reservedMemoryType
    match if tcm.isSome then none else s.busError (Access.fetch.onBus t.pa t.nsAttr r.priv) with
    | some slverr => pure (.error { status := 0b01000, external := true, slverr := slverr })
    | none =>
      let b (k : Nat) : Byte := s.readByteAt tcm (t.pa + BitVec.ofNat 32 k)
      if s.bitT then
        let h (k : Nat) : Byte := s.readByteAt tcm ((if s.bigEndian32 then t.pa ^^^ 2#32 else t.pa) + BitVec.ofNat 32 k)
        pure (.ok (.thumb (halfOfBytes (h 0) (h 1))))
      else pure (.ok (.arm (wordOfBytes (b 0) (b 1) (b 2) (b 3))))

/-- Take a Prefetch Abort (60_exceptions.md R1622): IFSR and IFAR, then the exception. -/
def takePrefetchAbort {α : Type} (a : FetchAbort) : M α := do
  modify fun s =>
    let w := s.faultNs a.external
    (s.setIfsr w (fsrValue a.status 0 false a.slverr)).setIfar w (s.cp15.mva s.nonSecure s.pc)
  raise .pabt (fun s => s.pc + 4) fun s => a.external && s.scrEa

end Sys2Proof.Machine
end

