-- ==== Sys2Proof/Machine/Dma.lean ====
section
/-!
DEFINITION. The level one DMA: the channel state machine (14_cp15_dma_misc.md R438, R441, R447, R448), its translation
and its transactions (22_l1_l2.md R780 to R785). The machine makes one transaction of the running channel at every step
(D44; log 28).
-/
namespace Sys2Proof.Machine

/-- The four states of a channel (14_cp15_dma_misc.md R446). -/
inductive DmaStatus where
  | idle
  | queued
  | running
  | complete
deriving DecidableEq, Repr

/-- A channel by its number. -/
def Dma.channel (d : Dma) (n : Bool) : DmaChannel := if n then d.ch1 else d.ch0

/-- Replace a channel. -/
def Dma.setChannel (d : Dma) (n : Bool) (c : DmaChannel) : Dma :=
  if n then { d with ch1 := c } else { d with ch0 := c }

/-- The U bit of a channel (14_cp15_dma_misc.md R433). -/
def Dma.userBit (d : Dma) (n : Bool) : Bool := d.user.getLsbD (if n then 1 else 0)

/-- Status of a channel (14_cp15_dma_misc.md R446). -/
def DmaChannel.state (c : DmaChannel) : DmaStatus :=
  let f : BitVec 2 := c.status.extractLsb' 0 2
  if f = 0b00 then .idle else if f = 0b01 then .queued else if f = 0b10 then .running else .complete

/-- IS or ES reports an error: its top two bits are not 00 (14_cp15_dma_misc.md R447). -/
def DmaChannel.hasError (c : DmaChannel) : Bool :=
  c.status.extractLsb' 5 2 != 0#2 || c.status.extractLsb' 10 2 != 0#2

/-- The channel is Running or Queued: its registers cannot be written (14_cp15_dma_misc.md R440, R443, D25). -/
def DmaChannel.busy (c : DmaChannel) : Bool := c.state == .running || c.state == .queued

/-- "In operation" of the Start rule (14_cp15_dma_misc.md R438). -/
def DmaChannel.inOperation (c : DmaChannel) : Bool := c.busy || (c.state == .complete && c.hasError)

/-- log2 of the transaction size (14_cp15_dma_misc.md R440). -/
def DmaChannel.sizeLog (c : DmaChannel) : Nat := (c.control.extractLsb' 0 2).toNat

/-- The stride in bytes (14_cp15_dma_misc.md R440). -/
def DmaChannel.stride (c : DmaChannel) : Word := (c.control.extractLsb' 8 12).setWidth 32

/-- `BadParameter` (14_cp15_dma_misc.md R441). -/
def DmaChannel.badParameter (c : DmaChannel) : Bool :=
  let low : Word := (1#32 <<< c.sizeLog) - 1
  (c.intStart ||| c.extStart ||| c.intEnd ||| c.stride) &&& low != 0

/-- `EffUser` (22_l1_l2.md R781). -/
def DmaChannel.effUser (c : DmaChannel) : Bool := c.control.getLsbD 26 || c.userStart

/-- `effective_IE` (14_cp15_dma_misc.md R440). -/
def Dma.effectiveIe (d : Dma) (n : Bool) : Bool := (d.channel n).control.getLsbD 28 || d.userBit n

/-- A queued channel starts when the other one becomes Idle, or Complete with no error (14_cp15_dma_misc.md R438). -/
def Dma.startQueued (d : Dma) (other : Bool) : Dma :=
  let o := d.channel other
  let c := d.channel (!other)
  if c.state == .queued && (o.state == .idle || (o.state == .complete && !o.hasError)) then
    d.setChannel (!other) { c with status := setField c.status 0 0b10#2 }
  else d

/-- The Start command (14_cp15_dma_misc.md R438, D24, D43). A bad parameter is an error of the channel (R440; log 28). -/
def Dma.start (d : Dma) (n userMode : Bool) : Dma :=
  let c := d.channel n
  if c.state == .idle then
    let c := { c with userStart := userMode, curInt := c.intStart, curExt := c.extStart }
    if c.badParameter then
      d.setChannel n { c with status := setBit (setField c.status 0 0b11#2) 12 true
                              irq := c.irq || d.effectiveIe n }
    else d.setChannel n
      { c with tcm := none, status := setField c.status 0 (if (d.channel (!n)).inOperation then 0b01#2 else 0b10#2) }
  else d

/-- The Stop command (14_cp15_dma_misc.md R438): between two transactions none is outstanding, so the channel stops at
once; its Start Address registers hold what a restart needs (R443, R444). -/
def Dma.stop (d : Dma) (n : Bool) : Dma :=
  let c := d.channel n
  if c.state == .running then
    (d.setChannel n { c with status := setField c.status 0 0b11#2, intStart := c.curInt, extStart := c.curExt,
                             irq := c.irq || c.control.getLsbD 29 }).startQueued n
  else if c.state == .queued then d.setChannel n { c with status := setField c.status 0 0b00#2 }
  else d

/-- The Clear command (14_cp15_dma_misc.md R438, D42). -/
def Dma.clear (d : Dma) (n : Bool) : Dma :=
  let c := d.channel n
  if c.state == .complete then
    (d.setChannel n { c with status := 0, irq := false, extErr := false }).startQueued n
  else d

/-- The world of both channels (22_l1_l2.md R780): NSACR.DMA. -/
def State.dmaNs (s : State) : Bool := s.cp15.nsacr.getLsbD 18

/-- The state with a channel replaced. -/
def State.setDma (s : State) (n : Bool) (c : DmaChannel) : State := { s with dma := s.dma.setChannel n c }

/-- Which side of a transfer. -/
inductive DmaSide where
  | internal
  | external
deriving DecidableEq, Repr

/-- `Error(n, code)` (22_l1_l2.md R783, R785): `a` and `e` are the addresses of the transaction. An external abort on the
data (ES = 0b11010) leaves the External Start Address as it is (14_cp15_dma_misc.md R447). -/
def Dma.fail (d : Dma) (n : Bool) (side : DmaSide) (code : BitVec 5) (external slverr : Bool) (a e : Word) : Dma :=
  let c := d.channel n
  let st := setField c.status 0 0b11#2
  let st := match side with
    | .internal => setBit (setField st 2 code) 13 (external && slverr)
    | .external => setBit (setField st 7 code) 16 (external && slverr)
  d.setChannel n
    { c with status := st, intStart := a
             extStart := if code = 0b11010 then c.extStart else e
             irq := c.irq || d.effectiveIe n
             extErr := c.extErr || external }

/-- Translate an address of a channel (22_l1_l2.md R781): the world of the channels, the ASID of its Context ID. -/
def State.dmaTranslate (s : State) (n : Bool) (va : Word) (kind : Access) :
    Except MmuFault Translation × State :=
  let ns := s.dmaNs
  let old := (s.cp15.bank ns).contextId
  let asid : BitVec 8 := (s.dma.channel n).contextId.extractLsb' 0 8
  let withId (s : State) (v : Word) : State :=
    { s with cp15 := s.cp15.setBank ns { s.cp15.bank ns with contextId := v } }
  let r : Request :=
    { mva := s.cp15.mva ns va, kind := kind, priv := !(s.dma.channel n).effUser, ns := ns }
  let (t, s') := (withId s (setField old 0 asid)).translate r
  (t, withId s' old)

/-- The TCM of the selected side that an internal address hits (22_l1_l2.md R782, D46). -/
def Cp15.dmaTcm (c : Cp15) (instr : Bool) (t : Translation) : Option Tcm :=
  (if instr then [Tcm.itcm0, .itcm1] else [Tcm.dtcm0, .dtcm1]).find? fun k => c.tcmHit k t.pa t.nsAttr

/-- Copy `n` bytes at ascending addresses between two stores, each a TCM or memory. -/
def State.copyBytes (s : State) (src dst : Option Tcm) (a b : Word) : Nat → State
  | 0 => s
  | n + 1 => (s.writeByteAt dst b (s.readByteAt src a)).copyBytes src dst (a + 1) (b + 1) n

/-- A write by another master clears the global tag if the tag covers one of its bytes, which are numbered here as a program
numbers them (20_memory.md R538, R604). -/
def State.clearTag (s : State) (written : List Word) : State :=
  match s.monitors.globl with
  | some (t, k) =>
    if written.any fun a => decide (t.toNat ≤ a.toNat) && decide (a.toNat < t.toNat + k) then
      { s with monitors := { s.monitors with globl := none } }
    else s
  | none => s

/-- Move the bytes of one transaction (22_l1_l2.md R783), byte for byte as the stores hold them, also with SCTLR.B = 1
(log 60). -/
def State.dmaMove (s : State) (tcm : Tcm) (toTcm : Bool) (ti te : Word) (sz : Nat) : State :=
  if toTcm then s.copyBytes none (some tcm) te ti sz
  else (s.copyBytes (some tcm) none ti te sz).clearTag ((List.range sz).map (s.byteAddr te))

/-- A transaction of a channel as the platform sees it (22_l1_l2.md R814): to or from an Instruction TCM it is an instruction
access; its privilege is that of the channel. -/
def DmaChannel.onBus (c : DmaChannel) (te : Translation) : BusAccess :=
  { pa := te.pa, ns := te.nsAttr, priv := !c.effUser, insn := c.control.getLsbD 31, write := c.control.getLsbD 30 }

/-- The DMA codes of a translation fault (14_cp15_dma_misc.md R447). -/
def dmaCode (f : MmuFault) : BitVec 5 := 0b10000#5 ||| f.status

/-- `DMAStep(n)` (22_l1_l2.md R783) of a running channel. A transfer stays within the TCM it began in (14_cp15_dma_misc.md
R445; log 28). -/
def State.dmaStep (s : State) (n : Bool) : Except Refusal State :=
  let c := s.dma.channel n
  let a := c.curInt
  let e := c.curExt
  let toTcm := !c.control.getLsbD 30
  let failed (s : State) (side : DmaSide) (code : BitVec 5) (external slverr : Bool) : Except Refusal State :=
    .ok { s with dma := s.dma.fail n side code external slverr a e }
  if a = c.intEnd then
    .ok { s with dma := (s.dma.setChannel n
      { c with status := setField c.status 0 0b11#2, intStart := c.intEnd, extStart := e,
               irq := c.irq || c.control.getLsbD 29 }).startQueued n }
  else
    let (ti, s) := s.dmaTranslate n a (if toTcm then .write else .read)
    match ti with
    | .error f => failed s .internal (dmaCode f) f.external f.slverr
    | .ok ti =>
      let (te, s) := s.dmaTranslate n e (if toTcm then .read else .write)
      match te with
      | .error f => failed s .external (dmaCode f) f.external f.slverr
      | .ok te =>
        match s.cp15.dmaTcm (c.control.getLsbD 31) ti with
        | none => failed s .internal 0b01000 false false
        | some tcm =>
          if c.tcm.any (· != tcm.number) then failed s .internal 0b01000 false false
          else if ti.attrs.any (fun t => t.type == .device) then .error .dmaDeviceTcm
          else if (s.cp15.tcmLookup te.pa te.nsAttr .read).isSome then failed s .external 0b01001 false false
          else if te.attrs.isNone then .error .reservedMemoryType
          else if c.effUser && !te.attrs.any (·.shared) then failed s .external 0b01001 false false
          else
            match s.busError (c.onBus te) with
            | some slverr => failed s .external 0b11010 true slverr
            | none =>
              let sz := 2 ^ c.sizeLog
              .ok ((s.dmaMove tcm toTcm ti.pa te.pa sz).setDma n
                { c with tcm := some tcm.number, curInt := a + BitVec.ofNat 32 sz, curExt := e + c.stride })

/-- One transaction of the running channel, if there is one (22_l1_l2.md R784). A reset that holds the core holds the DMA too
(70_reset_and_hazards.md R1958). -/
def State.dmaTick (s : State) : Except Refusal State :=
  match s.activity with
  | .heldInReset _ => .ok s
  | _ =>
    if s.dma.ch0.state == .running then s.dmaStep false
    else if s.dma.ch1.state == .running then s.dmaStep true
    else .ok s

end Sys2Proof.Machine
end

