-- ==== Sys2Proof/Machine/Cp15.lean ====
section
/-!
DEFINITION. CP15, the system control coprocessor: its register map (11_cp15_overview_id.md R150 to R161), who may access
each register (R132 to R140), what a read returns, and what a write does (12_cp15_control.md, 13_cp15_cache_tlb.md,
14_cp15_dma_misc.md). There are no caches (D20; log 12), so a cache operation checks the access and the translation.
-/
namespace Sys2Proof.Machine

/-! ### The map -/

/-- The registers and operations of CP15 (11_cp15_overview_id.md R150 to R160). -/
inductive Cp15Reg where
  | mainId
  | cacheType
  | tcmStatus
  | tlbType
  /-- The feature registers (c0, 0, c1, 0 to 7) and the instruction set attributes (c0, 0, c2, 0 to 5) as 8 to 13. -/
  | feature (k : Nat)
  | sctlr
  | actlr
  | cpacr
  | scr
  | sder
  | nsacr
  | ttbr0
  | ttbr1
  | ttbcr
  | dacr
  | dfsr
  | ifsr
  | far
  | wfar
  | ifar
  | waitForInterrupt
  | par
  | icInvalidateAll
  | icInvalidateMva
  | icInvalidateIndex
  | flushPrefetch
  | btacFlushAll
  | btacFlushMva
  | dcInvalidateAll
  | dcInvalidateMva
  | dcInvalidateIndex
  | invalidateBoth
  /-- The unified cache operations that have no effect (13_cp15_cache_tlb.md R331). -/
  | cacheNoEffect
  | vaToPa (k : BitVec 3)
  | dcCleanAll
  | dcCleanMva
  | dcCleanIndex
  | dataSyncBarrier
  | dataMemBarrier
  | cacheDirty
  | icPrefetch
  | dcCleanInvalidateAll
  | dcCleanInvalidateMva
  | dcCleanInvalidateIndex
  | tlbInvalidateAll
  | tlbInvalidateMva
  | tlbInvalidateAsid
  | dcLockdown
  | icLockdown
  | dtcmRegion
  | itcmRegion
  | dtcmNs
  | itcmNs
  | tcmSelection
  | cacheOverride
  | tlbLockdown
  | prrr
  | nmrr
  | dmaStatus (k : Nat)
  | dmaUser
  | dmaChannel
  | dmaStop
  | dmaStart
  | dmaClear
  | dmaControl
  | dmaIntStart
  | dmaExtStart
  | dmaIntEnd
  | dmaChannelStatus
  | dmaContext
  | vbar
  | mvbar
  | isr
  | fcse
  | contextId
  | tidUrw
  | tidUro
  | tidPriv
  | periph
  | valControl
  | pmnc
  | ccnt
  | pmn0
  | pmn1
  /-- (c15, 0, c12, 4 to 6): no effect (14_cp15_dma_misc.md R480). -/
  | valNoEffect
  | valDebugRequest
  | valOperation (op1 op2 : BitVec 3)
  | cacheSizeMask
  | icMaster (k : Fin 8)
  | dcMaster (k : Fin 8)
  | tlbIndex
  | tlbVa
  | tlbPa
  | tlbAttributes
deriving DecidableEq, Repr

/-- c0 (11_cp15_overview_id.md R150, R171). -/
def cp15C0 : Nat → Nat → Option Cp15Reg
  | 0, 1 => some .cacheType
  | 0, 2 => some .tcmStatus
  | 0, 3 => some .tlbType
  | 0, _ => some .mainId
  | 1, k => some (.feature k)
  | 2, k => if k ≤ 5 then some (.feature (k + 8)) else none
  | _, _ => none

/-- c1 (11_cp15_overview_id.md R151). -/
def cp15C1 : Nat → Nat → Option Cp15Reg
  | 0, 0 => some .sctlr
  | 0, 1 => some .actlr
  | 0, 2 => some .cpacr
  | 1, 0 => some .scr
  | 1, 1 => some .sder
  | 1, 2 => some .nsacr
  | _, _ => none

/-- c2 (11_cp15_overview_id.md R152). -/
def cp15C2 : Nat → Nat → Option Cp15Reg
  | 0, 0 => some .ttbr0
  | 0, 1 => some .ttbr1
  | 0, 2 => some .ttbcr
  | _, _ => none

/-- c3, c5 and c6 (11_cp15_overview_id.md R152, R153). -/
def cp15C356 : Nat → Nat → Nat → Option Cp15Reg
  | 3, 0, 0 => some .dacr
  | 5, 0, 0 => some .dfsr
  | 5, 0, 1 => some .ifsr
  | 6, 0, 0 => some .far
  | 6, 0, 1 => some .wfar
  | 6, 0, 2 => some .ifar
  | _, _, _ => none

/-- c7 (13_cp15_cache_tlb.md R330, R331). -/
def cp15C7 : Nat → Nat → Option Cp15Reg
  | 0, 4 => some .waitForInterrupt
  | 4, 0 => some .par
  | 5, 0 => some .icInvalidateAll
  | 5, 1 => some .icInvalidateMva
  | 5, 2 => some .icInvalidateIndex
  | 5, 4 => some .flushPrefetch
  | 5, 6 => some .btacFlushAll
  | 5, 7 => some .btacFlushMva
  | 6, 0 => some .dcInvalidateAll
  | 6, 1 => some .dcInvalidateMva
  | 6, 2 => some .dcInvalidateIndex
  | 7, 0 => some .invalidateBoth
  | 7, _ => some .cacheNoEffect
  | 8, k => some (.vaToPa (BitVec.ofNat 3 k))
  | 10, 0 => some .dcCleanAll
  | 10, 1 => some .dcCleanMva
  | 10, 2 => some .dcCleanIndex
  | 10, 4 => some .dataSyncBarrier
  | 10, 5 => some .dataMemBarrier
  | 10, 6 => some .cacheDirty
  | 11, _ => some .cacheNoEffect
  | 13, 1 => some .icPrefetch
  | 14, 0 => some .dcCleanInvalidateAll
  | 14, 1 => some .dcCleanInvalidateMva
  | 14, 2 => some .dcCleanInvalidateIndex
  | 15, _ => some .cacheNoEffect
  | _, _ => none

/-- c8 (11_cp15_overview_id.md R155): the TLB is unified, so c5, c6 and c7 name the same operation. -/
def cp15C8 (crm op2 : Nat) : Option Cp15Reg :=
  if crm = 5 ∨ crm = 6 ∨ crm = 7 then
    match op2 with
    | 0 => some .tlbInvalidateAll
    | 1 => some .tlbInvalidateMva
    | 2 => some .tlbInvalidateAsid
    | _ => none
  else none

/-- c9 (11_cp15_overview_id.md R156). -/
def cp15C9 : Nat → Nat → Option Cp15Reg
  | 0, 0 => some .dcLockdown
  | 0, 1 => some .icLockdown
  | 1, 0 => some .dtcmRegion
  | 1, 1 => some .itcmRegion
  | 1, 2 => some .dtcmNs
  | 1, 3 => some .itcmNs
  | 2, 0 => some .tcmSelection
  | 8, 0 => some .cacheOverride
  | _, _ => none

/-- c10 (11_cp15_overview_id.md R157). -/
def cp15C10 : Nat → Nat → Option Cp15Reg
  | 0, 0 => some .tlbLockdown
  | 2, 0 => some .prrr
  | 2, 1 => some .nmrr
  | _, _ => none

/-- c11 (11_cp15_overview_id.md R158). -/
def cp15C11 : Nat → Nat → Option Cp15Reg
  | 0, k => if k ≤ 3 then some (.dmaStatus k) else none
  | 1, 0 => some .dmaUser
  | 2, 0 => some .dmaChannel
  | 3, 0 => some .dmaStop
  | 3, 1 => some .dmaStart
  | 3, 2 => some .dmaClear
  | 4, 0 => some .dmaControl
  | 5, 0 => some .dmaIntStart
  | 6, 0 => some .dmaExtStart
  | 7, 0 => some .dmaIntEnd
  | 8, 0 => some .dmaChannelStatus
  | 15, 0 => some .dmaContext
  | _, _ => none

/-- c12 and c13 (11_cp15_overview_id.md R159). -/
def cp15C1213 : Nat → Nat → Nat → Option Cp15Reg
  | 12, 0, 0 => some .vbar
  | 12, 0, 1 => some .mvbar
  | 12, 1, 0 => some .isr
  | 13, 0, 0 => some .fcse
  | 13, 0, 1 => some .contextId
  | 13, 0, 2 => some .tidUrw
  | 13, 0, 3 => some .tidUro
  | 13, 0, 4 => some .tidPriv
  | _, _, _ => none

/-- c15 with Opcode_1 = 0 (11_cp15_overview_id.md R160), but for the System Validation Operations. -/
def cp15C15 : Nat → Nat → Option Cp15Reg
  | 2, 4 => some .periph
  | 9, 0 => some .valControl
  | 12, 0 => some .pmnc
  | 12, 1 => some .ccnt
  | 12, 2 => some .pmn0
  | 12, 3 => some .pmn1
  | 12, 7 => some .valDebugRequest
  | 12, _ => some .valNoEffect
  | 14, 0 => some .cacheSizeMask
  | _, _ => none

/-- c15 with another Opcode_1 (14_cp15_dma_misc.md R486, R490). -/
def cp15C15High (op1 crm : Nat) (op2 : BitVec 3) : Option Cp15Reg :=
  if op1 = 3 then
    (if crm = 8 then some (.icMaster op2.toFin) else if crm = 12 then some (.dcMaster op2.toFin) else none)
  else if op1 = 5 ∧ op2 = 2 then
    match crm with
    | 4 => some .tlbIndex
    | 5 => some .tlbVa
    | 6 => some .tlbPa
    | 7 => some .tlbAttributes
    | _ => none
  else none

/-- The register an MCR or MRC selects; none is Undefined (11_cp15_overview_id.md R132 item 5). -/
def Cp15Reg.select (op1 : BitVec 3) (crn crm : BitVec 4) (op2 : BitVec 3) : Option Cp15Reg :=
  let n := crn.toNat
  let m := crm.toNat
  let k := op2.toNat
  if n = 15 ∧ m = 13 then some (.valOperation op1 op2)
  else if n = 15 ∧ op1 ≠ 0 then cp15C15High op1.toNat m op2
  else if op1 ≠ 0 then none
  else if n = 0 then cp15C0 m k
  else if n = 1 then cp15C1 m k
  else if n = 2 then cp15C2 m k
  else if n = 7 then cp15C7 m k
  else if n = 8 then cp15C8 m k
  else if n = 9 then cp15C9 m k
  else if n = 10 then cp15C10 m k
  else if n = 11 then cp15C11 m k
  else if n = 15 then cp15C15 m k
  else if n = 12 ∨ n = 13 then cp15C1213 n m k
  else cp15C356 n m k

/-! ### Who may access it -/

/-- The access classes of 12_cp15_control.md: S-priv, NS-priv, User. -/
inductive AccessClass where
  | securePriv
  | nonSecurePriv
  | user
deriving DecidableEq, Repr

/-- The access class of a CP15 instruction; in Debug state that of 61_debug.md R1774. -/
def State.accessClass (s : State) : AccessClass :=
  if s.inDebug then
    (if s.nonSecure then .nonSecurePriv else if s.pins.spiden then .securePriv else .user)
  else if !s.privileged then .user
  else if s.secure then .securePriv else .nonSecurePriv

/-- Is the class privileged? -/
def AccessClass.priv (c : AccessClass) : Bool := c != .user

/-- The copy of a banked register that an MCR or MRC reaches (`copy_selected`, 11_cp15_overview_id.md R136). -/
def State.copyNs (s : State) : Bool := s.scrNs

/-- The TCM an access to a Region or Non-secure Control Access register reaches (13_cp15_cache_tlb.md R384, R386). -/
def State.tcmIndex (s : State) : Fin 2 :=
  if (s.cp15.bank s.nonSecure).tcmSel.getLsbD 0 then 1 else 0

/-- The world may access the DMA registers (14_cp15_dma_misc.md R430). -/
def State.dmaWorldOk (s : State) : Bool := s.secure || s.dmaNs

/-- The U bit of the selected channel (14_cp15_dma_misc.md R433). -/
def State.dmaUserOk (s : State) : Bool := s.dma.userBit s.dma.chan

/-- May an access of a class read, or write, the register (11_cp15_overview_id.md R132 items 2 to 4)? -/
def Cp15Reg.allowed (s : State) (c : AccessClass) (write : Bool) : Cp15Reg → Bool
  | .mainId | .cacheType | .tcmStatus | .tlbType | .feature _ | .cacheDirty | .isr => c.priv && !write
  | .sctlr | .cpacr | .ttbr0 | .ttbr1 | .ttbcr | .dacr | .dfsr | .ifsr | .far | .ifar | .par | .tcmSelection
  | .cacheOverride | .prrr | .nmrr | .vbar | .fcse | .contextId | .tidPriv | .periph => c.priv
  | .actlr | .nsacr => c == .securePriv || (c == .nonSecurePriv && !write)
  | .scr | .sder | .wfar | .mvbar | .dtcmNs | .itcmNs | .valControl | .icMaster _ | .dcMaster _ | .tlbIndex | .tlbVa
  | .tlbPa | .tlbAttributes => c == .securePriv
  | .waitForInterrupt | .icInvalidateMva | .icInvalidateIndex | .btacFlushMva | .dcInvalidateMva | .dcInvalidateIndex
  | .cacheNoEffect | .dcCleanMva | .dcCleanIndex | .icPrefetch | .dcCleanInvalidateAll | .dcCleanInvalidateMva
  | .dcCleanInvalidateIndex | .tlbInvalidateAll | .tlbInvalidateMva | .tlbInvalidateAsid => c.priv && write
  | .icInvalidateAll => write && (c == .securePriv || (c == .nonSecurePriv && s.cp15.nsacr.getLsbD 16))
  | .dcInvalidateAll | .invalidateBoth => write && c == .securePriv
  | .flushPrefetch | .dataSyncBarrier | .dataMemBarrier => write
  | .btacFlushAll => write && (c.priv || s.inDebug)
  | .vaToPa k => write && (if k.getLsbD 2 then c == .securePriv else c.priv)
  | .dcCleanAll => write && c.priv && !s.cp15.actlr.getLsbD 4
  | .dcLockdown | .icLockdown => c == .securePriv || (c == .nonSecurePriv && s.cp15.nsacr.getLsbD 16)
  | .dtcmRegion => c == .securePriv || (c == .nonSecurePriv && s.cp15.dtcmNs[s.tcmIndex])
  | .itcmRegion => c == .securePriv || (c == .nonSecurePriv && s.cp15.itcmNs[s.tcmIndex])
  | .tlbLockdown => c == .securePriv || (c == .nonSecurePriv && s.cp15.nsacr.getLsbD 17)
  | .dmaStatus _ => s.dmaWorldOk && c.priv && !write
  | .dmaUser | .dmaContext => s.dmaWorldOk && c.priv
  | .dmaChannel => s.dmaWorldOk && (c.priv || s.dma.user != 0)
  | .dmaStop | .dmaStart | .dmaClear => s.dmaWorldOk && (c.priv || s.dmaUserOk) && write
  | .dmaControl | .dmaIntStart | .dmaExtStart | .dmaIntEnd => s.dmaWorldOk && (c.priv || s.dmaUserOk)
  | .dmaChannelStatus => s.dmaWorldOk && (c.priv || s.dmaUserOk) && !write
  | .tidUrw => true
  | .tidUro => c.priv || !write
  | .pmnc | .ccnt | .pmn0 | .pmn1 => c.priv || s.cp15.valV
  | .valNoEffect | .valDebugRequest | .valOperation _ _ | .cacheSizeMask => c == .securePriv || s.cp15.valV

/-- Is a write blocked by CP15SDISABLE (11_cp15_overview_id.md R140)? It stops the writes of the Secure privileged modes
that would reach the Secure copy or the one Secure register: one of the Control Register always does, at its
Secure-modify-only bits (12_cp15_control.md R232; log 51). Of the Validation Counter it stops Op2 7 alone: the per-register rule
gives the reach of the pin (14_cp15_dma_misc.md R481, C18). -/
def Cp15Reg.pinBlocked (s : State) (c : AccessClass) (r : Cp15Reg) : Bool :=
  s.pins.cp15sdisable && c == .securePriv &&
    (match r with
     | .ttbr0 | .ttbcr | .dacr | .prrr | .nmrr | .vbar | .fcse | .periph => !s.copyNs
     | .dtcmRegion => !s.cp15.dtcmNs[s.tcmIndex]
     | .itcmRegion => !s.cp15.itcmNs[s.tcmIndex]
     | .sctlr | .dtcmNs | .itcmNs | .mvbar | .icMaster _ | .dcMaster _ | .tlbIndex | .tlbVa | .tlbPa | .tlbAttributes
     | .valControl | .valDebugRequest | .valOperation _ _ | .cacheSizeMask => true
     | _ => false)

/-! ### Configuration values -/

/-- `field12` of the Cache Type Register (11_cp15_overview_id.md R174). -/
def cacheTypeField (kb : Nat) : Word :=
  let code : Word := if kb = 4 then 3 else if kb = 8 then 4 else if kb = 16 then 5 else if kb = 32 then 6 else 7
  (if 16 < kb then 0x800 else 0) ||| (code <<< 6) ||| 0x12

/-- The Cache Type Register (11_cp15_overview_id.md R174). -/
def cacheTypeValue : Word :=
  0x1D000000 ||| (cacheTypeField Config.dcacheKB <<< 12) ||| cacheTypeField Config.icacheKB

/-- The feature registers (11_cp15_overview_id.md R180 to R193). -/
def featureValue : Nat → Word
  | 0 => 0x00000111
  | 1 => 0x00000011
  | 2 => 0x00000033
  | 4 => 0x01130003
  | 5 => 0x10030302
  | 6 => 0x01222100
  | 8 => 0x00140011
  | 9 => 0x12002111
  | 10 => 0x11231121
  | 11 => 0x01102131
  | 12 => 0x00001141
  | _ => 0

/-- A TCM field of the Cache Size Mask (14_cp15_dma_misc.md R485), for a side of the given configured size. -/
def tcmMaskCode (totalKB : Nat) : Word :=
  if totalKB = 4 then 3 else if totalKB = 8 then 4 else if totalKB = 16 then 5 else if totalKB = 32 then 6
  else if totalKB = 64 then 7 else 0

/-- A cache field of the Cache Size Mask (14_cp15_dma_misc.md R485). -/
def cacheMaskCode (kb : Nat) : Word :=
  if kb = 4 then 3 else if kb = 8 then 4 else if kb = 16 then 5 else if kb = 32 then 6 else 7

/-- The System Validation Cache Size Mask (14_cp15_dma_misc.md R485, D30). -/
def cacheSizeMaskValue : Word :=
  (tcmMaskCode Config.dtcmTotalKB <<< 12) ||| (tcmMaskCode Config.itcmTotalKB <<< 8) |||
    (cacheMaskCode Config.dcacheKB <<< 4) ||| cacheMaskCode Config.icacheKB

/-- The implemented bits of Cache Master Valid register `k` of a cache (14_cp15_dma_misc.md R486). -/
def masterMask (kb k : Nat) : Word :=
  let bits := 4 * kb
  if 32 * (k + 1) ≤ bits then 0xFFFFFFFF else if 32 * k < bits then (1#32 <<< (bits - 32 * k)) - 1 else 0

/-- The fields of the CPACR whose coprocessors exist (12_cp15_control.md R238, R240). -/
def cpacrMask : Word :=
  Config.coprocPresent.foldl (fun m n => if n < 14 then m ||| (3#32 <<< (2 * n)) else m) 0

/-- The fields of the CPACR that the Non-secure world may access (12_cp15_control.md R239). -/
def Cp15.cpacrNsMask (c : Cp15) : Word :=
  (List.range 14).foldl (fun m n => if c.nsacr.getLsbD n then m ||| (3#32 <<< (2 * n)) else m) 0

/-! ### Reads -/

/-- The Interrupt Status Register (14_cp15_dma_misc.md R457). -/
def State.interruptStatus (s : State) : Word :=
  setBit (setBit (setBit 0 8 s.pendingAbort.isSome) 7 (!s.pins.nIRQ)) 6 (!s.pins.nFIQ)

/-- A DMA identification and status register (14_cp15_dma_misc.md R431, D23). -/
def Dma.statusValue (d : Dma) (k : Nat) : Word :=
  let both (f : DmaChannel → Bool) : Word := setBit (setBit 0 0 (f d.ch0)) 1 (f d.ch1)
  match k with
  | 0 => if 0 < Config.nItcm + Config.nDtcm then 3 else 0
  | 1 => both fun c => c.state == .queued
  | 2 => both fun c => c.state == .running
  | _ => both (·.irq)

/-- The TLB Lockdown VA window (14_cp15_dma_misc.md R492). -/
def TlbEntry.vaValue (e : TlbEntry) : Word :=
  setBit ((e.va.setWidth 32 <<< 12) ||| e.asid.setWidth 32) 9 e.global

/-- The TLB Lockdown PA window (14_cp15_dma_misc.md R493). -/
def TlbEntry.paValue (e : TlbEntry) : Word :=
  let w : Word := (e.pa.setWidth 32 <<< 12) ||| (e.size.setWidth 32 <<< 6) ||| (e.ap.setWidth 32 <<< 1)
  setBit (setBit (setBit (setBit w 9 e.nsa) 8 e.nstid) 3 e.apx) 0 e.valid

/-- The TLB Lockdown Attributes window (14_cp15_dma_misc.md R494). -/
def TlbEntry.attributesValue (e : TlbEntry) : Word :=
  let w : Word := (e.ap3.setWidth 32 <<< 30) ||| (e.ap2.setWidth 32 <<< 28) ||| (e.ap1.setWidth 32 <<< 26) |||
    (e.domain.setWidth 32 <<< 7) ||| (e.tex.setWidth 32 <<< 3)
  setBit (setBit (setBit (setBit (setBit w 25 e.spv) 6 e.xn) 2 e.c) 1 e.b) 0 e.s

/-- What an allowed MRC returns. Reserved bits read as 0 (U1; log 19). -/
def State.cp15Value (s : State) (c : AccessClass) (r : Cp15Reg) : Word :=
  let b := s.cp15.bank s.copyNs
  let ch := s.dma.channel s.dma.chan
  match r with
  | .mainId => 0x410FB760 + Config.minorRev.setWidth 32
  | .cacheType => cacheTypeValue
  | .tcmStatus => BitVec.ofNat 32 (Config.nDtcm * 65536 + Config.nItcm)
  | .tlbType => 0x00000800
  | .feature k => featureValue k
  | .sctlr => s.cp15.sctlr s.copyNs
  | .actlr => s.cp15.actlr
  | .cpacr => if c == .nonSecurePriv then s.cp15.cpacr &&& s.cp15.cpacrNsMask else s.cp15.cpacr
  | .scr => s.cp15.scr
  | .sder => s.cp15.sder
  | .nsacr => s.cp15.nsacr
  | .ttbr0 => b.ttbr0
  | .ttbr1 => b.ttbr1
  | .ttbcr => b.ttbcr
  | .dacr => b.dacr
  | .dfsr => b.dfsr
  | .ifsr => b.ifsr
  | .far => b.far
  | .wfar => s.dbg.wfar
  | .ifar => b.ifar
  | .par => b.par
  | .cacheDirty => b.cacheDirty
  | .dcLockdown => s.cp15.dcLockdown
  | .icLockdown => s.cp15.icLockdown
  | .dtcmRegion => s.cp15.dtcmRegion[s.tcmIndex]
  | .itcmRegion => s.cp15.itcmRegion[s.tcmIndex]
  | .dtcmNs => boolWord s.cp15.dtcmNs[s.tcmIndex]
  | .itcmNs => boolWord s.cp15.itcmNs[s.tcmIndex]
  | .tcmSelection => b.tcmSel
  | .cacheOverride => if c == .securePriv then s.cp15.cacheOverride else s.cp15.cacheOverride &&& 0x7
  | .tlbLockdown => s.cp15.tlbLockdown
  | .prrr => b.prrr
  | .nmrr => b.nmrr
  | .dmaStatus k => s.dma.statusValue k
  | .dmaUser => s.dma.user.setWidth 32
  | .dmaChannel => boolWord s.dma.chan
  | .dmaControl => ch.control
  | .dmaIntStart => ch.intStart
  | .dmaExtStart => ch.extStart
  | .dmaIntEnd => ch.intEnd
  | .dmaChannelStatus => ch.status
  | .dmaContext => ch.contextId
  | .vbar => b.vbar
  | .mvbar => s.cp15.mvbar
  | .isr => s.interruptStatus
  | .fcse => b.fcse
  | .contextId => b.contextId
  | .tidUrw => b.tidUrw
  | .tidUro => b.tidUro
  | .tidPriv => b.tidPriv
  | .periph => b.periph
  | .valControl => boolWord s.cp15.valV
  | .pmnc => s.pmu.pmnc
  | .ccnt => s.pmu.ccnt
  | .pmn0 => s.pmu.pmn0
  | .pmn1 => s.pmu.pmn1
  | .cacheSizeMask => cacheSizeMaskValue
  | .icMaster k => s.cp15.icMaster[k]
  | .dcMaster k => s.cp15.dcMaster[k]
  | .tlbIndex => s.cp15.tlbIndex.setWidth 32
  | .tlbVa => s.cp15.tlb[s.cp15.tlbIndex.toFin].vaValue
  | .tlbPa => s.cp15.tlb[s.cp15.tlbIndex.toFin].paValue
  | .tlbAttributes => s.cp15.tlb[s.cp15.tlbIndex.toFin].attributesValue
  | _ => 0

/-! ### Translation by an operation -/

/-- The walk a cache operation by address makes, privileged as the core is (21_mmu.md R632): the fault, if the translation
fails (R672, U65). -/
def probe (mva : Word) (kind : Access) : M (Option MmuFault) := do
  let s ← get
  let r : Request := { mva := mva, kind := kind, priv := s.privileged, ns := s.nonSecure }
  if !(s.cp15.sctlr r.ns).getLsbD 0 || (s.tlbLookup r).isSome then pure none
  else
    match s.walk r with
    | .error f => pure (some f)
    | .ok e => do
      set (s.insertEntry e)
      pure none

/-- The Data Abort of a cache operation by address (21_mmu.md R672, D40). -/
def cacheAbort {α : Type} (instr : Bool) (mva : Word) (f : MmuFault) : M α := do
  modify fun s =>
    let w := s.faultNs f.external
    let s := if instr then
        (s.setDataFault w (fsrValue 0b00100 0 true false) mva).setIfsr w (fsrValue f.status 0 false f.slverr)
      else s.setDataFault w (fsrValue f.status f.domain true f.slverr) mva
    s.setIfar w (s.cp15.mva s.nonSecure s.pc)
  raiseDataAbort f.external

/-- A cache operation on the line of an MVA (13_cp15_cache_tlb.md R335, R340). -/
def cacheLine (instr : Bool) (mva : Word) : M Unit := do
  match ← probe mva (if instr then .fetch else .read) with
  | some f => cacheAbort instr mva f
  | none => pure ()

/-- The lines of a range operation, from a virtual address on (13_cp15_cache_tlb.md R343, R344). -/
def cacheLines (instr : Bool) : Nat → Word → M Unit
  | 0, _ => pure ()
  | n + 1, va => do
    let s ← get
    cacheLine instr (s.cp15.mva s.nonSecure va)
    cacheLines instr n (va + 32)

/-- A range operation (13_cp15_cache_tlb.md R343): inclusive, bits [4:0] of both addresses ignored; nothing where the start
lies above the end. With the MMU off no line can fault. -/
def cacheRange (instr : Bool) (start stop : Word) : M Unit := do
  let first := alignDown start 5
  let last := alignDown stop 5
  let s ← get
  if last.toNat < first.toNat || !s.sctlr.getLsbD 0 then pure ()
  else cacheLines instr ((last - first).toNat / 32 + 1) first

/-- INNER of the PA Register (13_cp15_cache_tlb.md R350). The processor has no write allocate, so both write-back policies
are 0b111. -/
def Attrs.parInner (a : Attrs) : BitVec 3 :=
  match a.type with
  | .stronglyOrdered => 0b001
  | .device => 0b011
  | .normal => if a.inner = 0b00 then 0b000 else if a.inner = 0b10 then 0b110 else 0b111

/-- The PA Register after a successful translation (13_cp15_cache_tlb.md R350). -/
def Translation.parValue (t : Translation) (a : Attrs) : Word :=
  setBit (setBit ((t.pa &&& 0xFFFFFC00) ||| (a.parInner.setWidth 32 <<< 4) ||| (a.outer.setWidth 32 <<< 2)) 9 t.nsAttr)
    7 a.shared

/-- The PA Register after an aborted translation (13_cp15_cache_tlb.md R350). -/
def MmuFault.parValue (f : MmuFault) : Word :=
  (f.status.setWidth 32 <<< 1) ||| (if f.slverr then 0x40 else 0) ||| 1

/-- The state with the PA Register of the current world written. -/
def State.setPar (s : State) (v : Word) : State :=
  { s with cp15 := s.cp15.setBank s.nonSecure { s.cp15.bank s.nonSecure with par := v } }

/-- VA to PA translation (13_cp15_cache_tlb.md R351 to R353). The attributes of a reserved encoding (U33) are a free
value. The DFSR of an external abort on its walk reports a write where the operation asks for write permission (log 59). -/
def vaToPa (k : BitVec 3) (va : Word) : M Unit := do
  let s ← get
  let ns := k.getLsbD 2 || s.nonSecure
  let write := k.getLsbD 0
  let r : Request :=
    { mva := s.cp15.mva ns va, kind := if write then .write else .read, priv := !k.getLsbD 1, ns := ns }
  match ← translate r with
  | .ok t =>
    match t.attrs with
    | some a => modify fun s => s.setPar (t.parValue a)
    | none => do
      let w ← draw
      modify fun s => s.setPar (setBit ((t.pa &&& 0xFFFFFC00) ||| (w &&& 0xFC)) 9 t.nsAttr)
  | .error f => do
    modify fun s => s.setPar f.parValue
    if f.external then takeDataAbort (f.dataAbort r.mva write)

/-! ### Writes -/

/-- The banked bits of the Control Register (12_cp15_control.md R231). -/
def sctlrBanked : Word := 0x33C03B07

/-- The Secure-modify-only bits of the Control Register: FI, L4, RR, B (12_cp15_control.md R231). -/
def sctlrCommonMask : Word := 0x0020C080

/-- The state with the selected copy of the banked registers updated. -/
def State.updateBank (s : State) (f : Banked → Banked) : State :=
  { s with cp15 := s.cp15.setBank s.copyNs (f (s.cp15.bank s.copyNs)) }

/-- The state with the CP15 registers of one copy updated. -/
def State.updateCp15 (s : State) (f : Cp15 → Cp15) : State := { s with cp15 := f s.cp15 }

/-- The state with the selected DMA channel updated, unless it is Running or Queued (14_cp15_dma_misc.md R440, D25). -/
def State.updateDma (s : State) (f : DmaChannel → DmaChannel) : State :=
  let c := s.dma.channel s.dma.chan
  if c.busy then s else s.setDma s.dma.chan (f c)

/-- Invalidate the lockdown entries of the issuing world that a test picks (13_cp15_cache_tlb.md R354). From Secure Monitor
mode with SCR.NS = 1 they are the Non-secure entries, as the banked registers that mode reaches are (R136; log 52). -/
def State.invalidateTlb (s : State) (f : TlbEntry → Bool) : State :=
  s.updateCp15 fun c =>
    { c with tlb := c.tlb.map fun e => if e.valid && e.nstid == s.copyNs && f e then { e with valid := false } else e }

/-- Does a lockdown entry match an MVA and ASID (13_cp15_cache_tlb.md R357)? -/
def TlbEntry.covers (e : TlbEntry) (v : Word) : Bool :=
  (e.va ++ 0#12) >>> e.sizeLog == v >>> e.sizeLog && (e.global || e.asid == v.extractLsb' 0 8)

/-- A write of the TLB Lockdown VA window (14_cp15_dma_misc.md R492). -/
def TlbEntry.setVaValue (e : TlbEntry) (v : Word) : TlbEntry :=
  { e with va := v.extractLsb' 12 20, global := v.getLsbD 9, asid := v.extractLsb' 0 8 }

/-- A write of the TLB Lockdown PA window (14_cp15_dma_misc.md R493). -/
def TlbEntry.setPaValue (e : TlbEntry) (v : Word) : TlbEntry :=
  { e with pa := v.extractLsb' 12 20, nsa := v.getLsbD 9 || v.getLsbD 8, nstid := v.getLsbD 8,
           size := v.extractLsb' 6 2, apx := v.getLsbD 3, ap := v.extractLsb' 1 2, valid := v.getLsbD 0 }

/-- A write of the TLB Lockdown Attributes window (14_cp15_dma_misc.md R494). -/
def TlbEntry.setAttributesValue (e : TlbEntry) (v : Word) : TlbEntry :=
  { e with ap3 := v.extractLsb' 30 2, ap2 := v.extractLsb' 28 2, ap1 := v.extractLsb' 26 2, spv := v.getLsbD 25,
           domain := v.extractLsb' 7 4, xn := v.getLsbD 6, tex := v.extractLsb' 3 3, c := v.getLsbD 2,
           b := v.getLsbD 1, s := v.getLsbD 0 }

/-- The state with the lockdown entry of the Index register updated. -/
def State.updateTlb (s : State) (f : TlbEntry → TlbEntry) : State :=
  s.updateCp15 fun c => { c with tlb := c.tlb.set c.tlbIndex.toFin (f c.tlb[c.tlbIndex.toFin]) }

/-- A write of the Performance Monitor Control Register (14_cp15_dma_misc.md R472, D31). C resets all 38 bits of the Cycle
Counter (log 26). Clearing an overflow flag, bit 10, 8 or 9, returns the reset, the interrupt or the fast interrupt counter that
wrapped to performance monitor duty (R483). -/
def Pmu.writeControl (p : Pmu) (v : Word) : Pmu :=
  let clear : Word := if v.getLsbD 0 then v &&& 0x700 else 0
  { p with pmnc := (v &&& 0x0FFFF879) ||| (p.pmnc &&& 0x700 &&& ~~~clear)
           wrapped := p.wrapped &&&
             ~~~(BitVec.ofBool (clear.getLsbD 9) ++ BitVec.ofBool (clear.getLsbD 8) ++ BitVec.ofBool (clear.getLsbD 10))
           ccnt := if v.getLsbD 2 then 0 else p.ccnt
           divider := if v.getLsbD 2 then 0 else p.divider
           pmn0 := if v.getLsbD 1 then 0 else p.pmn0
           pmn1 := if v.getLsbD 1 then 0 else p.pmn1 }

/-- A System Validation Operation (14_cp15_dma_misc.md R482). A counter that is started counts again, also after it wrapped. -/
def Pmu.validation (p : Pmu) (op1 op2 : BitVec 3) : Pmu :=
  let three : BitVec 4 := op2.setWidth 4
  if op1 = 0 then { p with started := p.started ||| three, wrapped := p.wrapped &&& ~~~op2 }
  else if op1 = 1 then { p with started := p.started ||| 0b1000 }
  else if op1 = 2 then { p with started := p.started &&& ~~~three }
  else if op1 = 3 then { p with started := p.started &&& 0b0111 }
  else p

/-- A wake-up event of Standby is present (62_platform.md R1880). An interrupt that DSCR[11] inhibits is not seen at all
(61_debug.md R1727). -/
def State.wakeUp (s : State) : Bool :=
  (!s.dbg.dscr.getLsbD 11 && (!s.pins.nIRQ || !s.pins.nFIQ)) || s.pendingAbort.isSome ||
    (s.pins.dbgen && (s.pins.edbgrq || s.tap.haltReq))

/-- Wait For Interrupt (62_platform.md R1880): Standby, unless a wake-up event is present. In Debug state the core is
stopped already. -/
def State.waitForInterrupt (s : State) : State :=
  if s.inDebug || s.wakeUp then s else { s with activity := .standby }

/-- A barrier: with no write outstanding it only sets DSCR[19] in Debug state (61_debug.md R1778), and shows on the Secure
Monitor bus (62_platform.md R1908). -/
def State.barrier (s : State) : State :=
  let s := { s with trace := { s.trace with barrier := true } }
  if s.inDebug then s.setDscrBit 19 true else s

/-- Flush Prefetch Buffer: nothing was prefetched (D36; log 13), and it shows on the Secure Monitor bus (62_platform.md
R1908). -/
def State.flushPrefetch (s : State) : State := { s with trace := { s.trace with flush := true } }

/-- The bits of the PA Register that hold a value: by bit [0], of the format after a successful or an aborted translation
(13_cp15_cache_tlb.md R350). -/
def parMask (v : Word) : Word := if v.getLsbD 0 then 0x7F else 0xFFFFFEFC

/-- The writes of an allowed MCR that only update registers. Reserved bits are not written (U2; log 19). -/
def State.cp15Write (s : State) (c : AccessClass) (r : Cp15Reg) (v : Word) : State :=
  match r with
  | .sctlr =>
    let s := s.updateBank fun b => { b with sctlr := v &&& sctlrBanked }
    if c == .securePriv then s.updateCp15 fun k => { k with sctlrCommon := v &&& sctlrCommonMask } else s
  | .actlr => s.updateCp15 fun k => { k with actlr := v &&& 0xF000007F }
  | .cpacr => s.updateCp15 fun k =>
      let m := cpacrMask &&& (if c == .nonSecurePriv then k.cpacrNsMask else 0xFFFFFFFF)
      { k with cpacr := merge k.cpacr v m }
  | .scr => s.updateCp15 fun k => { k with scr := v &&& 0x3F }
  | .sder => s.updateCp15 fun k => { k with sder := v &&& 0x3 }
  | .nsacr => s.updateCp15 fun k => { k with nsacr := v &&& 0x00073FFF }
  | .ttbr0 => s.updateBank fun b => { b with ttbr0 := v &&& 0xFFFFFF9B }
  | .ttbr1 => s.updateBank fun b => { b with ttbr1 := v &&& 0xFFFFC01B }
  | .ttbcr => s.updateBank fun b => { b with ttbcr := v &&& 0x37 }
  | .dacr => s.updateBank fun b => { b with dacr := v }
  | .dfsr => s.updateBank fun b => { b with dfsr := v &&& 0x1CFF }
  | .ifsr => s.updateBank fun b => { b with ifsr := v &&& 0x100F }
  | .far => s.updateBank fun b => { b with far := v }
  | .wfar => { s with dbg := { s.dbg with wfar := v } }
  | .ifar => s.updateBank fun b => { b with ifar := v }
  | .par => s.updateBank fun b => { b with par := v &&& parMask v }
  | .waitForInterrupt => s.waitForInterrupt
  | .flushPrefetch => s.flushPrefetch
  | .dataSyncBarrier => s.barrier
  | .dataMemBarrier => s.barrier
  | .tlbInvalidateMva => s.invalidateTlb fun e => e.covers v
  | .tlbInvalidateAsid => s.invalidateTlb fun e => !e.global && e.asid == v.extractLsb' 0 8
  | .dcLockdown => s.updateCp15 fun k => { k with dcLockdown := 0xFFFFFFF0 ||| (v &&& 0xF) }
  | .icLockdown => s.updateCp15 fun k => { k with icLockdown := 0xFFFFFFF0 ||| (v &&& 0xF) }
  | .dtcmRegion => s.updateCp15 fun k =>
      { k with dtcmRegion := k.dtcmRegion.set s.tcmIndex (merge k.dtcmRegion[s.tcmIndex] v 0xFFFFF001) }
  | .itcmRegion => s.updateCp15 fun k =>
      { k with itcmRegion := k.itcmRegion.set s.tcmIndex (merge k.itcmRegion[s.tcmIndex] v 0xFFFFF001) }
  | .dtcmNs => s.updateCp15 fun k => { k with dtcmNs := k.dtcmNs.set s.tcmIndex (v.getLsbD 0) }
  | .itcmNs => s.updateCp15 fun k => { k with itcmNs := k.itcmNs.set s.tcmIndex (v.getLsbD 0) }
  | .tcmSelection =>
    let n : BitVec 2 := v.extractLsb' 0 2
    if n = 0 || (n = 1 && (decide (2 ≤ Config.nItcm) || decide (2 ≤ Config.nDtcm))) then
      s.updateBank fun b => { b with tcmSel := v &&& 0x3 }
    else s
  | .cacheOverride => s.updateCp15 fun k =>
      { k with cacheOverride := merge k.cacheOverride v (if c == .securePriv then 0x3F else 0x07) }
  | .tlbLockdown => s.updateCp15 fun k => { k with tlbLockdown := v &&& 0x1C000001 }
  | .prrr => s.updateBank fun b => { b with prrr := v &&& 0x000FFFFF }
  | .nmrr => s.updateBank fun b => { b with nmrr := v }
  | .dmaUser => { s with dma := { s.dma with user := v.extractLsb' 0 2 } }
  | .dmaChannel => { s with dma := { s.dma with chan := v.getLsbD 0 } }
  | .dmaStop => { s with dma := s.dma.stop s.dma.chan }
  | .dmaStart => { s with dma := s.dma.start s.dma.chan (!s.privileged) }
  | .dmaClear => { s with dma := s.dma.clear s.dma.chan }
  | .dmaControl => s.updateDma fun d => { d with control := (v &&& 0xF40FFF03) ||| 0x08000000 }
  | .dmaIntStart => s.updateDma fun d => { d with intStart := v }
  | .dmaExtStart => s.updateDma fun d => { d with extStart := v }
  | .dmaIntEnd => s.updateDma fun d => { d with intEnd := v }
  | .dmaContext => s.updateDma fun d => { d with contextId := v }
  | .vbar => s.updateBank fun b => { b with vbar := v &&& 0xFFFFFFE0 }
  | .mvbar => s.updateCp15 fun k => { k with mvbar := v &&& 0xFFFFFFE0 }
  | .fcse => s.updateBank fun b => { b with fcse := v &&& 0xFE000000 }
  | .contextId => s.updateBank fun b => { b with contextId := v }
  | .tidUrw => s.updateBank fun b => { b with tidUrw := v }
  | .tidUro => s.updateBank fun b => { b with tidUro := v }
  | .tidPriv => s.updateBank fun b => { b with tidPriv := v }
  | .periph => s.updateBank fun b => { b with periph := v &&& 0xFFFFF01F }
  | .valControl => s.updateCp15 fun k => { k with valV := v.getLsbD 0 }
  | .pmnc => { s with pmu := s.pmu.writeControl v }
  | .ccnt => { s with pmu := { s.pmu with ccnt := v } }
  | .pmn0 => { s with pmu := { s.pmu with pmn0 := v } }
  | .pmn1 => { s with pmu := { s.pmu with pmn1 := v } }
  | .valDebugRequest => { s with pmu := { s.pmu with dbgReq := v.extractLsb' 0 6 } }
  | .valOperation op1 op2 => { s with pmu := s.pmu.validation op1 op2 }
  | .icMaster k => s.updateCp15 fun p => { p with icMaster := p.icMaster.set k (v &&& masterMask Config.icacheKB k.val) }
  | .dcMaster k => s.updateCp15 fun p => { p with dcMaster := p.dcMaster.set k (v &&& masterMask Config.dcacheKB k.val) }
  | .tlbIndex => s.updateCp15 fun k => { k with tlbIndex := v.extractLsb' 0 3 }
  | .tlbVa => s.updateTlb fun e => e.setVaValue v
  | .tlbPa => s.updateTlb fun e => e.setPaValue v
  | .tlbAttributes => s.updateTlb fun e => e.setAttributesValue v
  | _ => s

/-- What an allowed MCR does. The cache operations by address can abort; a Cache Size Mask write with bit [31] = 1 is
outside the model (D30). -/
def cp15Effect (c : AccessClass) (r : Cp15Reg) (v : Word) : M Unit := do
  match r with
  | .icInvalidateMva => cacheLine true v
  | .icPrefetch => cacheLine true v
  | .dcInvalidateMva => cacheLine false v
  | .dcCleanMva => cacheLine false v
  | .dcCleanInvalidateMva => cacheLine false v
  | .vaToPa k => vaToPa k v
  | .cacheSizeMask => refuseIf (v.getLsbD 31) .cacheSizeMask
  | r => modify fun s => s.cp15Write c r v

/-- MRC from CP15: the value, or Undefined (11_cp15_overview_id.md R132). -/
def readCp15 (op1 : BitVec 3) (crn crm : BitVec 4) (op2 : BitVec 3) : M Word := do
  let s ← get
  match Cp15Reg.select op1 crn crm op2 with
  | none => raiseUndefined
  | some r => do
    undefinedIf (!r.allowed s s.accessClass false)
    pure (s.cp15Value s.accessClass r)

/-- MCR to CP15 (11_cp15_overview_id.md R132); R15 as the source is Unpredictable (46_coproc_system.md R1424). -/
def writeCp15 (op1 : BitVec 3) (crn crm : BitVec 4) (op2 : BitVec 3) (rd : BitVec 4) : M Unit := do
  let s ← get
  match Cp15Reg.select op1 crn crm op2 with
  | none => raiseUndefined
  | some r => do
    undefinedIf (!r.allowed s s.accessClass true || r.pinBlocked s s.accessClass)
    unpredictableIf (rd == 15)
    cp15Effect s.accessClass r (s.reg rd)

/-- MCRR to CP15 (11_cp15_overview_id.md R161, 13_cp15_cache_tlb.md R343; RV of 12_cp15_control.md R237): `rd` holds the
end, `rn` the start; R15 is Unpredictable (46_coproc_system.md R1426). -/
def writeCp15Range (op1 crm rd rn : BitVec 4) : M Unit := do
  let s ← get
  let p := s.accessClass.priv
  undefinedIf (op1 != 0 || s.cp15.actlr.getLsbD 5 ||
    !(if crm = 5 then p || s.inDebug else if crm = 12 then true else (crm == 6 || crm == 14) && p))
  unpredictableIf (rd == 15 || rn == 15)
  cacheRange (crm == 5) (s.reg rn) (s.reg rd)

end Sys2Proof.Machine
end

