-- ==== Sys2Proof/Machine/Flags.lean ====
section
/-!
DEFINITION. The flags: the condition test (30_encoding.md R834, R835), addition with carry (40_dataproc.md R902), the flag
results of the data-processing instructions (R901), the Q and GE flags (10_state.md R62, R64), saturation.
-/
namespace Sys2Proof.Machine

/-- The outcome of a step of the core. -/
abbrev Result := Host.Outcome State Fault Refusal

/-- `ConditionPassed(cond)` (30_encoding.md R834). -/
def State.condPassed (s : State) : Cond → Bool
  | .eq => s.flagZ
  | .ne => !s.flagZ
  | .cs => s.flagC
  | .cc => !s.flagC
  | .mi => s.flagN
  | .pl => !s.flagN
  | .vs => s.flagV
  | .vc => !s.flagV
  | .hi => s.flagC && !s.flagZ
  | .ls => !s.flagC || s.flagZ
  | .ge => s.flagN == s.flagV
  | .lt => s.flagN != s.flagV
  | .gt => !s.flagZ && s.flagN == s.flagV
  | .le => s.flagZ || s.flagN != s.flagV
  | .al => true

/-- A conditional instruction: when its condition fails it only moves the PC on (30_encoding.md R835). -/
def conditional (c : Cond) (body : M Unit) (s : State) : Result :=
  (if s.condPassed c then body else advance).outcome s

/-- A conditional branch: in Debug state a failed condition writes an undefined value to the PC (61_debug.md R1775). -/
def conditionalBranch (c : Cond) (body : M Unit) (s : State) : Result :=
  (if s.condPassed c then body
   else if s.inDebug then do
     let w ← draw
     branchTo w
   else advance).outcome s

/-- An unconditional instruction. -/
def always (body : M Unit) (s : State) : Result := body.outcome s

/-- The condition flags. -/
structure Nzcv where
  n : Bool
  z : Bool
  c : Bool
  v : Bool
deriving DecidableEq, Repr

/-- The condition flags of the CPSR. -/
def State.nzcv (s : State) : Nzcv := { n := s.flagN, z := s.flagZ, c := s.flagC, v := s.flagV }

/-- The state with the condition flags written. -/
def State.setNzcv (s : State) (f : Nzcv) : State :=
  { s with cpsr := setField s.cpsr 28 (BitVec.ofBool f.n ++ BitVec.ofBool f.z ++ BitVec.ofBool f.c ++ BitVec.ofBool f.v) }

/-- Write the condition flags. -/
def setFlags (f : Nzcv) : M Unit := modify fun s => s.setNzcv f

/-- Write N and Z of a result and leave C and V. -/
def setNz (w : Word) : M Unit := modify fun s => s.setNzcv { s.nzcv with n := w.msb, z := w == 0 }

/-- Set the sticky Q flag where the condition holds (10_state.md R62). -/
def setQIf (c : Bool) : M Unit := modify fun s => if c then { s with cpsr := setBit s.cpsr 27 true } else s

/-- The state with the GE flags written (10_state.md R64). -/
def State.setGe (s : State) (g : BitVec 4) : State := { s with cpsr := setField s.cpsr 16 g }

/-- A result with the carry and the overflow of its addition. -/
structure Sum where
  result : Word
  carry  : Bool
  overflow : Bool
deriving DecidableEq, Repr

/-- `AddWithCarry` (40_dataproc.md R902). -/
def addWithCarry (x y : Word) (cin : Bool) : Sum :=
  let usum := x.toNat + y.toNat + cin.toNat
  let ssum := x.toInt + y.toInt + (cin.toNat : Int)
  { result := BitVec.ofNat 32 usum, carry := decide (2 ^ 32 ≤ usum),
    overflow := decide (ssum < -2 ^ 31) || decide (2 ^ 31 ≤ ssum) }

/-- The flags of a sum. -/
def Sum.flags (r : Sum) : Nzcv := { n := r.result.msb, z := r.result == 0, c := r.carry, v := r.overflow }

/-- The flags of a logical result with shifter carry-out `c`; V is kept. -/
def logicFlags (w : Word) (c v : Bool) : Nzcv := { n := w.msb, z := w == 0, c := c, v := v }

/-- Saturate an integer to a signed range of `n` bits: the value and whether it saturated (41_multiply_dsp.md R1040,
42_media_simd.md R1170). -/
def signedSat (i : Int) (n : Nat) : Int × Bool :=
  if i > 2 ^ (n - 1) - 1 then (2 ^ (n - 1) - 1, true)
  else if i < -2 ^ (n - 1) then (-2 ^ (n - 1), true)
  else (i, false)

/-- Saturate an integer to an unsigned range of `n` bits. -/
def unsignedSat (i : Int) (n : Nat) : Int × Bool :=
  if i > 2 ^ n - 1 then (2 ^ n - 1, true) else if i < 0 then (0, true) else (i, false)

end Sys2Proof.Machine
end

