-- ==== Sys2Proof/Machine/Operands.lean ====
section
/-!
DEFINITION. The operand forms: shifts and Operand2 (30_encoding.md R836, R837), addressing modes 2, 3 and 4
(44_loadstore.md R1262 to R1265, 45_ldm_excl_swp.md R1360), and the loads and stores of one item they lead to
(44_loadstore.md R1261).
-/
namespace Sys2Proof.Machine

/-! ### Shifts -/

/-- The shift of a type by an amount, with its carry-out; an amount of 0 leaves the value and the carry
(30_encoding.md R836, R837). -/
def shiftC (type : BitVec 2) (x : Word) (n : Nat) (c : Bool) : Word × Bool :=
  if n = 0 then (x, c)
  else if type = 0b00 then (x <<< n, decide (n ≤ 32) && x.getLsbD (32 - n))
  else if type = 0b01 then (x >>> n, decide (n ≤ 32) && x.getLsbD (n - 1))
  else if type = 0b10 then (x.sshiftRight n, if n ≤ 32 then x.getLsbD (n - 1) else x.msb)
  else
    let r := x.rotateRight (n % 32)
    (r, r.msb)

/-- RRX (30_encoding.md R836). -/
def rrxC (x : Word) (c : Bool) : Word × Bool := (setBit (x >>> 1) 31 c, x.getLsbD 0)

/-- The shift of an immediate amount field: 0 means 32 for LSR and ASR, and RRX for ROR (30_encoding.md R837). -/
def immShiftC (type : BitVec 2) (x : Word) (imm5 : BitVec 5) (c : Bool) : Word × Bool :=
  if imm5 = 0 then
    if type = 0b00 then (x, c) else if type = 0b11 then rrxC x c else shiftC type x 32 c
  else shiftC type x imm5.toNat c

/-- `<immed_8r>` (30_encoding.md R838). -/
def rotatedImm (rot : BitVec 4) (imm8 : BitVec 8) : Word := (imm8.setWidth 32).rotateRight (2 * rot.toNat)

/-- The second operand of a data-processing instruction (30_encoding.md R837). -/
inductive Operand2 where
  | imm (rot : BitVec 4) (imm8 : BitVec 8)
  | shifted (imm5 : BitVec 5) (type : BitVec 2) (rm : BitVec 4)
  | shiftedByReg (rs : BitVec 4) (type : BitVec 2) (rm : BitVec 4)
deriving DecidableEq, Repr

/-- `(op2, sco)` (30_encoding.md R837). -/
def operand2 (o : Operand2) : M (Word × Bool) := do
  let c := (← get).flagC
  match o with
  | .imm rot imm8 =>
    let v := rotatedImm rot imm8
    pure (v, if rot = 0 then c else v.msb)
  | .shifted imm5 type rm =>
    let x ← readReg rm
    pure (immShiftC type x imm5 c)
  | .shiftedByReg rs type rm =>
    let x ← readReg rm
    let n ← readReg rs
    pure (shiftC type x (n.extractLsb' 0 8).toNat c)

/-! ### Addressing modes 2 and 3 -/

/-- The offset of an address: an immediate, or a register with the shift of mode 2 (44_loadstore.md R1262, R1263,
R1265). -/
inductive Offset where
  | imm (v : Word)
  | reg (imm5 : BitVec 5) (type : BitVec 2) (rm : BitVec 4)
deriving DecidableEq, Repr

/-- The register of an offset is R15 (44_loadstore.md R1264, R1265). -/
def Offset.isPc : Offset → Bool
  | .imm _ => false
  | .reg _ _ rm => rm == 15

/-- The register of an offset is `r`. -/
def Offset.usesReg (o : Offset) (r : BitVec 4) : Bool :=
  match o with
  | .imm _ => false
  | .reg _ _ rm => rm == r

/-- The 8-bit offset of mode 3 (44_loadstore.md R1265). -/
def offset8 (immH immL : BitVec 4) : Offset := .imm ((immH ++ immL).setWidth 32)

/-- The value of an offset; its shift gives no carry out (44_loadstore.md R1263). -/
def offsetValue (o : Offset) : M Word := do
  match o with
  | .imm v => pure v
  | .reg imm5 type rm =>
    let c := (← get).flagC
    let x ← readReg rm
    pure (immShiftC type x imm5 c).1

/-- P, U and W of an addressing mode. -/
structure Index where
  p : Bool
  u : Bool
  w : Bool
deriving DecidableEq, Repr

/-- Does the form write its base back (44_loadstore.md R1262)? -/
def Index.writesBack (x : Index) : Bool := !x.p || x.w

/-- The address of an access and the new base, if it is written back. -/
structure Addressed where
  addr : Word
  wb   : Option Word
deriving DecidableEq, Repr

/-- The address of a base and an offset (44_loadstore.md R1262, R1265). -/
def Index.address (x : Index) (base offset : Word) : Addressed :=
  let offaddr := if x.u then base + offset else base - offset
  { addr := if x.p then offaddr else base, wb := if x.writesBack then some offaddr else none }

/-- `AddressMode(...)`. -/
def addressMode (x : Index) (rn : BitVec 4) (o : Offset) : M Addressed := do
  let base ← readReg rn
  let offset ← offsetValue o
  pure (x.address base offset)

/-- Write the base back. -/
def writeBack (rn : BitVec 4) (a : Addressed) : M Unit :=
  match a.wb with
  | some v => writeReg rn v
  | none => pure ()

/-- The combinations of mode 2 and mode 3 that are Unpredictable for every transfer (44_loadstore.md R1264, R1265). -/
def Index.unpredictable (x : Index) (rn rd : BitVec 4) (o : Offset) : Bool :=
  o.isPc || (x.writesBack && (rn == 15 || rn == rd))

/-! ### One load, one store -/

/-- A data access of the core at its own or at User privilege. -/
def State.accessMode (s : State) (a : Aligned) (user precise : Bool) : Mode1 :=
  { priv := s.privileged && !user, precise := precise, unaligned := a.unaligned, base := none }

/-- Load an item of `n` bytes, zero-extended; a word at an unaligned address under A = U = 0 is rotated
(20_memory.md R543). -/
def loadItem (t : AccessType) (n : Nat) (user precise : Bool) (va : Word) : M Word := do
  let a ← orAbort (← checkAlignment t va false)
  let s ← get
  let w ← orAbort (← readItem (s.accessMode a user precise) a.va n)
  pure (if t = .wordLoad && !a.unaligned then w.rotateRight (8 * (va.extractLsb' 0 2).toNat) else w)

/-- Load the word that goes to the PC (20_memory.md R543(b)): an unaligned access is an Alignment fault, and with A = U = 0 the
load does what the Note column of Table 4-3 says of a word load (R543(a), U25; log 24). -/
def loadPcWord (va : Word) : M Word := do
  let a ← orAbort (← checkAlignment .wordLoad va false)
  let s ← get
  if a.unaligned then takeDataAbort (alignmentAbort (s.cp15.mva s.nonSecure va) false)
  else loadItem .wordLoad 4 false true va

/-- Store an item of `n` bytes. -/
def storeItem (t : AccessType) (n : Nat) (user : Bool) (va v : Word) : M Unit := do
  let a ← orAbort (← checkAlignment t va true)
  let s ← get
  orAbort (← writeItem (s.accessMode a user false) a.va n v)

/-- A load of one register other than R15 (44_loadstore.md R1261): the base is written back, then the register. -/
def loadRegister (t : AccessType) (n : Nat) (user : Bool) (ext : Word → Word) (x : Index) (rn rd : BitVec 4)
    (o : Offset) : M Unit := do
  unpredictableIf (x.unpredictable rn rd o || rd == 15)
  let a ← addressMode x rn o
  let w ← loadItem t n user false a.addr
  writeBack rn a
  writeReg rd (ext w)
  advance

/-- A store of one register other than R15 (44_loadstore.md R1261). -/
def storeRegister (t : AccessType) (n : Nat) (user : Bool) (x : Index) (rn rd : BitVec 4) (o : Offset) : M Unit := do
  unpredictableIf (x.unpredictable rn rd o || rd == 15)
  let a ← addressMode x rn o
  let v ← readReg rd
  storeItem t n user a.addr v
  writeBack rn a
  advance

/-- Sign-extend the bottom byte (20_memory.md R550). -/
def signByte (w : Word) : Word := (w.extractLsb' 0 8).signExtend 32

/-- Sign-extend the bottom halfword (20_memory.md R551). -/
def signHalf (w : Word) : Word := (w.extractLsb' 0 16).signExtend 32

/-- The value a store of R15 stores (44_loadstore.md R1290, U53); in Debug state the PC as it reads
(61_debug.md R1775). -/
def storedPc : M Word := do
  let s ← get
  if s.inDebug then readPc else pure (s.pc + Config.storePcOffset)

/-- A register as a store transfers it. -/
def storedReg (n : BitVec 4) : M Word := if n = 15 then storedPc else readReg n

/-! ### Several words (45_ldm_excl_swp.md R1360, R1361) -/

/-- The register numbers of a list, ascending. -/
def listRegs (l : BitVec 16) : List (BitVec 4) :=
  (List.range 16).filterMap fun k => if l.getLsbD k then some (BitVec.ofNat 4 k) else none

/-- Addressing mode 4 for `n` words (45_ldm_excl_swp.md R1360): the lowest address, and the new base. -/
def mode4 (p u : Bool) (n : Nat) (base : Word) : Word × Word :=
  let size := BitVec.ofNat 32 (4 * n)
  if u then (if p then base + 4 else base, base + size)
  else (if p then base - size else base - size + 4, base - size)

/-- How a multi-word transfer is accessed: every word reports the first address (21_mmu.md R667). -/
def State.multiMode (s : State) (start : Word) (precise : Bool) : Mode1 :=
  { priv := s.privileged, precise := precise, unaligned := false, base := some start }

/-- What a multi-word load gave: the words loaded, in order, and the abort that ended it, if any. -/
structure Loaded where
  words : List Word
  abort : Option DataAbort
deriving DecidableEq, Repr

/-- Load `n` words at ascending addresses, up to the first abort. -/
def loadWords (m : Mode1) : Word → Nat → M Loaded
  | _, 0 => pure { words := [], abort := none }
  | va, n + 1 => do
    match ← readItem m va 4 with
    | .error a => pure { words := [], abort := some a }
    | .ok w =>
      let r ← loadWords m (va + 4) n
      pure { r with words := w :: r.words }

/-- Store words at ascending addresses, up to the first abort. -/
def storeWords (m : Mode1) : Word → List Word → M Unit
  | _, [] => pure ()
  | va, w :: ws => do
    orAbort (← writeItem m va 4 w)
    storeWords m (va + 4) ws

/-- A register that an aborted transfer had loaded holds its old or its loaded value (U50; log 17). -/
def loadedOrOld (old new : Word) : M Word := do
  let w ← draw
  pure (if w.getLsbD 0 then new else old)

end Sys2Proof.Machine
end

