-- ==== Sys2Proof/Machine/DebugEvents.lean ====
section
/-!
DEFINITION. What a debug event does (61_debug.md R1758 to R1763) and the entry to Debug state (R1770).
-/
namespace Sys2Proof.Machine

/-- The software debug events and the two requests, with their method-of-entry codes (61_debug.md R1727, R1770). -/
inductive DebugCause where
  | halt
  | breakpoint
  | watchpoint
  | bkpt
  | request
  | vectorCatch
deriving DecidableEq, Repr

/-- DSCR[5:2] of a cause (61_debug.md R1770). -/
def DebugCause.moe : DebugCause → BitVec 4
  | .halt => 0b0000
  | .breakpoint => 0b0001
  | .watchpoint => 0b0010
  | .bkpt => 0b0011
  | .request => 0b0100
  | .vectorCatch => 0b0101

/-- The state with DSCR[5:2] written. -/
def State.setMoe (s : State) (c : DebugCause) : State :=
  { s with dbg := { s.dbg with dscr := setField s.dbg.dscr 2 c.moe } }

/-- Entry to Debug state (61_debug.md R1770): the PC is the address where execution resumes. A Halt request that was
pending is over. -/
def State.enterDebug (s : State) (c : DebugCause) : State :=
  let s := s.setMoe c
  { s with
    activity := .debug
    dbg := { s.dbg with dbgPc := s.pc + (if s.bitT then 4 else 8), dbgPcValid := true, dbgPcWritten := false }
    tap := { s.tap with haltReq := false } }

/-- The Prefetch Abort that stands for a debug event (61_debug.md R1760, R1762, R1763): IFSR records it, IFAR does not. -/
def State.debugPrefetchAbort (s : State) : State :=
  (s.setIfsr (s.faultNs false) 0x002).takeException .pabt (s.pc + 4) false

/-- A breakpoint or vector catch that is permitted and not ignored (61_debug.md R1758); none where it is ignored. -/
def State.codeEvent (s : State) (c : DebugCause) : Option State :=
  if !s.debugPermitted then none
  else
    match s.dbgMode with
    | .halting => some (s.enterDebug c)
    | .monitor => some (s.setMoe c).debugPrefetchAbort
    | .none => none
    | .disabled => none

/-- BKPT (61_debug.md R1755, R1758, R1763): it is never ignored but in Debug state (R1777). -/
def State.softwareBreakpoint (s : State) : State :=
  if s.inDebug then s else (s.codeEvent .bkpt).getD s.debugPrefetchAbort

/-- A watchpoint event recorded by the instruction just completed (61_debug.md R1758, R1760, R1761, R1770); the PC is the
address where execution resumes. -/
def State.watchEvent (s : State) (h : WatchHit) : Option State :=
  if !h.permitted then none
  else
    let wfar (s : State) : State := { s with dbg := { s.dbg with wfar := h.wfar } }
    match s.dbgMode with
    | .halting => some ((wfar s).enterDebug .watchpoint)
    | .monitor =>
      some ((((wfar s).setMoe .watchpoint).setDataFault (s.faultNs false)
        (fsrValue 0b00010 h.domain h.write false) h.far).takeException .dabt (s.pc + 8) false)
    | .none => none
    | .disabled => none

end Sys2Proof.Machine
end

