-- ==== Sys2Proof/Machine/Cp14.lean ====
section
/-!
DEFINITION. CP14, the debug registers: the map and who may use it (61_debug.md R1720 to R1724), the registers (R1725 to
R1746), the ETM space (62_platform.md R1903).
-/
namespace Sys2Proof.Machine

/-- The registers of CP14 (61_debug.md R1721). -/
inductive Cp14Reg where
  | didr
  | dscr
  | dtr
  | wfar
  | vcr
  | dsccr
  | dsmcr
  | bvr (k : Fin 6)
  | bcr (k : Fin 6)
  | wvr (k : Fin 2)
  | wcr (k : Fin 2)
  /-- The ETM register space, with no ETM attached (62_platform.md R1903; log 39). -/
  | etm
deriving DecidableEq, Repr

/-- The register of a number {Opcode_2, CRm} (61_debug.md R1720, R1721). -/
def Cp14Reg.ofNumber (op2 : BitVec 3) (crm : BitVec 4) : Option Cp14Reg :=
  let m := crm.toNat
  let six (f : Fin 6 → Cp14Reg) : Option Cp14Reg := if h : m < 6 then some (f ⟨m, h⟩) else none
  let two (f : Fin 2 → Cp14Reg) : Option Cp14Reg := if h : m < 2 then some (f ⟨m, h⟩) else none
  match op2.toNat with
  | 0 =>
    match m with
    | 0 => some .didr
    | 1 => some .dscr
    | 5 => some .dtr
    | 6 => some .wfar
    | 7 => some .vcr
    | 10 => some .dsccr
    | 11 => some .dsmcr
    | _ => none
  | 4 => six .bvr
  | 5 => six .bcr
  | 6 => two .wvr
  | 7 => two .wcr
  | _ => none

/-- The register an MCR or MRC selects; none is Undefined (61_debug.md R1720, R1722). -/
def Cp14Reg.select (op1 : BitVec 3) (crn crm : BitVec 4) (op2 : BitVec 3) : Option Cp14Reg :=
  if crn ≠ 0 then none
  else if op1 = 0 then Cp14Reg.ofNumber op2 crm
  else if op1 = 1 then some .etm
  else none

/-- Who may execute the access (61_debug.md R1723). -/
def Cp14Reg.allowed (s : State) (write : Bool) (r : Cp14Reg) : Bool :=
  let channel := match r with
    | .didr => !write
    | .dscr => !write
    | .dtr => true
    | _ => false
  if r == .didr && write then false
  else if s.inDebug then true
  else if !s.privileged then channel && !s.dbg.dscr.getLsbD 12
  else channel || r == .dscr || r == .etm || s.dbgMode == .monitor

/-- The DSCR as it reads (61_debug.md R1726, R1727); with DBGEN LOW the mode bits read 0 (R1710). -/
def State.dscrValue (s : State) : Word :=
  let w := if s.pins.dbgen then s.dbg.dscr else s.dbg.dscr &&& 0xFFFF3FFF
  setBit (setBit (setBit (setBit w 18 s.nonSecure) 17 (!s.pins.spniden)) 16 (!s.pins.spiden)) 0 s.inDebug

/-- The DIDR (61_debug.md R1725). -/
def didrValue : Word := 0x15121000 + Config.minorRev.setWidth 32

/-- The implemented bits of a BVR (61_debug.md R1738). -/
def bvrMask (k : Fin 6) : Word := if 4 ≤ k.val then 0xFFFFFFFF else 0xFFFFFFFC

/-- The implemented bits of a BCR (61_debug.md R1739): bit 21 only where context IDs can be compared. -/
def bcrMask (k : Fin 6) : Word := if 4 ≤ k.val then 0x007FC1E7 else 0x005FC1E7

/-- The implemented bits of a WVR (61_debug.md R1742). -/
def wvrMask : Word := 0xFFFFFFFC

/-- The implemented bits of a WCR (61_debug.md R1743). -/
def wcrMask : Word := 0x001FC1FF

/-- The implemented bits of the VCR (61_debug.md R1736). -/
def vcrMask : Word := 0xDE00DCDF

/-- What an allowed MRC returns. -/
def State.cp14Value (s : State) : Cp14Reg → Word
  | .didr => didrValue
  | .dscr => s.dscrValue
  | .dtr => s.dbg.rdtr
  | .wfar => s.dbg.wfar
  | .vcr => s.dbg.vcr
  | .dsccr => s.dbg.dsccr.setWidth 32
  | .dsmcr => s.dbg.dsmcr.setWidth 32
  | .bvr k => s.dbg.bvr[k]
  | .bcr k => s.dbg.bcr[k]
  | .wvr k => s.dbg.wvr[k]
  | .wcr k => s.dbg.wcr[k]
  | .etm => 0

/-- The state after a read of the rDTR by the core: DSCR[30] is cleared (61_debug.md R1730). -/
def State.rdtrRead (s : State) : State := s.setDscrBit 30 false

/-- The state after a write of the wDTR by the core: DSCR[29] is set (61_debug.md R1730). -/
def State.wdtrWrite (s : State) (v : Word) : State :=
  { s with dbg := { s.dbg with wdtr := v } }.setDscrBit 29 true

/-- The state after a write of a debug register other than the DSCR and the DTR, by the core or through scan chain 7. -/
def State.debugWrite (s : State) (r : Cp14Reg) (v : Word) : State :=
  let d := s.dbg
  match r with
  | .wfar => { s with dbg := { d with wfar := v } }
  | .vcr => { s with dbg := { d with vcr := v &&& vcrMask } }
  | .dsccr => { s with dbg := { d with dsccr := v.extractLsb' 0 3 } }
  | .dsmcr => { s with dbg := { d with dsmcr := v.extractLsb' 0 7 &&& 0b1011111 } }
  | .bvr k => { s with dbg := { d with bvr := d.bvr.set k (v &&& bvrMask k) } }
  | .bcr k => { s with dbg := { d with bcr := d.bcr.set k (v &&& bcrMask k) } }
  | .wvr k => { s with dbg := { d with wvr := d.wvr.set k (v &&& wvrMask) } }
  | .wcr k => { s with dbg := { d with wcr := d.wcr.set k (v &&& wcrMask) } }
  | _ => s

/-- The bits of the DSCR the core writes (61_debug.md R1726). -/
def dscrCoreMask : Word := 0x0000903C

/-- What an allowed MCR does. -/
def State.cp14Write (s : State) (r : Cp14Reg) (v : Word) : State :=
  match r with
  | .dscr => { s with dbg := { s.dbg with dscr := merge s.dbg.dscr v dscrCoreMask } }
  | .dtr => s.wdtrWrite v
  | r => s.debugWrite r v

/-- MRC from CP14: the register and its value, or Undefined (61_debug.md R1722, R1723). A read of the DTR empties it. -/
def readCp14 (op1 : BitVec 3) (crn crm : BitVec 4) (op2 : BitVec 3) : M (Cp14Reg × Word) := do
  let s ← get
  match Cp14Reg.select op1 crn crm op2 with
  | none => raiseUndefined
  | some r => do
    undefinedIf (!r.allowed s false)
    let v := s.cp14Value r
    if r == .dtr then modify State.rdtrRead
    pure (r, v)

/-- MCR to CP14 (61_debug.md R1722, R1723): from R15 it is Undefined. -/
def writeCp14 (op1 : BitVec 3) (crn crm : BitVec 4) (op2 : BitVec 3) (rd : BitVec 4) : M Unit := do
  let s ← get
  match Cp14Reg.select op1 crn crm op2 with
  | none => raiseUndefined
  | some r => do
    undefinedIf (!r.allowed s true || rd == 15)
    modify fun s => s.cp14Write r (s.reg rd)

end Sys2Proof.Machine
end

