-- ==== Sys2Proof/Machine/Branch.lean ====
section
/-!
DEFINITION. The ARM branches and the access to the program status registers (43_branch_status.md).
-/
namespace Sys2Proof.Machine

/-! ### Branches -/

/-- The byte offset of a 24-bit branch field (43_branch_status.md R1210). -/
def branchOffset (imm24 : BitVec 24) : Word := imm24.signExtend 32 <<< 2

/-- `PC + 4`, the return address of an ARM branch with link, from the PC as it reads (10_state.md R56). -/
def linkAddress (pcRead : Word) : Word := pcRead - 4

/-- B (43_branch_status.md R1210). -/
def execB (cond : Cond) (imm24 : BitVec 24) (s : State) : Result :=
  conditionalBranch cond (do
    let pc ← readPc
    branchTo (pc + branchOffset imm24)) s

/-- BL (43_branch_status.md R1211). -/
def execBl (cond : Cond) (imm24 : BitVec 24) (s : State) : Result :=
  conditionalBranch cond (do
    let pc ← readPc
    writeReg 14 (linkAddress pc)
    branchTo (pc + branchOffset imm24)) s

/-- The should-be-one fields of BX, BLX and BXJ (30_encoding.md R861). -/
def branchSbo (a b c : BitVec 4) : M Unit := shouldBe (a == 15 && b == 15 && c == 15)

/-- BX (43_branch_status.md R1212). -/
def execBx (cond : Cond) (sbo sbo2 sbo3 rm : BitVec 4) (s : State) : Result :=
  conditionalBranch cond (do
    branchSbo sbo sbo2 sbo3
    let v ← readReg rm
    bxWritePc v) s

/-- BLX (label) (43_branch_status.md R1213). -/
def execBlxLabel (hBit : Bool) (imm24 : BitVec 24) (s : State) : Result :=
  always (do
    let pc ← readPc
    writeReg 14 (linkAddress pc)
    modify fun s => s.setT true
    branchTo (pc + branchOffset imm24 + (if hBit then 2 else 0))) s

/-- BLX (register) (43_branch_status.md R1214). -/
def execBlxReg (cond : Cond) (sbo sbo2 sbo3 rm : BitVec 4) (s : State) : Result :=
  conditionalBranch cond (do
    branchSbo sbo sbo2 sbo3
    unpredictableIf (rm == 15)
    let v ← readReg rm
    let pc ← readPc
    writeReg 14 (linkAddress pc)
    bxWritePc v) s

/-- BXJ (43_branch_status.md R1215, D54; log 20). -/
def execBxj (cond : Cond) (sbo sbo2 sbo3 rm : BitVec 4) (s : State) : Result :=
  conditionalBranch cond (do
    branchSbo sbo sbo2 sbo3
    unpredictableIf (rm == 15)
    let v ← readReg rm
    bxWritePc v) s

/-! ### Program status registers -/

/-- MRS (43_branch_status.md R1220). -/
def execMrs (cond : Cond) (r : Bool) (sbo rd sbz sbz2 : BitVec 4) (s : State) : Result :=
  conditional cond (do
    shouldBe (sbo == 15 && sbz == 0 && sbz2 == 0)
    unpredictableIf (rd == 15)
    let v ← if r then readSpsr else (do pure (← get).cpsr)
    writeReg rd (v &&& psrAssigned)
    advance) s

/-- `bytemask` of R1221: the bytes an MSR writes. -/
def msrMask (mask : BitVec 4) : Word :=
  (if mask.getLsbD 0 then 0x000000FF else 0) ||| (if mask.getLsbD 1 then 0x0000FF00 else 0) |||
    (if mask.getLsbD 2 then 0x00FF0000 else 0) ||| (if mask.getLsbD 3 then 0xFF000000 else 0)

/-- MSR of an operand (43_branch_status.md R1221). In Debug state a write of the CPSR makes the PC unpredictable
(61_debug.md R1775). -/
def moveToStatus (r : Bool) (mask : BitVec 4) (operand : Word) : M Unit := do
  if r then
    let old ← readSpsr
    modify fun s => s.setSpsrOf s.mode (merge old operand (msrMask mask &&& psrAssigned))
  else
    writeCpsr .msr (msrMask mask) operand
    modify fun s => if s.inDebug then { s with dbg := { s.dbg with dbgPcValid := false, dbgPcWritten := false } } else s
  advance

/-- MSR, register (43_branch_status.md R1221). -/
def execMsrReg (cond : Cond) (r : Bool) (mask sbo sbz rm : BitVec 4) (s : State) : Result :=
  conditional cond (do
    shouldBe (sbo == 15 && sbz == 0)
    unpredictableIf (rm == 15)
    let v ← readReg rm
    moveToStatus r mask v) s

/-- MSR, immediate (43_branch_status.md R1221). -/
def execMsrImm (cond : Cond) (r : Bool) (mask sbo rot : BitVec 4) (imm8 : BitVec 8) (s : State) : Result :=
  conditional cond (do
    shouldBe (sbo == 15)
    moveToStatus r mask (rotatedImm rot imm8)) s

/-- The effect of CPS on the interrupt masks and the mode (43_branch_status.md R1230). In User mode there is none. -/
def changeState (imod : BitVec 2) (mmod aBit iBit fBit : Bool) (mode : BitVec 5) : M Unit := do
  let s ← get
  if s.privileged then
    let m := s.cpsrWriteMask .cps
    let v := imod.getLsbD 0
    let sel : Word := if imod.getLsbD 1 then
        (if aBit then 0x100 else 0) ||| (if iBit then 0x80 else 0) ||| (if fBit then 0x40 else 0)
      else 0
    let c := merge s.cpsr (if v then 0xFFFFFFFF else 0) (sel &&& m)
    if mmod then
      if s.monitorGuard .cps mode then set { s with cpsr := c }
      else if (Mode.ofBits mode).isSome then set { s with cpsr := setField c 0 mode }
      else refuse .unassignedMode
    else set { s with cpsr := c }

/-- CPS (43_branch_status.md R1230). -/
def execCps (imod : BitVec 2) (mmod : Bool) (sbz : BitVec 7) (aBit iBit fBit : Bool) (mode : BitVec 5)
    (s : State) : Result :=
  always (do
    shouldBe (sbz == 0)
    unpredictableIf (imod == 0b01 || (imod == 0b00 && (!mmod || aBit || iBit || fBit)) || (!mmod && mode != 0))
    changeState imod mmod aBit iBit fBit mode
    advance) s

/-- The state with CPSR.E written. -/
def State.setE (s : State) (e : Bool) : State := { s with cpsr := setBit s.cpsr 9 e }

/-- SETEND (43_branch_status.md R1231). -/
def execSetend (sbz : BitVec 3) (sbz2 : BitVec 6) (eBit sbz3 : Bool) (sbz4 : BitVec 4) (s : State) : Result :=
  always (do
    shouldBe (sbz == 0 && sbz2 == 0 && !sbz3 && sbz4 == 0)
    modify fun s => s.setE eBit
    advance) s

end Sys2Proof.Machine
end

