-- ==== Sys2Proof/Machine/Coproc.lean ====
section
/-!
DEFINITION. The coprocessor instructions, the hints, the exception-generating instructions and the ARM encodings the table
calls UNDEFINED (46_coproc_system.md). No external coprocessor is attached (00_scope.md R24, D16; log 39), so an instruction
for coprocessors 0 to 13 is Undefined.
-/
namespace Sys2Proof.Machine

/-! ### Register transfers -/

/-- MCR (46_coproc_system.md R1411, R1424). -/
def execMcr (cond : Cond) (opc1 : BitVec 3) (crn rd cp : BitVec 4) (opc2 : BitVec 3) (crm : BitVec 4)
    (s : State) : Result :=
  conditional cond (do
    if cp = 15 then writeCp15 opc1 crn crm opc2 rd
    else if cp = 14 then writeCp14 opc1 crn crm opc2 rd
    else raiseUndefined
    advance) s

/-- The flags of an MRC to R15: the top four bits of the value (46_coproc_system.md R1425). -/
def flagsOfWord (w : Word) : Nzcv :=
  { n := w.getLsbD 31, z := w.getLsbD 30, c := w.getLsbD 29, v := w.getLsbD 28 }

/-- Write the value of an MRC to CP14 to its destination: R15 takes the flags of the DSCR, and undefined flags from any
other register (61_debug.md R1724, U54; log 35). -/
def finishMrc14 (rd : BitVec 4) (r : Cp14Reg) (v : Word) : M Unit := do
  if rd = 15 then
    if r = .dscr then setFlags (flagsOfWord v)
    else do
      let w ← draw
      setFlags (flagsOfWord w)
  else writeReg rd v

/-- MRC (46_coproc_system.md R1411, R1425). -/
def execMrc (cond : Cond) (opc1 : BitVec 3) (crn rd cp : BitVec 4) (opc2 : BitVec 3) (crm : BitVec 4)
    (s : State) : Result :=
  conditional cond (do
    if cp = 15 then
      let v ← readCp15 opc1 crn crm opc2
      if rd = 15 then setFlags (flagsOfWord v) else writeReg rd v
    else if cp = 14 then
      let (r, v) ← readCp14 opc1 crn crm opc2
      finishMrc14 rd r v
    else raiseUndefined
    advance) s

/-- MCRR (46_coproc_system.md R1411, R1426). -/
def execMcrr (cond : Cond) (rn rd cp opc crm : BitVec 4) (s : State) : Result :=
  conditional cond (do
    if cp = 15 then writeCp15Range opc crm rd rn else raiseUndefined
    advance) s

/-- MRRC (46_coproc_system.md R1411, R1427): Undefined for every coprocessor of this processor. -/
def execMrrc (cond : Cond) (_rn _rd _cp _opc _crm : BitVec 4) (s : State) : Result :=
  conditional cond raiseUndefined s

/-- CDP (46_coproc_system.md R1411, R1428): Undefined for every coprocessor of this processor. -/
def execCdp (cond : Cond) (_opc1 _crn _crd _cp : BitVec 4) (_opc2 : BitVec 3) (_crm : BitVec 4) (s : State) : Result :=
  conditional cond raiseUndefined s

/-! ### Loads and stores -/

/-- Addressing mode 5 (46_coproc_system.md R1430). -/
def mode5 (x : Index) (base : Word) (imm8 : BitVec 8) : Addressed :=
  let offset : Word := imm8.setWidth 32 <<< 2
  let offaddr := if x.u then base + offset else base - offset
  { addr := if x.p then offaddr else base, wb := if x.w then some offaddr else none }

/-- The DTR is the only register an LDC or STC reaches, with the permission of a DTR access (61_debug.md R1722, R1732). -/
def dtrOnly (cp crd : BitVec 4) : M Unit := do
  let s ← get
  undefinedIf (!(cp == 14 && crd == 5 && Cp14Reg.dtr.allowed s true))

/-- LDC (46_coproc_system.md R1430, 61_debug.md R1732): memory to the wDTR. -/
def execLdc (cond : Cond) (p u _nBit w : Bool) (rn crd cp : BitVec 4) (imm8 : BitVec 8) (s : State) : Result :=
  conditional cond (do
    dtrOnly cp crd
    unpredictableIf (rn == 15 && w)
    let base ← readReg rn
    let a := mode5 ⟨p, u, w⟩ base imm8
    let v ← loadItem .multi 4 false false a.addr
    modify fun s => s.wdtrWrite v
    writeBack rn a
    advance) s

/-- STC (46_coproc_system.md R1430, 61_debug.md R1732): the rDTR to memory. The DTR is emptied when the word is stored. -/
def execStc (cond : Cond) (p u _nBit w : Bool) (rn crd cp : BitVec 4) (imm8 : BitVec 8) (s : State) : Result :=
  conditional cond (do
    dtrOnly cp crd
    unpredictableIf (rn == 15 && w)
    let base ← readReg rn
    let a := mode5 ⟨p, u, w⟩ base imm8
    let v := (← get).dbg.rdtr
    storeItem .multi 4 false a.addr v
    modify State.rdtrRead
    writeBack rn a
    advance) s

/-! ### The alternative forms: Undefined for every coprocessor of this processor (46_coproc_system.md R1411, R1435) -/

/-- MCR2. -/
def execMcr2 (_opc1 : BitVec 3) (_crn _rd _cp : BitVec 4) (_opc2 : BitVec 3) (_crm : BitVec 4) (s : State) : Result :=
  always raiseUndefined s

/-- MRC2. -/
def execMrc2 (_opc1 : BitVec 3) (_crn _rd _cp : BitVec 4) (_opc2 : BitVec 3) (_crm : BitVec 4) (s : State) : Result :=
  always raiseUndefined s

/-- MCRR2. -/
def execMcrr2 (_rn _rd _cp _opc _crm : BitVec 4) (s : State) : Result := always raiseUndefined s

/-- MRRC2. -/
def execMrrc2 (_rn _rd _cp _opc _crm : BitVec 4) (s : State) : Result := always raiseUndefined s

/-- CDP2. -/
def execCdp2 (_opc1 _crn _crd _cp : BitVec 4) (_opc2 : BitVec 3) (_crm : BitVec 4) (s : State) : Result :=
  always raiseUndefined s

/-- LDC2. -/
def execLdc2 (_p _u _nBit _w : Bool) (_rn _crd _cp : BitVec 4) (_imm8 : BitVec 8) (s : State) : Result :=
  always raiseUndefined s

/-- STC2. -/
def execStc2 (_p _u _nBit _w : Bool) (_rn _crd _cp : BitVec 4) (_imm8 : BitVec 8) (s : State) : Result :=
  always raiseUndefined s

/-! ### Hints -/

/-- A hint (46_coproc_system.md R1420): only the PC moves. -/
def hintOp (sbo sbz : BitVec 4) : M Unit := do
  shouldBe (sbo == 15 && sbz == 0)
  advance

/-- NOP (46_coproc_system.md R1420). -/
def execNop (cond : Cond) (sbo sbz : BitVec 4) (s : State) : Result := conditional cond (hintOp sbo sbz) s

/-- YIELD (46_coproc_system.md R1420): a NOP on a uniprocessor. -/
def execYield (cond : Cond) (sbo sbz : BitVec 4) (s : State) : Result := conditional cond (hintOp sbo sbz) s

/-- The reserved hints (46_coproc_system.md R1420): NOPs. -/
def execHint (cond : Cond) (sbo sbz : BitVec 4) (_num : BitVec 8) (s : State) : Result :=
  conditional cond (hintOp sbo sbz) s

/-! ### Exceptions -/

/-- SVC (46_coproc_system.md R1440, 60_exceptions.md R1614); in Debug state it is ignored (61_debug.md R1777). -/
def execSvc (cond : Cond) (_imm24 : BitVec 24) (s : State) : Result :=
  conditional cond (raise .svc State.nextInsn fun _ => false) s

/-- SMC (46_coproc_system.md R1441, 60_exceptions.md R1616): Undefined in User mode; in Debug state it is ignored
(61_debug.md R1777). -/
def execSmc (cond : Cond) (_imm12 : BitVec 12) (_imm4 : BitVec 4) (s : State) : Result :=
  conditional cond (do
    let s ← get
    undefinedIf (!s.privileged && !s.inDebug)
    raise .smc State.nextInsn fun _ => true) s

/-- BKPT (46_coproc_system.md R1442, 61_debug.md R1755, R1758): a condition other than AL is Unpredictable where it
passes (log 44). -/
def execBkpt (cond : Cond) (_imm12 : BitVec 12) (_imm4 : BitVec 4) (s : State) : Result :=
  conditional cond (do
    unpredictableIf (cond != .al)
    modify State.softwareBreakpoint) s

/-! ### The UNDEFINED rows of the opcode table (30_encoding.md R860, 46_coproc_system.md R1443) -/

/-- UNDEFINED in the unconditional space. -/
def execUndefined1 (_any : Bool) (_any2 : BitVec 20) (s : State) : Result := always raiseUndefined s

/-- UNDEFINED in the unconditional space. -/
def execUndefined2 (_any : BitVec 28) (s : State) : Result := always raiseUndefined s

/-- UNDEFINED. -/
def execUndefined3 (cond : Cond) (_any : BitVec 12) (_any2 : BitVec 4) (s : State) : Result :=
  conditional cond raiseUndefined s

/-- UNDEFINED. -/
def execUndefined4 (cond : Cond) (_any : Bool) (_any2 : BitVec 12) (_any3 : BitVec 4) (s : State) : Result :=
  conditional cond raiseUndefined s

/-- UNDEFINED. -/
def execUndefined5 (cond : Cond) (_any : BitVec 3) (_any2 : BitVec 12) (_any3 : BitVec 4) (s : State) : Result :=
  conditional cond raiseUndefined s

/-- UNDEFINED. -/
def execUndefined6 (cond : Cond) (_any : BitVec 2) (_any2 : BitVec 12) (_any3 : BitVec 3) (_any4 : BitVec 4)
    (s : State) : Result :=
  conditional cond raiseUndefined s

/-- UNDEFINED. -/
def execUndefined7 (cond : Cond) (_any : Bool) (_any2 : BitVec 20) (s : State) : Result :=
  conditional cond raiseUndefined s

/-- UNDEFINED. -/
def execUndefined8 (cond : Cond) (_any : BitVec 20) (_any2 : BitVec 4) (s : State) : Result :=
  conditional cond raiseUndefined s

/-- UNDEFINED. -/
def execUndefined9 (cond : Cond) (_any : Bool) (_any2 : BitVec 20) (s : State) : Result :=
  conditional cond raiseUndefined s

end Sys2Proof.Machine
end

