-- ==== Sys2Proof/Machine/DataProc.lean ====
section
/-!
DEFINITION. The ARM data-processing instructions (40_dataproc.md): the frame of R901, one rule for each opcode, CPY and CLZ.
-/
namespace Sys2Proof.Machine

/-- The opcodes of R901. -/
inductive AluOp where
  | and
  | eor
  | sub
  | rsb
  | add
  | adc
  | sbc
  | rsc
  | orr
  | mov
  | bic
  | mvn
deriving DecidableEq, Repr

/-- An opcode's rule (40_dataproc.md R910 to R935): the result and the flags from the first operand, the second operand,
the shifter carry-out and the flags before. -/
def AluOp.apply (op : AluOp) (a b : Word) (sco : Bool) (f : Nzcv) : Word × Nzcv :=
  let logic (w : Word) : Word × Nzcv := (w, logicFlags w sco f.v)
  let arith (r : Sum) : Word × Nzcv := (r.result, r.flags)
  match op with
  | .and => logic (a &&& b)
  | .eor => logic (a ^^^ b)
  | .sub => arith (addWithCarry a (~~~b) true)
  | .rsb => arith (addWithCarry (~~~a) b true)
  | .add => arith (addWithCarry a b false)
  | .adc => arith (addWithCarry a b f.c)
  | .sbc => arith (addWithCarry a (~~~b) f.c)
  | .rsc => arith (addWithCarry (~~~a) b f.c)
  | .orr => logic (a ||| b)
  | .mov => logic b
  | .bic => logic (a &&& ~~~b)
  | .mvn => logic (~~~b)

/-- R15 in a register-shift form is Unpredictable (40_dataproc.md R903). -/
def Operand2.regShiftPc (o : Operand2) (rn rd : BitVec 4) : Bool :=
  match o with
  | .shiftedByReg rs _ rm => rs == 15 || rm == 15 || rn == 15 || rd == 15
  | _ => false

/-- The frame of the opcodes that write a register (40_dataproc.md R901). -/
def dataProcessing (op : AluOp) (sBit : Bool) (rn rd : BitVec 4) (o : Operand2) : M Unit := do
  unpredictableIf (o.regShiftPc rn rd)
  let (b, sco) ← operand2 o
  let a ← readReg rn
  let r := op.apply a b sco (← get).nzcv
  if rd ≠ 15 then
    writeReg rd r.1
    if sBit then setFlags r.2
    advance
  else if !sBit then aluWritePc r.1
  else
    let psr ← readSpsr
    exceptionReturn r.1 psr

/-- The frame of the opcodes that only set the flags (40_dataproc.md R901). -/
def compare (op : AluOp) (rn : BitVec 4) (o : Operand2) : M Unit := do
  unpredictableIf (o.regShiftPc rn 0)
  let (b, sco) ← operand2 o
  let a ← readReg rn
  setFlags (op.apply a b sco (← get).nzcv).2
  advance

/-- MOV and MVN: Rn should be zero (40_dataproc.md R903). -/
def moveOp (op : AluOp) (sBit : Bool) (sbz rd : BitVec 4) (o : Operand2) : M Unit := do
  shouldBe (sbz == 0)
  dataProcessing op sBit 0 rd o

/-- TST, TEQ, CMP and CMN: Rd should be zero (40_dataproc.md R903). -/
def compareOp (op : AluOp) (rn sbz : BitVec 4) (o : Operand2) : M Unit := do
  shouldBe (sbz == 0)
  compare op rn o

/-- AND, immediate (40_dataproc.md R932). -/
def execAndImm (cond : Cond) (sBit : Bool) (rn : BitVec 4) (rd : BitVec 4) (rot : BitVec 4) (imm8 : BitVec 8)
    (s : State) : Result :=
  conditional cond (dataProcessing .and sBit rn rd (.imm rot imm8)) s

/-- AND, register, immediate shift (40_dataproc.md R932). -/
def execAndRegImm (cond : Cond) (sBit : Bool) (rn : BitVec 4) (rd : BitVec 4) (imm5 : BitVec 5) (shift : BitVec 2)
    (rm : BitVec 4) (s : State) : Result :=
  conditional cond (dataProcessing .and sBit rn rd (.shifted imm5 shift rm)) s

/-- AND, register, register shift (40_dataproc.md R932). -/
def execAndRegReg (cond : Cond) (sBit : Bool) (rn : BitVec 4) (rd : BitVec 4) (rs : BitVec 4) (shift : BitVec 2)
    (rm : BitVec 4) (s : State) : Result :=
  conditional cond (dataProcessing .and sBit rn rd (.shiftedByReg rs shift rm)) s

/-- EOR, immediate (40_dataproc.md R933). -/
def execEorImm (cond : Cond) (sBit : Bool) (rn : BitVec 4) (rd : BitVec 4) (rot : BitVec 4) (imm8 : BitVec 8)
    (s : State) : Result :=
  conditional cond (dataProcessing .eor sBit rn rd (.imm rot imm8)) s

/-- EOR, register, immediate shift (40_dataproc.md R933). -/
def execEorRegImm (cond : Cond) (sBit : Bool) (rn : BitVec 4) (rd : BitVec 4) (imm5 : BitVec 5) (shift : BitVec 2)
    (rm : BitVec 4) (s : State) : Result :=
  conditional cond (dataProcessing .eor sBit rn rd (.shifted imm5 shift rm)) s

/-- EOR, register, register shift (40_dataproc.md R933). -/
def execEorRegReg (cond : Cond) (sBit : Bool) (rn : BitVec 4) (rd : BitVec 4) (rs : BitVec 4) (shift : BitVec 2)
    (rm : BitVec 4) (s : State) : Result :=
  conditional cond (dataProcessing .eor sBit rn rd (.shiftedByReg rs shift rm)) s

/-- SUB, immediate (40_dataproc.md R912). -/
def execSubImm (cond : Cond) (sBit : Bool) (rn : BitVec 4) (rd : BitVec 4) (rot : BitVec 4) (imm8 : BitVec 8)
    (s : State) : Result :=
  conditional cond (dataProcessing .sub sBit rn rd (.imm rot imm8)) s

/-- SUB, register, immediate shift (40_dataproc.md R912). -/
def execSubRegImm (cond : Cond) (sBit : Bool) (rn : BitVec 4) (rd : BitVec 4) (imm5 : BitVec 5) (shift : BitVec 2)
    (rm : BitVec 4) (s : State) : Result :=
  conditional cond (dataProcessing .sub sBit rn rd (.shifted imm5 shift rm)) s

/-- SUB, register, register shift (40_dataproc.md R912). -/
def execSubRegReg (cond : Cond) (sBit : Bool) (rn : BitVec 4) (rd : BitVec 4) (rs : BitVec 4) (shift : BitVec 2)
    (rm : BitVec 4) (s : State) : Result :=
  conditional cond (dataProcessing .sub sBit rn rd (.shiftedByReg rs shift rm)) s

/-- RSB, immediate (40_dataproc.md R914). -/
def execRsbImm (cond : Cond) (sBit : Bool) (rn : BitVec 4) (rd : BitVec 4) (rot : BitVec 4) (imm8 : BitVec 8)
    (s : State) : Result :=
  conditional cond (dataProcessing .rsb sBit rn rd (.imm rot imm8)) s

/-- RSB, register, immediate shift (40_dataproc.md R914). -/
def execRsbRegImm (cond : Cond) (sBit : Bool) (rn : BitVec 4) (rd : BitVec 4) (imm5 : BitVec 5) (shift : BitVec 2)
    (rm : BitVec 4) (s : State) : Result :=
  conditional cond (dataProcessing .rsb sBit rn rd (.shifted imm5 shift rm)) s

/-- RSB, register, register shift (40_dataproc.md R914). -/
def execRsbRegReg (cond : Cond) (sBit : Bool) (rn : BitVec 4) (rd : BitVec 4) (rs : BitVec 4) (shift : BitVec 2)
    (rm : BitVec 4) (s : State) : Result :=
  conditional cond (dataProcessing .rsb sBit rn rd (.shiftedByReg rs shift rm)) s

/-- ADD, immediate (40_dataproc.md R910). -/
def execAddImm (cond : Cond) (sBit : Bool) (rn : BitVec 4) (rd : BitVec 4) (rot : BitVec 4) (imm8 : BitVec 8)
    (s : State) : Result :=
  conditional cond (dataProcessing .add sBit rn rd (.imm rot imm8)) s

/-- ADD, register, immediate shift (40_dataproc.md R910). -/
def execAddRegImm (cond : Cond) (sBit : Bool) (rn : BitVec 4) (rd : BitVec 4) (imm5 : BitVec 5) (shift : BitVec 2)
    (rm : BitVec 4) (s : State) : Result :=
  conditional cond (dataProcessing .add sBit rn rd (.shifted imm5 shift rm)) s

/-- ADD, register, register shift (40_dataproc.md R910). -/
def execAddRegReg (cond : Cond) (sBit : Bool) (rn : BitVec 4) (rd : BitVec 4) (rs : BitVec 4) (shift : BitVec 2)
    (rm : BitVec 4) (s : State) : Result :=
  conditional cond (dataProcessing .add sBit rn rd (.shiftedByReg rs shift rm)) s

/-- ADC, immediate (40_dataproc.md R911). -/
def execAdcImm (cond : Cond) (sBit : Bool) (rn : BitVec 4) (rd : BitVec 4) (rot : BitVec 4) (imm8 : BitVec 8)
    (s : State) : Result :=
  conditional cond (dataProcessing .adc sBit rn rd (.imm rot imm8)) s

/-- ADC, register, immediate shift (40_dataproc.md R911). -/
def execAdcRegImm (cond : Cond) (sBit : Bool) (rn : BitVec 4) (rd : BitVec 4) (imm5 : BitVec 5) (shift : BitVec 2)
    (rm : BitVec 4) (s : State) : Result :=
  conditional cond (dataProcessing .adc sBit rn rd (.shifted imm5 shift rm)) s

/-- ADC, register, register shift (40_dataproc.md R911). -/
def execAdcRegReg (cond : Cond) (sBit : Bool) (rn : BitVec 4) (rd : BitVec 4) (rs : BitVec 4) (shift : BitVec 2)
    (rm : BitVec 4) (s : State) : Result :=
  conditional cond (dataProcessing .adc sBit rn rd (.shiftedByReg rs shift rm)) s

/-- SBC, immediate (40_dataproc.md R913). -/
def execSbcImm (cond : Cond) (sBit : Bool) (rn : BitVec 4) (rd : BitVec 4) (rot : BitVec 4) (imm8 : BitVec 8)
    (s : State) : Result :=
  conditional cond (dataProcessing .sbc sBit rn rd (.imm rot imm8)) s

/-- SBC, register, immediate shift (40_dataproc.md R913). -/
def execSbcRegImm (cond : Cond) (sBit : Bool) (rn : BitVec 4) (rd : BitVec 4) (imm5 : BitVec 5) (shift : BitVec 2)
    (rm : BitVec 4) (s : State) : Result :=
  conditional cond (dataProcessing .sbc sBit rn rd (.shifted imm5 shift rm)) s

/-- SBC, register, register shift (40_dataproc.md R913). -/
def execSbcRegReg (cond : Cond) (sBit : Bool) (rn : BitVec 4) (rd : BitVec 4) (rs : BitVec 4) (shift : BitVec 2)
    (rm : BitVec 4) (s : State) : Result :=
  conditional cond (dataProcessing .sbc sBit rn rd (.shiftedByReg rs shift rm)) s

/-- RSC, immediate (40_dataproc.md R915). -/
def execRscImm (cond : Cond) (sBit : Bool) (rn : BitVec 4) (rd : BitVec 4) (rot : BitVec 4) (imm8 : BitVec 8)
    (s : State) : Result :=
  conditional cond (dataProcessing .rsc sBit rn rd (.imm rot imm8)) s

/-- RSC, register, immediate shift (40_dataproc.md R915). -/
def execRscRegImm (cond : Cond) (sBit : Bool) (rn : BitVec 4) (rd : BitVec 4) (imm5 : BitVec 5) (shift : BitVec 2)
    (rm : BitVec 4) (s : State) : Result :=
  conditional cond (dataProcessing .rsc sBit rn rd (.shifted imm5 shift rm)) s

/-- RSC, register, register shift (40_dataproc.md R915). -/
def execRscRegReg (cond : Cond) (sBit : Bool) (rn : BitVec 4) (rd : BitVec 4) (rs : BitVec 4) (shift : BitVec 2)
    (rm : BitVec 4) (s : State) : Result :=
  conditional cond (dataProcessing .rsc sBit rn rd (.shiftedByReg rs shift rm)) s

/-- TST, immediate (40_dataproc.md R922). -/
def execTstImm (cond : Cond) (rn : BitVec 4) (sbz : BitVec 4) (rot : BitVec 4) (imm8 : BitVec 8)
    (s : State) : Result :=
  conditional cond (compareOp .and rn sbz (.imm rot imm8)) s

/-- TST, register, immediate shift (40_dataproc.md R922). -/
def execTstRegImm (cond : Cond) (rn : BitVec 4) (sbz : BitVec 4) (imm5 : BitVec 5) (shift : BitVec 2)
    (rm : BitVec 4) (s : State) : Result :=
  conditional cond (compareOp .and rn sbz (.shifted imm5 shift rm)) s

/-- TST, register, register shift (40_dataproc.md R922). -/
def execTstRegReg (cond : Cond) (rn : BitVec 4) (sbz : BitVec 4) (rs : BitVec 4) (shift : BitVec 2) (rm : BitVec 4)
    (s : State) : Result :=
  conditional cond (compareOp .and rn sbz (.shiftedByReg rs shift rm)) s

/-- TEQ, immediate (40_dataproc.md R923). -/
def execTeqImm (cond : Cond) (rn : BitVec 4) (sbz : BitVec 4) (rot : BitVec 4) (imm8 : BitVec 8)
    (s : State) : Result :=
  conditional cond (compareOp .eor rn sbz (.imm rot imm8)) s

/-- TEQ, register, immediate shift (40_dataproc.md R923). -/
def execTeqRegImm (cond : Cond) (rn : BitVec 4) (sbz : BitVec 4) (imm5 : BitVec 5) (shift : BitVec 2)
    (rm : BitVec 4) (s : State) : Result :=
  conditional cond (compareOp .eor rn sbz (.shifted imm5 shift rm)) s

/-- TEQ, register, register shift (40_dataproc.md R923). -/
def execTeqRegReg (cond : Cond) (rn : BitVec 4) (sbz : BitVec 4) (rs : BitVec 4) (shift : BitVec 2) (rm : BitVec 4)
    (s : State) : Result :=
  conditional cond (compareOp .eor rn sbz (.shiftedByReg rs shift rm)) s

/-- CMP, immediate (40_dataproc.md R920). -/
def execCmpImm (cond : Cond) (rn : BitVec 4) (sbz : BitVec 4) (rot : BitVec 4) (imm8 : BitVec 8)
    (s : State) : Result :=
  conditional cond (compareOp .sub rn sbz (.imm rot imm8)) s

/-- CMP, register, immediate shift (40_dataproc.md R920). -/
def execCmpRegImm (cond : Cond) (rn : BitVec 4) (sbz : BitVec 4) (imm5 : BitVec 5) (shift : BitVec 2)
    (rm : BitVec 4) (s : State) : Result :=
  conditional cond (compareOp .sub rn sbz (.shifted imm5 shift rm)) s

/-- CMP, register, register shift (40_dataproc.md R920). -/
def execCmpRegReg (cond : Cond) (rn : BitVec 4) (sbz : BitVec 4) (rs : BitVec 4) (shift : BitVec 2) (rm : BitVec 4)
    (s : State) : Result :=
  conditional cond (compareOp .sub rn sbz (.shiftedByReg rs shift rm)) s

/-- CMN, immediate (40_dataproc.md R921). -/
def execCmnImm (cond : Cond) (rn : BitVec 4) (sbz : BitVec 4) (rot : BitVec 4) (imm8 : BitVec 8)
    (s : State) : Result :=
  conditional cond (compareOp .add rn sbz (.imm rot imm8)) s

/-- CMN, register, immediate shift (40_dataproc.md R921). -/
def execCmnRegImm (cond : Cond) (rn : BitVec 4) (sbz : BitVec 4) (imm5 : BitVec 5) (shift : BitVec 2)
    (rm : BitVec 4) (s : State) : Result :=
  conditional cond (compareOp .add rn sbz (.shifted imm5 shift rm)) s

/-- CMN, register, register shift (40_dataproc.md R921). -/
def execCmnRegReg (cond : Cond) (rn : BitVec 4) (sbz : BitVec 4) (rs : BitVec 4) (shift : BitVec 2) (rm : BitVec 4)
    (s : State) : Result :=
  conditional cond (compareOp .add rn sbz (.shiftedByReg rs shift rm)) s

/-- ORR, immediate (40_dataproc.md R934). -/
def execOrrImm (cond : Cond) (sBit : Bool) (rn : BitVec 4) (rd : BitVec 4) (rot : BitVec 4) (imm8 : BitVec 8)
    (s : State) : Result :=
  conditional cond (dataProcessing .orr sBit rn rd (.imm rot imm8)) s

/-- ORR, register, immediate shift (40_dataproc.md R934). -/
def execOrrRegImm (cond : Cond) (sBit : Bool) (rn : BitVec 4) (rd : BitVec 4) (imm5 : BitVec 5) (shift : BitVec 2)
    (rm : BitVec 4) (s : State) : Result :=
  conditional cond (dataProcessing .orr sBit rn rd (.shifted imm5 shift rm)) s

/-- ORR, register, register shift (40_dataproc.md R934). -/
def execOrrRegReg (cond : Cond) (sBit : Bool) (rn : BitVec 4) (rd : BitVec 4) (rs : BitVec 4) (shift : BitVec 2)
    (rm : BitVec 4) (s : State) : Result :=
  conditional cond (dataProcessing .orr sBit rn rd (.shiftedByReg rs shift rm)) s

/-- MOV, immediate (40_dataproc.md R930). -/
def execMovImm (cond : Cond) (sBit : Bool) (sbz : BitVec 4) (rd : BitVec 4) (rot : BitVec 4) (imm8 : BitVec 8)
    (s : State) : Result :=
  conditional cond (moveOp .mov sBit sbz rd (.imm rot imm8)) s

/-- MOV, register, immediate shift (40_dataproc.md R930). -/
def execMovRegImm (cond : Cond) (sBit : Bool) (sbz : BitVec 4) (rd : BitVec 4) (imm5 : BitVec 5) (shift : BitVec 2)
    (rm : BitVec 4) (s : State) : Result :=
  conditional cond (moveOp .mov sBit sbz rd (.shifted imm5 shift rm)) s

/-- MOV, register, register shift (40_dataproc.md R930). -/
def execMovRegReg (cond : Cond) (sBit : Bool) (sbz : BitVec 4) (rd : BitVec 4) (rs : BitVec 4) (shift : BitVec 2)
    (rm : BitVec 4) (s : State) : Result :=
  conditional cond (moveOp .mov sBit sbz rd (.shiftedByReg rs shift rm)) s

/-- BIC, immediate (40_dataproc.md R935). -/
def execBicImm (cond : Cond) (sBit : Bool) (rn : BitVec 4) (rd : BitVec 4) (rot : BitVec 4) (imm8 : BitVec 8)
    (s : State) : Result :=
  conditional cond (dataProcessing .bic sBit rn rd (.imm rot imm8)) s

/-- BIC, register, immediate shift (40_dataproc.md R935). -/
def execBicRegImm (cond : Cond) (sBit : Bool) (rn : BitVec 4) (rd : BitVec 4) (imm5 : BitVec 5) (shift : BitVec 2)
    (rm : BitVec 4) (s : State) : Result :=
  conditional cond (dataProcessing .bic sBit rn rd (.shifted imm5 shift rm)) s

/-- BIC, register, register shift (40_dataproc.md R935). -/
def execBicRegReg (cond : Cond) (sBit : Bool) (rn : BitVec 4) (rd : BitVec 4) (rs : BitVec 4) (shift : BitVec 2)
    (rm : BitVec 4) (s : State) : Result :=
  conditional cond (dataProcessing .bic sBit rn rd (.shiftedByReg rs shift rm)) s

/-- MVN, immediate (40_dataproc.md R931). -/
def execMvnImm (cond : Cond) (sBit : Bool) (sbz : BitVec 4) (rd : BitVec 4) (rot : BitVec 4) (imm8 : BitVec 8)
    (s : State) : Result :=
  conditional cond (moveOp .mvn sBit sbz rd (.imm rot imm8)) s

/-- MVN, register, immediate shift (40_dataproc.md R931). -/
def execMvnRegImm (cond : Cond) (sBit : Bool) (sbz : BitVec 4) (rd : BitVec 4) (imm5 : BitVec 5) (shift : BitVec 2)
    (rm : BitVec 4) (s : State) : Result :=
  conditional cond (moveOp .mvn sBit sbz rd (.shifted imm5 shift rm)) s

/-- MVN, register, register shift (40_dataproc.md R931). -/
def execMvnRegReg (cond : Cond) (sBit : Bool) (sbz : BitVec 4) (rd : BitVec 4) (rs : BitVec 4) (shift : BitVec 2)
    (rm : BitVec 4) (s : State) : Result :=
  conditional cond (moveOp .mvn sBit sbz rd (.shiftedByReg rs shift rm)) s

/-- CPY (40_dataproc.md R936): MOV of an unshifted register without flags. -/
def execCpy (cond : Cond) (rd : BitVec 4) (rm : BitVec 4) (s : State) : Result :=
  conditional cond (dataProcessing .mov false 0 rd (.shifted 0 0 rm)) s

/-- The number of zero bits above the most significant set bit, 32 for zero (40_dataproc.md R940). -/
def leadingZeros (w : Word) : Word :=
  match (List.range 32).find? fun k => w.getLsbD (31 - k) with
  | some k => BitVec.ofNat 32 k
  | none => 32

/-- CLZ (40_dataproc.md R940). -/
def execClz (cond : Cond) (sbo : BitVec 4) (rd : BitVec 4) (sbo2 : BitVec 4) (rm : BitVec 4) (s : State) : Result :=
  conditional cond (do
    shouldBe (sbo == 15 && sbo2 == 15)
    unpredictableIf (rd == 15 || rm == 15)
    let w ← readReg rm
    writeReg rd (leadingZeros w)
    advance) s

end Sys2Proof.Machine
end

