-- ==== Sys2Proof/Machine/LoadStore.lean ====
section
/-!
DEFINITION. The ARM loads and stores of one register or of two, and PLD (44_loadstore.md).
-/
namespace Sys2Proof.Machine

/-! ### Shared parts -/

/-- The offset of mode 2, immediate (44_loadstore.md R1262). -/
def offset12 (imm12 : BitVec 12) : Offset := .imm (imm12.setWidth 32)

/-- The offset of mode 3, register: no shift (44_loadstore.md R1265). -/
def offsetReg (rm : BitVec 4) : Offset := .reg 0 0 rm

/-- The index of the T forms: post-indexed (44_loadstore.md R1262). -/
def Index.translated (u : Bool) : Index := { p := false, u := u, w := true }

/-- Mode 3 has no form with P = 0 and W = 1 (44_loadstore.md R1265). -/
def mode3Form (x : Index) : M Unit := unpredictableIf (!x.p && x.w)

/-- LDR with the PC as destination (44_loadstore.md R1270). -/
def loadToPc (x : Index) (rn : BitVec 4) (o : Offset) : M Unit := do
  unpredictableIf (x.unpredictable rn 15 o)
  let a ← addressMode x rn o
  let w ← loadPcWord a.addr
  writeBack rn a
  loadWritePc w

/-- LDR (44_loadstore.md R1270, R1271). -/
def loadWord (x : Index) (rn rd : BitVec 4) (o : Offset) : M Unit :=
  if rd = 15 then loadToPc x rn o else loadRegister .wordLoad 4 false id x rn rd o

/-- STR (44_loadstore.md R1290). -/
def storeWord (x : Index) (rn rd : BitVec 4) (o : Offset) : M Unit := do
  unpredictableIf (x.unpredictable rn rd o)
  let a ← addressMode x rn o
  let v ← storedReg rd
  storeItem .wordStore 4 false a.addr v
  writeBack rn a
  advance

/-- The registers a transfer had loaded before it aborted (60_exceptions.md R1641, U50; log 17): each but the base keeps
its old or takes its loaded value. -/
def abortedLoads (read : BitVec 4 → M Word) (write : BitVec 4 → Word → M Unit) (rn : BitVec 4) :
    List (BitVec 4 × Word) → M Unit
  | [] => pure ()
  | (r, w) :: t => do
    if r ≠ 15 ∧ r ≠ rn then
      let old ← read r
      let v ← loadedOrOld old w
      write r v
    abortedLoads read write rn t

/-- The restrictions of LDRD and STRD (44_loadstore.md R1265, R1278): an odd Rd is Undefined, whatever else the word breaks
(log 54); `sbz` is the should-be-zero field of the register form. -/
def doubleRestrictions (x : Index) (rn rd sbz : BitVec 4) (o : Offset) : M Unit := do
  undefinedIf (rd.getLsbD 0)
  shouldBe (sbz == 0)
  mode3Form x
  unpredictableIf (rd == 14 || o.isPc || (x.writesBack && (rn == 15 || rn == rd || rn == rd + 1)))

/-- LDRD (44_loadstore.md R1278): two words at ascending addresses. -/
def loadDouble (x : Index) (rn rd sbz : BitVec 4) (o : Offset) : M Unit := do
  doubleRestrictions x rn rd sbz o
  unpredictableIf (o.usesReg rd || o.usesReg (rd + 1))
  let a ← addressMode x rn o
  let al ← orAbort (← checkAlignment .twoWord a.addr false)
  let s ← get
  let r ← loadWords (s.multiMode al.va false) al.va 2
  match r.abort with
  | some e =>
    abortedLoads readReg writeReg rn ([rd, rd + 1].zip r.words)
    takeDataAbort e
  | none =>
    writeBack rn a
    writeReg rd (r.words.getD 0 0)
    writeReg (rd + 1) (r.words.getD 1 0)
    advance

/-- STRD (44_loadstore.md R1295). -/
def storeDouble (x : Index) (rn rd sbz : BitVec 4) (o : Offset) : M Unit := do
  doubleRestrictions x rn rd sbz o
  let a ← addressMode x rn o
  let v0 ← readReg rd
  let v1 ← readReg (rd + 1)
  let al ← orAbort (← checkAlignment .twoWord a.addr true)
  let s ← get
  storeWords (s.multiMode al.va false) al.va [v0, v1]
  writeBack rn a
  advance

/-! ### Mode 2 -/

/-- LDR, immediate offset (44_loadstore.md R1271). -/
def execLdrImm (cond : Cond) (p u w : Bool) (rn rd : BitVec 4) (imm12 : BitVec 12) (s : State) : Result :=
  conditional cond (loadWord { p := p, u := u, w := w } rn rd (offset12 imm12)) s

/-- LDR, register offset (44_loadstore.md R1271). -/
def execLdrReg (cond : Cond) (p u w : Bool) (rn rd : BitVec 4) (imm5 : BitVec 5) (shift : BitVec 2) (rm : BitVec 4)
    (s : State) : Result :=
  conditional cond (loadWord { p := p, u := u, w := w } rn rd (.reg imm5 shift rm)) s

/-- LDRT, immediate offset (44_loadstore.md R1272). -/
def execLdrtImm (cond : Cond) (u : Bool) (rn rd : BitVec 4) (imm12 : BitVec 12) (s : State) : Result :=
  conditional cond (loadRegister .wordLoad 4 true id (Index.translated u) rn rd (offset12 imm12)) s

/-- LDRT, register offset (44_loadstore.md R1272). -/
def execLdrtReg (cond : Cond) (u : Bool) (rn rd : BitVec 4) (imm5 : BitVec 5) (shift : BitVec 2) (rm : BitVec 4)
    (s : State) : Result :=
  conditional cond (loadRegister .wordLoad 4 true id (Index.translated u) rn rd (.reg imm5 shift rm)) s

/-- LDRB, immediate offset (44_loadstore.md R1273). -/
def execLdrbImm (cond : Cond) (p u w : Bool) (rn rd : BitVec 4) (imm12 : BitVec 12) (s : State) : Result :=
  conditional cond (loadRegister .byte 1 false id { p := p, u := u, w := w } rn rd (offset12 imm12)) s

/-- LDRB, register offset (44_loadstore.md R1273). -/
def execLdrbReg (cond : Cond) (p u w : Bool) (rn rd : BitVec 4) (imm5 : BitVec 5) (shift : BitVec 2) (rm : BitVec 4)
    (s : State) : Result :=
  conditional cond (loadRegister .byte 1 false id { p := p, u := u, w := w } rn rd (.reg imm5 shift rm)) s

/-- LDRBT, immediate offset (44_loadstore.md R1274). -/
def execLdrbtImm (cond : Cond) (u : Bool) (rn rd : BitVec 4) (imm12 : BitVec 12) (s : State) : Result :=
  conditional cond (loadRegister .byte 1 true id (Index.translated u) rn rd (offset12 imm12)) s

/-- LDRBT, register offset (44_loadstore.md R1274). -/
def execLdrbtReg (cond : Cond) (u : Bool) (rn rd : BitVec 4) (imm5 : BitVec 5) (shift : BitVec 2) (rm : BitVec 4)
    (s : State) : Result :=
  conditional cond (loadRegister .byte 1 true id (Index.translated u) rn rd (.reg imm5 shift rm)) s

/-- STR, immediate offset (44_loadstore.md R1290). -/
def execStrImm (cond : Cond) (p u w : Bool) (rn rd : BitVec 4) (imm12 : BitVec 12) (s : State) : Result :=
  conditional cond (storeWord { p := p, u := u, w := w } rn rd (offset12 imm12)) s

/-- STR, register offset (44_loadstore.md R1290). -/
def execStrReg (cond : Cond) (p u w : Bool) (rn rd : BitVec 4) (imm5 : BitVec 5) (shift : BitVec 2) (rm : BitVec 4)
    (s : State) : Result :=
  conditional cond (storeWord { p := p, u := u, w := w } rn rd (.reg imm5 shift rm)) s

/-- STRT, immediate offset (44_loadstore.md R1291). -/
def execStrtImm (cond : Cond) (u : Bool) (rn rd : BitVec 4) (imm12 : BitVec 12) (s : State) : Result :=
  conditional cond (storeRegister .wordStore 4 true (Index.translated u) rn rd (offset12 imm12)) s

/-- STRT, register offset (44_loadstore.md R1291). -/
def execStrtReg (cond : Cond) (u : Bool) (rn rd : BitVec 4) (imm5 : BitVec 5) (shift : BitVec 2) (rm : BitVec 4)
    (s : State) : Result :=
  conditional cond (storeRegister .wordStore 4 true (Index.translated u) rn rd (.reg imm5 shift rm)) s

/-- STRB, immediate offset (44_loadstore.md R1292). -/
def execStrbImm (cond : Cond) (p u w : Bool) (rn rd : BitVec 4) (imm12 : BitVec 12) (s : State) : Result :=
  conditional cond (storeRegister .byte 1 false { p := p, u := u, w := w } rn rd (offset12 imm12)) s

/-- STRB, register offset (44_loadstore.md R1292). -/
def execStrbReg (cond : Cond) (p u w : Bool) (rn rd : BitVec 4) (imm5 : BitVec 5) (shift : BitVec 2) (rm : BitVec 4)
    (s : State) : Result :=
  conditional cond (storeRegister .byte 1 false { p := p, u := u, w := w } rn rd (.reg imm5 shift rm)) s

/-- STRBT, immediate offset (44_loadstore.md R1293). -/
def execStrbtImm (cond : Cond) (u : Bool) (rn rd : BitVec 4) (imm12 : BitVec 12) (s : State) : Result :=
  conditional cond (storeRegister .byte 1 true (Index.translated u) rn rd (offset12 imm12)) s

/-- STRBT, register offset (44_loadstore.md R1293). -/
def execStrbtReg (cond : Cond) (u : Bool) (rn rd : BitVec 4) (imm5 : BitVec 5) (shift : BitVec 2) (rm : BitVec 4)
    (s : State) : Result :=
  conditional cond (storeRegister .byte 1 true (Index.translated u) rn rd (.reg imm5 shift rm)) s

/-! ### Mode 3 -/

/-- LDRSB, immediate offset (44_loadstore.md R1275). -/
def execLdrsbImm (cond : Cond) (p u w : Bool) (rn rd immH immL : BitVec 4) (s : State) : Result :=
  conditional cond (do
    mode3Form { p := p, u := u, w := w }
    loadRegister .byte 1 false signByte { p := p, u := u, w := w } rn rd (offset8 immH immL)) s

/-- LDRSB, register offset (44_loadstore.md R1275). -/
def execLdrsbReg (cond : Cond) (p u w : Bool) (rn rd sbz rm : BitVec 4) (s : State) : Result :=
  conditional cond (do
    shouldBe (sbz == 0)
    mode3Form { p := p, u := u, w := w }
    loadRegister .byte 1 false signByte { p := p, u := u, w := w } rn rd (offsetReg rm)) s

/-- LDRH, immediate offset (44_loadstore.md R1276). -/
def execLdrhImm (cond : Cond) (p u w : Bool) (rn rd immH immL : BitVec 4) (s : State) : Result :=
  conditional cond (do
    mode3Form { p := p, u := u, w := w }
    loadRegister .half 2 false id { p := p, u := u, w := w } rn rd (offset8 immH immL)) s

/-- LDRH, register offset (44_loadstore.md R1276). -/
def execLdrhReg (cond : Cond) (p u w : Bool) (rn rd sbz rm : BitVec 4) (s : State) : Result :=
  conditional cond (do
    shouldBe (sbz == 0)
    mode3Form { p := p, u := u, w := w }
    loadRegister .half 2 false id { p := p, u := u, w := w } rn rd (offsetReg rm)) s

/-- LDRSH, immediate offset (44_loadstore.md R1277). -/
def execLdrshImm (cond : Cond) (p u w : Bool) (rn rd immH immL : BitVec 4) (s : State) : Result :=
  conditional cond (do
    mode3Form { p := p, u := u, w := w }
    loadRegister .half 2 false signHalf { p := p, u := u, w := w } rn rd (offset8 immH immL)) s

/-- LDRSH, register offset (44_loadstore.md R1277). -/
def execLdrshReg (cond : Cond) (p u w : Bool) (rn rd sbz rm : BitVec 4) (s : State) : Result :=
  conditional cond (do
    shouldBe (sbz == 0)
    mode3Form { p := p, u := u, w := w }
    loadRegister .half 2 false signHalf { p := p, u := u, w := w } rn rd (offsetReg rm)) s

/-- LDRD, immediate offset (44_loadstore.md R1278). -/
def execLdrdImm (cond : Cond) (p u w : Bool) (rn rd immH immL : BitVec 4) (s : State) : Result :=
  conditional cond (loadDouble { p := p, u := u, w := w } rn rd 0 (offset8 immH immL)) s

/-- LDRD, register offset (44_loadstore.md R1278). -/
def execLdrdReg (cond : Cond) (p u w : Bool) (rn rd sbz rm : BitVec 4) (s : State) : Result :=
  conditional cond (loadDouble { p := p, u := u, w := w } rn rd sbz (offsetReg rm)) s

/-- STRH, immediate offset (44_loadstore.md R1294). -/
def execStrhImm (cond : Cond) (p u w : Bool) (rn rd immH immL : BitVec 4) (s : State) : Result :=
  conditional cond (do
    mode3Form { p := p, u := u, w := w }
    storeRegister .half 2 false { p := p, u := u, w := w } rn rd (offset8 immH immL)) s

/-- STRH, register offset (44_loadstore.md R1294). -/
def execStrhReg (cond : Cond) (p u w : Bool) (rn rd sbz rm : BitVec 4) (s : State) : Result :=
  conditional cond (do
    shouldBe (sbz == 0)
    mode3Form { p := p, u := u, w := w }
    storeRegister .half 2 false { p := p, u := u, w := w } rn rd (offsetReg rm)) s

/-- STRD, immediate offset (44_loadstore.md R1295). -/
def execStrdImm (cond : Cond) (p u w : Bool) (rn rd immH immL : BitVec 4) (s : State) : Result :=
  conditional cond (storeDouble { p := p, u := u, w := w } rn rd 0 (offset8 immH immL)) s

/-- STRD, register offset (44_loadstore.md R1295). -/
def execStrdReg (cond : Cond) (p u w : Bool) (rn rd sbz rm : BitVec 4) (s : State) : Result :=
  conditional cond (storeDouble { p := p, u := u, w := w } rn rd sbz (offsetReg rm)) s

/-! ### Preload -/

/-- PLD makes no access in the model, which has no caches (44_loadstore.md R1300, D20; log 12). -/
def preload (o : Offset) : M Unit := do
  unpredictableIf o.isPc
  advance

/-- PLD, immediate offset (44_loadstore.md R1300). -/
def execPldImm (_u : Bool) (_rn : BitVec 4) (imm12 : BitVec 12) (s : State) : Result :=
  always (preload (offset12 imm12)) s

/-- PLD, register offset (44_loadstore.md R1300). -/
def execPldReg (_u : Bool) (_rn : BitVec 4) (imm5 : BitVec 5) (shift : BitVec 2) (rm : BitVec 4) (s : State) : Result :=
  always (preload (.reg imm5 shift rm)) s

end Sys2Proof.Machine
end

