-- ==== Sys2Proof/Machine/Multiply.lean ====
section
/-!
DEFINITION. The ARM multiplies and the saturating additions (41_multiply_dsp.md): exact integers, narrowed at the end
(R1001), all sources read before a destination is written (R1003).
-/
namespace Sys2Proof.Machine

/-! ### Shared parts -/

/-- Some register field is R15 (41_multiply_dsp.md R1003). -/
def anyPc (l : List (BitVec 4)) : Bool := l.any (· == 15)

/-- `(v)[31:0]` of an integer (41_multiply_dsp.md R1001). -/
def wordOf (v : Int) : Word := BitVec.ofInt 32 v

/-- Does the integer fit in signed 32 bits? -/
def fitsWord (v : Int) : Bool := (wordOf v).toInt == v

/-- A halfword of a register as a signed integer: the top one where `top` (41_multiply_dsp.md R1030). -/
def halfInt (top : Bool) (w : Word) : Int := (if top then highHalf w else lowHalf w).toInt

/-- Write a 32-bit result, and N and Z where `sBit` (41_multiply_dsp.md R1004), and go on. -/
def finishWord (sBit : Bool) (rd : BitVec 4) (w : Word) : M Unit := do
  writeReg rd w
  if sBit then setNz w
  advance

/-- Write a 32-bit result that sets Q where it does not fit, and go on. -/
def finishAccumulate (rd : BitVec 4) (v : Int) : M Unit := do
  writeReg rd (wordOf v)
  setQIf (!fitsWord v)
  advance

/-- `RdHi:RdLo` (41_multiply_dsp.md R1001). -/
def readLong (rdHi rdLo : BitVec 4) : M DWord := do
  let hi ← readReg rdHi
  let lo ← readReg rdLo
  pure (hi ++ lo)

/-- N and Z of a 64-bit result (41_multiply_dsp.md R1004). -/
def setNzLong (d : DWord) : M Unit := modify fun s => s.setNzcv { s.nzcv with n := d.msb, z := d == 0 }

/-- Write the low 64 bits of a result to `RdHi:RdLo`, N and Z where `sBit`, and go on. -/
def finishLong (sBit : Bool) (rdHi rdLo : BitVec 4) (v : Int) : M Unit := do
  let d : DWord := BitVec.ofInt 64 v
  writeReg rdHi (d.extractLsb' 32 32)
  writeReg rdLo (d.extractLsb' 0 32)
  if sBit then setNzLong d
  advance

/-- The restrictions of a long multiply (41_multiply_dsp.md R1003). -/
def longRestrictions (rdHi rdLo rs rm : BitVec 4) : M Unit :=
  unpredictableIf (anyPc [rdHi, rdLo, rs, rm] || rdHi == rdLo)

/-- The products of the dual multiplies (41_multiply_dsp.md R1040). -/
def dualProducts (x : Bool) (m s : Word) : Int × Int :=
  let op2 := if x then s.rotateRight 16 else s
  ((lowHalf m).toInt * (lowHalf op2).toInt, (highHalf m).toInt * (highHalf op2).toInt)

/-- The most significant word of a 64-bit value, rounded where `r` (41_multiply_dsp.md R1050). -/
def highWord (r : Bool) (v : Int) : Word :=
  (BitVec.ofInt 64 (if r then v + 0x80000000 else v)).extractLsb' 32 32

/-! ### 32-bit and 64-bit multiplies -/

/-- MUL (41_multiply_dsp.md R1010). -/
def execMul (cond : Cond) (sBit : Bool) (rd sbz rs rm : BitVec 4) (s : State) : Result :=
  conditional cond (do
    shouldBe (sbz == 0)
    unpredictableIf (anyPc [rd, rs, rm])
    let a ← readReg rm
    let b ← readReg rs
    finishWord sBit rd (wordOf (a.toNat * b.toNat))) s

/-- MLA (41_multiply_dsp.md R1011). -/
def execMla (cond : Cond) (sBit : Bool) (rd rn rs rm : BitVec 4) (s : State) : Result :=
  conditional cond (do
    unpredictableIf (anyPc [rd, rn, rs, rm])
    let a ← readReg rm
    let b ← readReg rs
    let c ← readReg rn
    finishWord sBit rd (wordOf (a.toNat * b.toNat + c.toNat))) s

/-- UMAAL (41_multiply_dsp.md R1016). -/
def execUmaal (cond : Cond) (rdHi rdLo rs rm : BitVec 4) (s : State) : Result :=
  conditional cond (do
    longRestrictions rdHi rdLo rs rm
    let a ← readReg rm
    let b ← readReg rs
    let lo ← readReg rdLo
    let hi ← readReg rdHi
    finishLong false rdHi rdLo (a.toNat * b.toNat + lo.toNat + hi.toNat)) s

/-- UMULL (41_multiply_dsp.md R1012). -/
def execUmull (cond : Cond) (sBit : Bool) (rdHi rdLo rs rm : BitVec 4) (s : State) : Result :=
  conditional cond (do
    longRestrictions rdHi rdLo rs rm
    let a ← readReg rm
    let b ← readReg rs
    finishLong sBit rdHi rdLo (a.toNat * b.toNat)) s

/-- UMLAL (41_multiply_dsp.md R1013). -/
def execUmlal (cond : Cond) (sBit : Bool) (rdHi rdLo rs rm : BitVec 4) (s : State) : Result :=
  conditional cond (do
    longRestrictions rdHi rdLo rs rm
    let a ← readReg rm
    let b ← readReg rs
    let acc ← readLong rdHi rdLo
    finishLong sBit rdHi rdLo (a.toNat * b.toNat + acc.toNat)) s

/-- SMULL (41_multiply_dsp.md R1014). -/
def execSmull (cond : Cond) (sBit : Bool) (rdHi rdLo rs rm : BitVec 4) (s : State) : Result :=
  conditional cond (do
    longRestrictions rdHi rdLo rs rm
    let a ← readReg rm
    let b ← readReg rs
    finishLong sBit rdHi rdLo (a.toInt * b.toInt)) s

/-- SMLAL (41_multiply_dsp.md R1015). -/
def execSmlal (cond : Cond) (sBit : Bool) (rdHi rdLo rs rm : BitVec 4) (s : State) : Result :=
  conditional cond (do
    longRestrictions rdHi rdLo rs rm
    let a ← readReg rm
    let b ← readReg rs
    let acc ← readLong rdHi rdLo
    finishLong sBit rdHi rdLo (a.toInt * b.toInt + acc.toInt)) s

/-! ### Saturating addition and subtraction -/

/-- The frame of QADD, QSUB, QDADD, QDSUB (41_multiply_dsp.md R1020 to R1023): `f` combines Rm with Rn, which `doubled`
doubles and saturates first. -/
def saturating (f : Int → Int → Int) (doubled : Bool) (rn rd sbz rm : BitVec 4) : M Unit := do
  shouldBe (sbz == 0)
  unpredictableIf (anyPc [rn, rd, rm])
  let m ← readReg rm
  let n ← readReg rn
  let d := if doubled then signedSat (2 * n.toInt) 32 else (n.toInt, false)
  let r := signedSat (f m.toInt d.1) 32
  writeReg rd (wordOf r.1)
  setQIf (d.2 || r.2)
  advance

/-- QADD (41_multiply_dsp.md R1020). -/
def execQadd (cond : Cond) (rn rd sbz rm : BitVec 4) (s : State) : Result :=
  conditional cond (saturating (· + ·) false rn rd sbz rm) s

/-- QSUB (41_multiply_dsp.md R1022). -/
def execQsub (cond : Cond) (rn rd sbz rm : BitVec 4) (s : State) : Result :=
  conditional cond (saturating (· - ·) false rn rd sbz rm) s

/-- QDADD (41_multiply_dsp.md R1021). -/
def execQdadd (cond : Cond) (rn rd sbz rm : BitVec 4) (s : State) : Result :=
  conditional cond (saturating (· + ·) true rn rd sbz rm) s

/-- QDSUB (41_multiply_dsp.md R1023). -/
def execQdsub (cond : Cond) (rn rd sbz rm : BitVec 4) (s : State) : Result :=
  conditional cond (saturating (· - ·) true rn rd sbz rm) s

/-! ### Signed 16-bit multiplies -/

/-- SMULxy (41_multiply_dsp.md R1030). -/
def execSmulxy (cond : Cond) (rd sbz rs : BitVec 4) (y x : Bool) (rm : BitVec 4) (s : State) : Result :=
  conditional cond (do
    shouldBe (sbz == 0)
    unpredictableIf (anyPc [rd, rs, rm])
    let a ← readReg rm
    let b ← readReg rs
    finishWord false rd (wordOf (halfInt x a * halfInt y b))) s

/-- SMLAxy (41_multiply_dsp.md R1031). -/
def execSmlaxy (cond : Cond) (rd rn rs : BitVec 4) (y x : Bool) (rm : BitVec 4) (s : State) : Result :=
  conditional cond (do
    unpredictableIf (anyPc [rd, rn, rs, rm])
    let a ← readReg rm
    let b ← readReg rs
    let c ← readReg rn
    finishAccumulate rd (halfInt x a * halfInt y b + c.toInt)) s

/-- The shifted product of SMULWy (41_multiply_dsp.md R1032): bits [47:16], the low 16 bits discarded. -/
def wideProduct (y : Bool) (a b : Word) : Word := wordOf ((a.toInt * halfInt y b) / 65536)

/-- SMULWy (41_multiply_dsp.md R1032). -/
def execSmulwy (cond : Cond) (rd sbz rs : BitVec 4) (y : Bool) (rm : BitVec 4) (s : State) : Result :=
  conditional cond (do
    shouldBe (sbz == 0)
    unpredictableIf (anyPc [rd, rs, rm])
    let a ← readReg rm
    let b ← readReg rs
    finishWord false rd (wideProduct y a b)) s

/-- SMLAWy (41_multiply_dsp.md R1033). -/
def execSmlawy (cond : Cond) (rd rn rs : BitVec 4) (y : Bool) (rm : BitVec 4) (s : State) : Result :=
  conditional cond (do
    unpredictableIf (anyPc [rd, rn, rs, rm])
    let a ← readReg rm
    let b ← readReg rs
    let c ← readReg rn
    finishAccumulate rd ((wideProduct y a b).toInt + c.toInt)) s

/-- SMLALxy (41_multiply_dsp.md R1034). -/
def execSmlalxy (cond : Cond) (rdHi rdLo rs : BitVec 4) (y x : Bool) (rm : BitVec 4) (s : State) : Result :=
  conditional cond (do
    longRestrictions rdHi rdLo rs rm
    let a ← readReg rm
    let b ← readReg rs
    let acc ← readLong rdHi rdLo
    finishLong false rdHi rdLo (halfInt x a * halfInt y b + acc.toInt)) s

/-! ### Dual 16-bit signed multiplies -/

/-- The products of Rm and Rs (41_multiply_dsp.md R1040). -/
def readDual (x : Bool) (rs rm : BitVec 4) : M (Int × Int) := do
  let m ← readReg rm
  let r ← readReg rs
  pure (dualProducts x m r)

/-- SMUAD (41_multiply_dsp.md R1045). -/
def execSmuad (cond : Cond) (rd rs : BitVec 4) (x : Bool) (rm : BitVec 4) (s : State) : Result :=
  conditional cond (do
    unpredictableIf (anyPc [rd, rs, rm])
    let p ← readDual x rs rm
    finishAccumulate rd (p.1 + p.2)) s

/-- SMLAD (41_multiply_dsp.md R1041). -/
def execSmlad (cond : Cond) (rd rn rs : BitVec 4) (x : Bool) (rm : BitVec 4) (s : State) : Result :=
  conditional cond (do
    unpredictableIf (anyPc [rd, rn, rs, rm])
    let p ← readDual x rs rm
    let c ← readReg rn
    finishAccumulate rd (p.1 + p.2 + c.toInt)) s

/-- SMUSD (41_multiply_dsp.md R1046). -/
def execSmusd (cond : Cond) (rd rs : BitVec 4) (x : Bool) (rm : BitVec 4) (s : State) : Result :=
  conditional cond (do
    unpredictableIf (anyPc [rd, rs, rm])
    let p ← readDual x rs rm
    finishWord false rd (wordOf (p.1 - p.2))) s

/-- SMLSD (41_multiply_dsp.md R1042). -/
def execSmlsd (cond : Cond) (rd rn rs : BitVec 4) (x : Bool) (rm : BitVec 4) (s : State) : Result :=
  conditional cond (do
    unpredictableIf (anyPc [rd, rn, rs, rm])
    let p ← readDual x rs rm
    let c ← readReg rn
    finishAccumulate rd (p.1 - p.2 + c.toInt)) s

/-- SMLALD (41_multiply_dsp.md R1043). -/
def execSmlald (cond : Cond) (rdHi rdLo rs : BitVec 4) (x : Bool) (rm : BitVec 4) (s : State) : Result :=
  conditional cond (do
    longRestrictions rdHi rdLo rs rm
    let p ← readDual x rs rm
    let acc ← readLong rdHi rdLo
    finishLong false rdHi rdLo (p.1 + p.2 + acc.toInt)) s

/-- SMLSLD (41_multiply_dsp.md R1044). -/
def execSmlsld (cond : Cond) (rdHi rdLo rs : BitVec 4) (x : Bool) (rm : BitVec 4) (s : State) : Result :=
  conditional cond (do
    longRestrictions rdHi rdLo rs rm
    let p ← readDual x rs rm
    let acc ← readLong rdHi rdLo
    finishLong false rdHi rdLo (p.1 - p.2 + acc.toInt)) s

/-! ### Most-significant-word multiplies -/

/-- SMMUL (41_multiply_dsp.md R1050). -/
def execSmmul (cond : Cond) (rd rs : BitVec 4) (r : Bool) (rm : BitVec 4) (s : State) : Result :=
  conditional cond (do
    unpredictableIf (anyPc [rd, rs, rm])
    let a ← readReg rm
    let b ← readReg rs
    finishWord false rd (highWord r (a.toInt * b.toInt))) s

/-- SMMLA (41_multiply_dsp.md R1051). -/
def execSmmla (cond : Cond) (rd rn rs : BitVec 4) (r : Bool) (rm : BitVec 4) (s : State) : Result :=
  conditional cond (do
    unpredictableIf (anyPc [rd, rn, rs, rm])
    let a ← readReg rm
    let b ← readReg rs
    let c ← readReg rn
    finishWord false rd (highWord r (c.toInt * 2 ^ 32 + a.toInt * b.toInt))) s

/-- SMMLS (41_multiply_dsp.md R1052). -/
def execSmmls (cond : Cond) (rd rn rs : BitVec 4) (r : Bool) (rm : BitVec 4) (s : State) : Result :=
  conditional cond (do
    unpredictableIf (anyPc [rd, rn, rs, rm])
    let a ← readReg rm
    let b ← readReg rs
    let c ← readReg rn
    finishWord false rd (highWord r (c.toInt * 2 ^ 32 - a.toInt * b.toInt))) s

end Sys2Proof.Machine
end

