-- ==== Sys2Proof/Machine/Media.lean ====
section
/-!
DEFINITION. The ARMv6 media instructions (42_media_simd.md): parallel addition and subtraction, sums of absolute
differences, extension, saturation, selection, packing and byte reversal.
-/
namespace Sys2Proof.Machine

/-! ### Parallel addition and subtraction -/

/-- The prefixes of R1102: how operands are read and how a lane's exact result becomes `w` bits. -/
inductive ParPrefix where
  | s
  | q
  | sh
  | u
  | uq
  | uh
deriving DecidableEq, Repr

/-- The operations of R1102. -/
inductive ParOp where
  | add16
  | addsubx
  | subaddx
  | sub16
  | add8
  | sub8
deriving DecidableEq, Repr

/-- Are the operands read as signed (42_media_simd.md R1102)? -/
def ParPrefix.signed : ParPrefix → Bool
  | .s => true
  | .q => true
  | .sh => true
  | .u => false
  | .uq => false
  | .uh => false

/-- Does the prefix write GE (42_media_simd.md R1103)? -/
def ParPrefix.writesGe : ParPrefix → Bool
  | .s => true
  | .u => true
  | .q => false
  | .sh => false
  | .uq => false
  | .uh => false

/-- One lane: its result and its GE bit (42_media_simd.md R1102, R1103). -/
def lane {w : Nat} (p : ParPrefix) (sub : Bool) (a b : BitVec w) : BitVec w × Bool :=
  let x : Int := if p.signed then a.toInt else a.toNat
  let y : Int := if p.signed then b.toInt else b.toNat
  let exact := if sub then x - y else x + y
  let r : Int :=
    match p with
    | .s => exact
    | .u => exact
    | .q => (signedSat exact w).1
    | .uq => (unsignedSat exact w).1
    | .sh => exact / 2
    | .uh => exact / 2
  (BitVec.ofInt w r, if p.signed || sub then decide (0 ≤ exact) else decide (2 ^ w ≤ exact))

/-- Two halfword lanes: the top one subtracts where `subT`, the bottom one where `subB`; with `cross` the halves of the
second operand are exchanged. -/
def halfLanes (p : ParPrefix) (subT subB cross : Bool) (n m : Word) : Word × BitVec 4 :=
  let t := lane p subT (highHalf n) (if cross then lowHalf m else highHalf m)
  let b := lane p subB (lowHalf n) (if cross then highHalf m else lowHalf m)
  (ofHalves t.1 b.1, BitVec.ofBool t.2 ++ BitVec.ofBool t.2 ++ BitVec.ofBool b.2 ++ BitVec.ofBool b.2)

/-- Four byte lanes. -/
def byteLanes (p : ParPrefix) (sub : Bool) (n m : Word) : Word × BitVec 4 :=
  let l (k : Nat) := lane p sub (byteAt n k) (byteAt m k)
  (ofBytes (l 3).1 (l 2).1 (l 1).1 (l 0).1,
    BitVec.ofBool (l 3).2 ++ BitVec.ofBool (l 2).2 ++ BitVec.ofBool (l 1).2 ++ BitVec.ofBool (l 0).2)

/-- The parallel additions and subtractions: the result and the GE bits (42_media_simd.md R1102, R1103). -/
def parallelResult (p : ParPrefix) (op : ParOp) (n m : Word) : Word × BitVec 4 :=
  match op with
  | .add16 => halfLanes p false false false n m
  | .addsubx => halfLanes p false true true n m
  | .subaddx => halfLanes p true false true n m
  | .sub16 => halfLanes p true true false n m
  | .add8 => byteLanes p false n m
  | .sub8 => byteLanes p true n m

/-- The frame of the 36 parallel instructions (42_media_simd.md R1102 to R1104). -/
def parallel (p : ParPrefix) (op : ParOp) (rn rd sbo rm : BitVec 4) : M Unit := do
  shouldBe (sbo == 15)
  unpredictableIf (anyPc [rn, rd, rm])
  let n ← readReg rn
  let m ← readReg rm
  let r := parallelResult p op n m
  writeReg rd r.1
  if p.writesGe then modify fun s => s.setGe r.2
  advance

/-- SADD16 (42_media_simd.md R1110). -/
def execSadd16 (cond : Cond) (rn rd sbo rm : BitVec 4) (s : State) : Result :=
  conditional cond (parallel .s .add16 rn rd sbo rm) s

/-- QADD16 (42_media_simd.md R1111). -/
def execQadd16 (cond : Cond) (rn rd sbo rm : BitVec 4) (s : State) : Result :=
  conditional cond (parallel .q .add16 rn rd sbo rm) s

/-- SHADD16 (42_media_simd.md R1112). -/
def execShadd16 (cond : Cond) (rn rd sbo rm : BitVec 4) (s : State) : Result :=
  conditional cond (parallel .sh .add16 rn rd sbo rm) s

/-- UADD16 (42_media_simd.md R1113). -/
def execUadd16 (cond : Cond) (rn rd sbo rm : BitVec 4) (s : State) : Result :=
  conditional cond (parallel .u .add16 rn rd sbo rm) s

/-- UQADD16 (42_media_simd.md R1114). -/
def execUqadd16 (cond : Cond) (rn rd sbo rm : BitVec 4) (s : State) : Result :=
  conditional cond (parallel .uq .add16 rn rd sbo rm) s

/-- UHADD16 (42_media_simd.md R1115). -/
def execUhadd16 (cond : Cond) (rn rd sbo rm : BitVec 4) (s : State) : Result :=
  conditional cond (parallel .uh .add16 rn rd sbo rm) s

/-- SADDSUBX (42_media_simd.md R1116). -/
def execSaddsubx (cond : Cond) (rn rd sbo rm : BitVec 4) (s : State) : Result :=
  conditional cond (parallel .s .addsubx rn rd sbo rm) s

/-- QADDSUBX (42_media_simd.md R1117). -/
def execQaddsubx (cond : Cond) (rn rd sbo rm : BitVec 4) (s : State) : Result :=
  conditional cond (parallel .q .addsubx rn rd sbo rm) s

/-- SHADDSUBX (42_media_simd.md R1118). -/
def execShaddsubx (cond : Cond) (rn rd sbo rm : BitVec 4) (s : State) : Result :=
  conditional cond (parallel .sh .addsubx rn rd sbo rm) s

/-- UADDSUBX (42_media_simd.md R1119). -/
def execUaddsubx (cond : Cond) (rn rd sbo rm : BitVec 4) (s : State) : Result :=
  conditional cond (parallel .u .addsubx rn rd sbo rm) s

/-- UQADDSUBX (42_media_simd.md R1120). -/
def execUqaddsubx (cond : Cond) (rn rd sbo rm : BitVec 4) (s : State) : Result :=
  conditional cond (parallel .uq .addsubx rn rd sbo rm) s

/-- UHADDSUBX (42_media_simd.md R1121). -/
def execUhaddsubx (cond : Cond) (rn rd sbo rm : BitVec 4) (s : State) : Result :=
  conditional cond (parallel .uh .addsubx rn rd sbo rm) s

/-- SSUBADDX (42_media_simd.md R1122). -/
def execSsubaddx (cond : Cond) (rn rd sbo rm : BitVec 4) (s : State) : Result :=
  conditional cond (parallel .s .subaddx rn rd sbo rm) s

/-- QSUBADDX (42_media_simd.md R1123). -/
def execQsubaddx (cond : Cond) (rn rd sbo rm : BitVec 4) (s : State) : Result :=
  conditional cond (parallel .q .subaddx rn rd sbo rm) s

/-- SHSUBADDX (42_media_simd.md R1124). -/
def execShsubaddx (cond : Cond) (rn rd sbo rm : BitVec 4) (s : State) : Result :=
  conditional cond (parallel .sh .subaddx rn rd sbo rm) s

/-- USUBADDX (42_media_simd.md R1125). -/
def execUsubaddx (cond : Cond) (rn rd sbo rm : BitVec 4) (s : State) : Result :=
  conditional cond (parallel .u .subaddx rn rd sbo rm) s

/-- UQSUBADDX (42_media_simd.md R1126). -/
def execUqsubaddx (cond : Cond) (rn rd sbo rm : BitVec 4) (s : State) : Result :=
  conditional cond (parallel .uq .subaddx rn rd sbo rm) s

/-- UHSUBADDX (42_media_simd.md R1127). -/
def execUhsubaddx (cond : Cond) (rn rd sbo rm : BitVec 4) (s : State) : Result :=
  conditional cond (parallel .uh .subaddx rn rd sbo rm) s

/-- SSUB16 (42_media_simd.md R1128). -/
def execSsub16 (cond : Cond) (rn rd sbo rm : BitVec 4) (s : State) : Result :=
  conditional cond (parallel .s .sub16 rn rd sbo rm) s

/-- QSUB16 (42_media_simd.md R1129). -/
def execQsub16 (cond : Cond) (rn rd sbo rm : BitVec 4) (s : State) : Result :=
  conditional cond (parallel .q .sub16 rn rd sbo rm) s

/-- SHSUB16 (42_media_simd.md R1130). -/
def execShsub16 (cond : Cond) (rn rd sbo rm : BitVec 4) (s : State) : Result :=
  conditional cond (parallel .sh .sub16 rn rd sbo rm) s

/-- USUB16 (42_media_simd.md R1131). -/
def execUsub16 (cond : Cond) (rn rd sbo rm : BitVec 4) (s : State) : Result :=
  conditional cond (parallel .u .sub16 rn rd sbo rm) s

/-- UQSUB16 (42_media_simd.md R1132). -/
def execUqsub16 (cond : Cond) (rn rd sbo rm : BitVec 4) (s : State) : Result :=
  conditional cond (parallel .uq .sub16 rn rd sbo rm) s

/-- UHSUB16 (42_media_simd.md R1133). -/
def execUhsub16 (cond : Cond) (rn rd sbo rm : BitVec 4) (s : State) : Result :=
  conditional cond (parallel .uh .sub16 rn rd sbo rm) s

/-- SADD8 (42_media_simd.md R1134). -/
def execSadd8 (cond : Cond) (rn rd sbo rm : BitVec 4) (s : State) : Result :=
  conditional cond (parallel .s .add8 rn rd sbo rm) s

/-- QADD8 (42_media_simd.md R1135). -/
def execQadd8 (cond : Cond) (rn rd sbo rm : BitVec 4) (s : State) : Result :=
  conditional cond (parallel .q .add8 rn rd sbo rm) s

/-- SHADD8 (42_media_simd.md R1136). -/
def execShadd8 (cond : Cond) (rn rd sbo rm : BitVec 4) (s : State) : Result :=
  conditional cond (parallel .sh .add8 rn rd sbo rm) s

/-- UADD8 (42_media_simd.md R1137). -/
def execUadd8 (cond : Cond) (rn rd sbo rm : BitVec 4) (s : State) : Result :=
  conditional cond (parallel .u .add8 rn rd sbo rm) s

/-- UQADD8 (42_media_simd.md R1138). -/
def execUqadd8 (cond : Cond) (rn rd sbo rm : BitVec 4) (s : State) : Result :=
  conditional cond (parallel .uq .add8 rn rd sbo rm) s

/-- UHADD8 (42_media_simd.md R1139). -/
def execUhadd8 (cond : Cond) (rn rd sbo rm : BitVec 4) (s : State) : Result :=
  conditional cond (parallel .uh .add8 rn rd sbo rm) s

/-- SSUB8 (42_media_simd.md R1140). -/
def execSsub8 (cond : Cond) (rn rd sbo rm : BitVec 4) (s : State) : Result :=
  conditional cond (parallel .s .sub8 rn rd sbo rm) s

/-- QSUB8 (42_media_simd.md R1141). -/
def execQsub8 (cond : Cond) (rn rd sbo rm : BitVec 4) (s : State) : Result :=
  conditional cond (parallel .q .sub8 rn rd sbo rm) s

/-- SHSUB8 (42_media_simd.md R1142). -/
def execShsub8 (cond : Cond) (rn rd sbo rm : BitVec 4) (s : State) : Result :=
  conditional cond (parallel .sh .sub8 rn rd sbo rm) s

/-- USUB8 (42_media_simd.md R1143). -/
def execUsub8 (cond : Cond) (rn rd sbo rm : BitVec 4) (s : State) : Result :=
  conditional cond (parallel .u .sub8 rn rd sbo rm) s

/-- UQSUB8 (42_media_simd.md R1144). -/
def execUqsub8 (cond : Cond) (rn rd sbo rm : BitVec 4) (s : State) : Result :=
  conditional cond (parallel .uq .sub8 rn rd sbo rm) s

/-- UHSUB8 (42_media_simd.md R1145). -/
def execUhsub8 (cond : Cond) (rn rd sbo rm : BitVec 4) (s : State) : Result :=
  conditional cond (parallel .uh .sub8 rn rd sbo rm) s

/-! ### Sums of absolute differences -/

/-- The sum of the absolute differences of the bytes (42_media_simd.md R1150). -/
def absDiffs (m r : Word) : Word :=
  let d (k : Nat) : Nat := ((byteAt m k).toNat - (byteAt r k).toNat) + ((byteAt r k).toNat - (byteAt m k).toNat)
  BitVec.ofNat 32 (d 0 + d 1 + d 2 + d 3)

/-- USAD8 (42_media_simd.md R1150). -/
def execUsad8 (cond : Cond) (rd rs rm : BitVec 4) (s : State) : Result :=
  conditional cond (do
    unpredictableIf (anyPc [rd, rs, rm])
    let a ← readReg rm
    let b ← readReg rs
    finishWord false rd (absDiffs a b)) s

/-- USADA8 (42_media_simd.md R1151). -/
def execUsada8 (cond : Cond) (rd rn rs rm : BitVec 4) (s : State) : Result :=
  conditional cond (do
    unpredictableIf (anyPc [rd, rn, rs, rm])
    let a ← readReg rm
    let b ← readReg rs
    let c ← readReg rn
    finishWord false rd (c + absDiffs a b)) s

/-! ### Extension -/

/-- What an extend instruction takes from the rotated register (42_media_simd.md R1160). -/
inductive Extend where
  | byte
  | half
  | twoBytes
deriving DecidableEq, Repr

/-- The extended value, before the addition (42_media_simd.md R1161 to R1172). -/
def Extend.apply (e : Extend) (signed : Bool) (r : Word) : Word :=
  let ext {k : Nat} (n : Nat) (x : BitVec k) : BitVec n := if signed then x.signExtend n else x.setWidth n
  match e with
  | .byte => ext 32 (byteAt r 0)
  | .half => ext 32 (lowHalf r)
  | .twoBytes => ofHalves (ext 16 (byteAt r 2)) (ext 16 (byteAt r 0))

/-- The addition of an extend instruction: two halfwords apart for the forms of two bytes (42_media_simd.md R1160). -/
def Extend.add (e : Extend) (a b : Word) : Word :=
  match e with
  | .byte => a + b
  | .half => a + b
  | .twoBytes => ofHalves (highHalf a + highHalf b) (lowHalf a + lowHalf b)

/-- `rotated` (42_media_simd.md R1160). -/
def rotatedReg (rotate : BitVec 2) (rm : BitVec 4) : M Word := do
  let m ← readReg rm
  pure (m.rotateRight (8 * rotate.toNat))

/-- The frame of the plain extends (42_media_simd.md R1160, R1167 to R1172). -/
def extend (e : Extend) (signed : Bool) (rd : BitVec 4) (rotate sbz : BitVec 2) (rm : BitVec 4) : M Unit := do
  shouldBe (sbz == 0)
  unpredictableIf (anyPc [rd, rm])
  let r ← rotatedReg rotate rm
  finishWord false rd (e.apply signed r)

/-- The frame of the extends with an addition (42_media_simd.md R1160 to R1166). -/
def extendAdd (e : Extend) (signed : Bool) (rn rd : BitVec 4) (rotate sbz : BitVec 2) (rm : BitVec 4) : M Unit := do
  shouldBe (sbz == 0)
  unpredictableIf (anyPc [rn, rd, rm])
  let r ← rotatedReg rotate rm
  let n ← readReg rn
  finishWord false rd (e.add n (e.apply signed r))

/-- SXTAB16 (42_media_simd.md R1161). -/
def execSxtab16 (cond : Cond) (rn rd : BitVec 4) (rotate sbz : BitVec 2) (rm : BitVec 4) (s : State) : Result :=
  conditional cond (extendAdd .twoBytes true rn rd rotate sbz rm) s

/-- SXTAB (42_media_simd.md R1162). -/
def execSxtab (cond : Cond) (rn rd : BitVec 4) (rotate sbz : BitVec 2) (rm : BitVec 4) (s : State) : Result :=
  conditional cond (extendAdd .byte true rn rd rotate sbz rm) s

/-- SXTAH (42_media_simd.md R1163). -/
def execSxtah (cond : Cond) (rn rd : BitVec 4) (rotate sbz : BitVec 2) (rm : BitVec 4) (s : State) : Result :=
  conditional cond (extendAdd .half true rn rd rotate sbz rm) s

/-- UXTAB16 (42_media_simd.md R1164). -/
def execUxtab16 (cond : Cond) (rn rd : BitVec 4) (rotate sbz : BitVec 2) (rm : BitVec 4) (s : State) : Result :=
  conditional cond (extendAdd .twoBytes false rn rd rotate sbz rm) s

/-- UXTAB (42_media_simd.md R1165). -/
def execUxtab (cond : Cond) (rn rd : BitVec 4) (rotate sbz : BitVec 2) (rm : BitVec 4) (s : State) : Result :=
  conditional cond (extendAdd .byte false rn rd rotate sbz rm) s

/-- UXTAH (42_media_simd.md R1166). -/
def execUxtah (cond : Cond) (rn rd : BitVec 4) (rotate sbz : BitVec 2) (rm : BitVec 4) (s : State) : Result :=
  conditional cond (extendAdd .half false rn rd rotate sbz rm) s

/-- SXTB16 (42_media_simd.md R1167). -/
def execSxtb16 (cond : Cond) (rd : BitVec 4) (rotate sbz : BitVec 2) (rm : BitVec 4) (s : State) : Result :=
  conditional cond (extend .twoBytes true rd rotate sbz rm) s

/-- SXTB (42_media_simd.md R1168). -/
def execSxtb (cond : Cond) (rd : BitVec 4) (rotate sbz : BitVec 2) (rm : BitVec 4) (s : State) : Result :=
  conditional cond (extend .byte true rd rotate sbz rm) s

/-- SXTH (42_media_simd.md R1169). -/
def execSxth (cond : Cond) (rd : BitVec 4) (rotate sbz : BitVec 2) (rm : BitVec 4) (s : State) : Result :=
  conditional cond (extend .half true rd rotate sbz rm) s

/-- UXTB16 (42_media_simd.md R1170). -/
def execUxtb16 (cond : Cond) (rd : BitVec 4) (rotate sbz : BitVec 2) (rm : BitVec 4) (s : State) : Result :=
  conditional cond (extend .twoBytes false rd rotate sbz rm) s

/-- UXTB (42_media_simd.md R1171). -/
def execUxtb (cond : Cond) (rd : BitVec 4) (rotate sbz : BitVec 2) (rm : BitVec 4) (s : State) : Result :=
  conditional cond (extend .byte false rd rotate sbz rm) s

/-- UXTH (42_media_simd.md R1172). -/
def execUxth (cond : Cond) (rd : BitVec 4) (rotate sbz : BitVec 2) (rm : BitVec 4) (s : State) : Result :=
  conditional cond (extend .half false rd rotate sbz rm) s

/-! ### Saturation, selection, packing -/

/-- The operand of SSAT and USAT (42_media_simd.md R1180). -/
def saturateOperand (imm5 : BitVec 5) (shift : Bool) (m : Word) : Word :=
  if !shift then m <<< imm5.toNat else m.sshiftRight (if imm5 = 0 then 32 else imm5.toNat)

/-- SSAT (42_media_simd.md R1180). -/
def execSsat (cond : Cond) (satImm : BitVec 5) (rd : BitVec 4) (imm5 : BitVec 5) (shift : Bool) (rm : BitVec 4) (s : State) : Result :=
  conditional cond (do
    unpredictableIf (anyPc [rd, rm])
    let m ← readReg rm
    let r := signedSat (saturateOperand imm5 shift m).toInt (satImm.toNat + 1)
    writeReg rd (wordOf r.1)
    setQIf r.2
    advance) s

/-- USAT (42_media_simd.md R1181). -/
def execUsat (cond : Cond) (satImm : BitVec 5) (rd : BitVec 4) (imm5 : BitVec 5) (shift : Bool) (rm : BitVec 4) (s : State) : Result :=
  conditional cond (do
    unpredictableIf (anyPc [rd, rm])
    let m ← readReg rm
    let r := unsignedSat (saturateOperand imm5 shift m).toInt satImm.toNat
    writeReg rd (wordOf r.1)
    setQIf r.2
    advance) s

/-- SSAT16 (42_media_simd.md R1182). -/
def execSsat16 (cond : Cond) (satImm rd sbo rm : BitVec 4) (s : State) : Result :=
  conditional cond (do
    shouldBe (sbo == 15)
    unpredictableIf (anyPc [rd, rm])
    let m ← readReg rm
    let lo := signedSat (lowHalf m).toInt (satImm.toNat + 1)
    let hi := signedSat (highHalf m).toInt (satImm.toNat + 1)
    writeReg rd (ofHalves (BitVec.ofInt 16 hi.1) (BitVec.ofInt 16 lo.1))
    setQIf (lo.2 || hi.2)
    advance) s

/-- USAT16 (42_media_simd.md R1183). -/
def execUsat16 (cond : Cond) (satImm rd sbo rm : BitVec 4) (s : State) : Result :=
  conditional cond (do
    shouldBe (sbo == 15)
    unpredictableIf (anyPc [rd, rm])
    let m ← readReg rm
    let lo := unsignedSat (lowHalf m).toInt satImm.toNat
    let hi := unsignedSat (highHalf m).toInt satImm.toNat
    writeReg rd (ofHalves (BitVec.ofInt 16 hi.1) (BitVec.ofInt 16 lo.1))
    setQIf (lo.2 || hi.2)
    advance) s

/-- The bytes of `n` where GE is 1, of `m` elsewhere (42_media_simd.md R1184). -/
def selectBytes (ge : BitVec 4) (n m : Word) : Word :=
  let b (k : Nat) : Byte := if ge.getLsbD k then byteAt n k else byteAt m k
  ofBytes (b 3) (b 2) (b 1) (b 0)

/-- SEL (42_media_simd.md R1184). -/
def execSel (cond : Cond) (rn rd sbo rm : BitVec 4) (s : State) : Result :=
  conditional cond (do
    shouldBe (sbo == 15)
    unpredictableIf (anyPc [rn, rd, rm])
    let n ← readReg rn
    let m ← readReg rm
    finishWord false rd (selectBytes (← get).ge n m)) s

/-- PKHBT (42_media_simd.md R1185). -/
def execPkhbt (cond : Cond) (rn rd : BitVec 4) (imm5 : BitVec 5) (rm : BitVec 4) (s : State) : Result :=
  conditional cond (do
    unpredictableIf (anyPc [rn, rd, rm])
    let n ← readReg rn
    let m ← readReg rm
    finishWord false rd (ofHalves (highHalf (m <<< imm5.toNat)) (lowHalf n))) s

/-- PKHTB (42_media_simd.md R1186). -/
def execPkhtb (cond : Cond) (rn rd : BitVec 4) (imm5 : BitVec 5) (rm : BitVec 4) (s : State) : Result :=
  conditional cond (do
    unpredictableIf (anyPc [rn, rd, rm])
    let n ← readReg rn
    let m ← readReg rm
    finishWord false rd (ofHalves (highHalf n) (lowHalf (m.sshiftRight (if imm5 = 0 then 32 else imm5.toNat))))) s

/-! ### Byte reversal -/

/-- The bytes of each halfword exchanged (42_media_simd.md R1191). -/
def reverseHalves (w : Word) : Word := ofBytes (byteAt w 2) (byteAt w 3) (byteAt w 0) (byteAt w 1)

/-- The bottom halfword byte-reversed and sign-extended (42_media_simd.md R1192). -/
def reverseSigned (w : Word) : Word := (byteAt w 0 ++ byteAt w 1).signExtend 32

/-- The frame of the byte reversals (42_media_simd.md R1190 to R1192). -/
def reversal (f : Word → Word) (sbo rd sbo2 rm : BitVec 4) : M Unit := do
  shouldBe (sbo == 15 && sbo2 == 15)
  unpredictableIf (anyPc [rd, rm])
  let m ← readReg rm
  finishWord false rd (f m)

/-- REV (42_media_simd.md R1190). -/
def execRev (cond : Cond) (sbo rd sbo2 rm : BitVec 4) (s : State) : Result :=
  conditional cond (reversal reverseBytes sbo rd sbo2 rm) s

/-- REV16 (42_media_simd.md R1191). -/
def execRev16 (cond : Cond) (sbo rd sbo2 rm : BitVec 4) (s : State) : Result :=
  conditional cond (reversal reverseHalves sbo rd sbo2 rm) s

/-- REVSH (42_media_simd.md R1192). -/
def execRevsh (cond : Cond) (sbo rd sbo2 rm : BitVec 4) (s : State) : Result :=
  conditional cond (reversal reverseSigned sbo rd sbo2 rm) s

end Sys2Proof.Machine
end

