-- ==== Sys2Proof/Machine/Multiple.lean ====
section
/-!
DEFINITION. LDM and STM, RFE and SRS, SWP and SWPB, and the exclusive accesses (45_ldm_excl_swp.md).
-/
namespace Sys2Proof.Machine

/-! ### Load and store multiple -/

/-- Write registers, in order. -/
def writeRegs (write : BitVec 4 → Word → M Unit) : List (BitVec 4 × Word) → M Unit
  | [] => pure ()
  | (r, w) :: t => do
    write r w
    writeRegs write t

/-- The memory part of a load multiple (45_ldm_excl_swp.md R1360, R1361): the words of `regs` and the new base. An abort
leaves the base and the registers from the aborting word on; `keep` is the register that holds the base. -/
def loadMulti (read : BitVec 4 → M Word) (write : BitVec 4 → Word → M Unit) (keep : BitVec 4) (p u : Bool)
    (rn : BitVec 4) (regs : List (BitVec 4)) (precise : Bool) : M (List Word × Word) := do
  let base ← readReg rn
  let (start, wb) := mode4 p u regs.length base
  let al ← orAbort (← checkAlignment .multi start false)
  let s ← get
  let r ← loadWords (s.multiMode al.va precise) al.va regs.length
  match r.abort with
  | some e =>
    abortedLoads read write keep (regs.zip r.words)
    takeDataAbort e
  | none => pure (r.words, wb)

/-- The memory part of a store multiple (45_ldm_excl_swp.md R1360, R1361): the new base. -/
def storeMulti (p u : Bool) (base : Word) (vs : List Word) : M Word := do
  let (start, wb) := mode4 p u vs.length base
  let al ← orAbort (← checkAlignment .multi start true)
  let s ← get
  storeWords (s.multiMode al.va false) al.va vs
  pure wb

/-- The registers of a list but R15, with the words loaded. -/
def loadedRegs (regs : List (BitVec 4)) (ws : List Word) : List (BitVec 4 × Word) :=
  (regs.zip ws).filter fun x => x.1 != 15

/-- The restrictions of a load multiple (45_ldm_excl_swp.md R1360). -/
def loadListUnpredictable (w : Bool) (rn : BitVec 4) (reglist : BitVec 16) : Bool :=
  reglist == 0 || rn == 15 || (w && reglist.getLsbD rn.toNat)

/-- The restrictions of a store multiple (45_ldm_excl_swp.md R1360). -/
def storeListUnpredictable (w : Bool) (rn : BitVec 4) (reglist : BitVec 16) : Bool :=
  reglist == 0 || rn == 15 || (w && reglist.getLsbD rn.toNat && (listRegs reglist).head? != some rn)

/-- LDM (1) in any instruction set (45_ldm_excl_swp.md R1362). -/
def loadMultiple (p u w : Bool) (rn : BitVec 4) (reglist : BitVec 16) : M Unit := do
  unpredictableIf (loadListUnpredictable w rn reglist)
  let regs := listRegs reglist
  let (ws, wb) ← loadMulti readReg writeReg rn p u rn regs (reglist.getLsbD 15)
  writeRegs writeReg (loadedRegs regs ws)
  if w then writeReg rn wb
  if reglist.getLsbD 15 then loadWritePc (ws.getLastD 0) else advance

/-- The registers of a list as a store transfers them. -/
def storedRegs (read : BitVec 4 → M Word) : List (BitVec 4) → M (List Word)
  | [] => pure []
  | r :: t => do
    let w ← if r = 15 then storedPc else read r
    let ws ← storedRegs read t
    pure (w :: ws)

/-- STM (1) in any instruction set (45_ldm_excl_swp.md R1365). -/
def storeMultiple (p u w : Bool) (rn : BitVec 4) (reglist : BitVec 16) : M Unit := do
  unpredictableIf (storeListUnpredictable w rn reglist)
  let base ← readReg rn
  let vs ← storedRegs readReg (listRegs reglist)
  let wb ← storeMulti p u base vs
  if w then writeReg rn wb
  advance

/-- The forms of the User registers and of the SPSR are Unpredictable in User and System mode (45_ldm_excl_swp.md R1363,
R1364, R1366). -/
def bankedOnly : M Unit := do
  let s ← get
  unpredictableIf (s.mode == .usr || s.mode == .sys)

/-- LDM (1) (45_ldm_excl_swp.md R1362). -/
def execLdm1 (cond : Cond) (p u w : Bool) (rn : BitVec 4) (reglist : BitVec 16) (s : State) : Result :=
  conditional cond (loadMultiple p u w rn reglist) s

/-- LDM (2), User registers (45_ldm_excl_swp.md R1363). -/
def execLdm2 (cond : Cond) (p u sbz : Bool) (rn : BitVec 4) (reglist : BitVec 15) (s : State) : Result :=
  conditional cond (do
    unpredictableIf (sbz || loadListUnpredictable false rn (reglist.setWidth 16))
    bankedOnly
    let regs := listRegs (reglist.setWidth 16)
    let keep : BitVec 4 := if regSlot .usr rn = regSlot (← get).mode rn then rn else 15
    let (ws, _) ← loadMulti readUserReg writeUserReg keep p u rn regs false
    writeRegs writeUserReg (loadedRegs regs ws)
    advance) s

/-- LDM (3), with the CPSR from the SPSR (45_ldm_excl_swp.md R1364). -/
def execLdm3 (cond : Cond) (p u w : Bool) (rn : BitVec 4) (reglist : BitVec 15) (s : State) : Result :=
  conditional cond (do
    unpredictableIf (loadListUnpredictable w rn (1#1 ++ reglist))
    bankedOnly
    let psr ← readSpsr
    let regs := listRegs (1#1 ++ reglist)
    let (ws, wb) ← loadMulti readReg writeReg rn p u rn regs true
    writeRegs writeReg (loadedRegs regs ws)
    if w then writeReg rn wb
    exceptionReturn (ws.getLastD 0) psr) s

/-- STM (1) (45_ldm_excl_swp.md R1365). -/
def execStm1 (cond : Cond) (p u w : Bool) (rn : BitVec 4) (reglist : BitVec 16) (s : State) : Result :=
  conditional cond (storeMultiple p u w rn reglist) s

/-- STM (2), User registers (45_ldm_excl_swp.md R1366). -/
def execStm2 (cond : Cond) (p u sbz : Bool) (rn : BitVec 4) (reglist : BitVec 16) (s : State) : Result :=
  conditional cond (do
    unpredictableIf (sbz || storeListUnpredictable false rn reglist)
    bankedOnly
    let base ← readReg rn
    let vs ← storedRegs readUserReg (listRegs reglist)
    let _ ← storeMulti p u base vs
    advance) s

/-! ### Exception return and save -/

/-- RFE (45_ldm_excl_swp.md R1370). In User mode it goes on under the User mask, as R1370 gives it (log 18). -/
def execRfe (p u w : Bool) (rn : BitVec 4) (s : State) : Result :=
  always (do
    unpredictableIf (rn == 15)
    let base ← readReg rn
    let (start, wb) := mode4 p u 2 base
    let al ← orAbort (← checkAlignment .multi start false)
    let s ← get
    let r ← loadWords (s.multiMode al.va true) al.va 2
    match r.abort with
    | some e => takeDataAbort e
    | none =>
      if w then writeReg rn wb
      exceptionReturn (r.words.getD 0 0) (r.words.getD 1 0)) s

/-- SRS (45_ldm_excl_swp.md R1371). -/
def execSrs (p u w : Bool) (mode : BitVec 5) (s : State) : Result :=
  always (do
    let s ← get
    undefinedIf (s.nonSecure && mode == Mode.mon.toBits)
    let spsr ← readSpsr
    match Mode.ofBits mode with
    | none => refuse .unpredictableOperands
    | some m => do
      let lr ← readReg 14
      let wb ← storeMulti p u (s.regOf m 13) [lr, spsr]
      if w then modify fun s => s.setRegOf m 13 wb
      advance) s

/-! ### Swap -/

/-- The restrictions of SWP and SWPB (45_ldm_excl_swp.md R1380). -/
def swapRestrictions (rn rd sbz rm : BitVec 4) : M Unit := do
  shouldBe (sbz == 0)
  unpredictableIf (rd == 15 || rm == 15 || rn == 15 || rn == rm || rn == rd)

/-- The memory part of SWP and SWPB: load, then store (20_memory.md R611). -/
def swap (load store : AccessType) (n : Nat) (va v : Word) : M Word := do
  let w ← loadItem load n false true va
  storeItem store n false va v
  pure w

/-- SWP (45_ldm_excl_swp.md R1380). -/
def execSwp (cond : Cond) (rn rd sbz rm : BitVec 4) (s : State) : Result :=
  conditional cond (do
    swapRestrictions rn rd sbz rm
    let va ← readReg rn
    let v ← readReg rm
    let sync := (← get).sctlr.getLsbD 22
    let w ← if sync then swap .wordSync .wordSync 4 va v else swap .wordLoad .wordStore 4 va v
    writeReg rd w
    advance) s

/-- SWPB (45_ldm_excl_swp.md R1381). -/
def execSwpb (cond : Cond) (rn rd sbz rm : BitVec 4) (s : State) : Result :=
  conditional cond (do
    swapRestrictions rn rd sbz rm
    let va ← readReg rn
    let v ← readReg rm
    let w ← swap .byte .byte 1 va v
    writeReg rd w
    advance) s

/-! ### Exclusive accesses -/

/-- The frame of LDREX, LDREXB and LDREXH (45_ldm_excl_swp.md R1390). -/
def loadExclusiveReg (t : AccessType) (n : Nat) (rn rd sbo sbo2 : BitVec 4) : M Unit := do
  shouldBe (sbo == 15 && sbo2 == 15)
  unpredictableIf (rd == 15 || rn == 15)
  let va ← readReg rn
  let ws ← loadExclusive t va n
  writeReg rd (ws.getD 0 0)
  advance

/-- The frame of STREX, STREXB and STREXH (45_ldm_excl_swp.md R1390). -/
def storeExclusiveReg (t : AccessType) (n : Nat) (rn rd sbo rm : BitVec 4) : M Unit := do
  shouldBe (sbo == 15)
  unpredictableIf (rd == 15 || rn == 15 || rm == 15 || rd == rn || rd == rm)
  let va ← readReg rn
  let v ← readReg rm
  let status ← storeExclusive t va n [v]
  writeReg rd status
  advance

/-- LDREX (45_ldm_excl_swp.md R1391). -/
def execLdrex (cond : Cond) (rn rd sbo sbo2 : BitVec 4) (s : State) : Result :=
  conditional cond (loadExclusiveReg .wordSync 4 rn rd sbo sbo2) s

/-- LDREXB (45_ldm_excl_swp.md R1393). -/
def execLdrexb (cond : Cond) (rn rd sbo sbo2 : BitVec 4) (s : State) : Result :=
  conditional cond (loadExclusiveReg .byte 1 rn rd sbo sbo2) s

/-- LDREXH (45_ldm_excl_swp.md R1395). -/
def execLdrexh (cond : Cond) (rn rd sbo sbo2 : BitVec 4) (s : State) : Result :=
  conditional cond (loadExclusiveReg .halfSync 2 rn rd sbo sbo2) s

/-- LDREXD (45_ldm_excl_swp.md R1397). -/
def execLdrexd (cond : Cond) (rn rd sbo sbo2 : BitVec 4) (s : State) : Result :=
  conditional cond (do
    shouldBe (sbo == 15 && sbo2 == 15)
    unpredictableIf (rd.getLsbD 0 || rd == 14 || rn == 15)
    let va ← readReg rn
    let ws ← loadExclusive .doubleSync va 8
    writeReg rd (ws.getD 0 0)
    writeReg (rd + 1) (ws.getD 1 0)
    advance) s

/-- STREX (45_ldm_excl_swp.md R1392). -/
def execStrex (cond : Cond) (rn rd sbo rm : BitVec 4) (s : State) : Result :=
  conditional cond (storeExclusiveReg .wordSync 4 rn rd sbo rm) s

/-- STREXB (45_ldm_excl_swp.md R1394). -/
def execStrexb (cond : Cond) (rn rd sbo rm : BitVec 4) (s : State) : Result :=
  conditional cond (storeExclusiveReg .byte 1 rn rd sbo rm) s

/-- STREXH (45_ldm_excl_swp.md R1396). -/
def execStrexh (cond : Cond) (rn rd sbo rm : BitVec 4) (s : State) : Result :=
  conditional cond (storeExclusiveReg .halfSync 2 rn rd sbo rm) s

/-- STREXD (45_ldm_excl_swp.md R1398). -/
def execStrexd (cond : Cond) (rn rd sbo rm : BitVec 4) (s : State) : Result :=
  conditional cond (do
    shouldBe (sbo == 15)
    unpredictableIf (rd == 15 || rn == 15 || rm.getLsbD 0 || rm == 14 || rd == rn || rd == rm || rd == rm + 1)
    let va ← readReg rn
    let v0 ← readReg rm
    let v1 ← readReg (rm + 1)
    let status ← storeExclusive .doubleSync va 8 [v0, v1]
    writeReg rd status
    advance) s

/-- CLREX (45_ldm_excl_swp.md R1399): the table fixes every bit of its word, and another word of the row is Undefined
(30_encoding.md R833, R860). -/
def execClrex (sbo sbo2 sbz sbo3 : BitVec 4) (s : State) : Result :=
  always (do
    undefinedIf (!(sbo == 15 && sbo2 == 15 && sbz == 0 && sbo3 == 15))
    modify fun s => s.setLocal false
    advance) s

end Sys2Proof.Machine
end

