-- ==== Sys2Proof/Machine/Thumb.lean ====
section
/-!
DEFINITION. The Thumb instructions (47_thumb.md), over the operations of the ARM instructions they correspond to (R1591).
-/
namespace Sys2Proof.Machine

/-! ### Shared parts -/

/-- A low register (47_thumb.md R1501). -/
def low (r : BitVec 3) : BitVec 4 := r.setWidth 4

/-- A register of the high-register encodings (47_thumb.md R1501). -/
def high (h : Bool) (r : BitVec 3) : BitVec 4 := BitVec.ofBool h ++ r

/-- A data-processing instruction on low registers: the result of an opcode and its flags (47_thumb.md R1500). -/
def thumbAlu (op : AluOp) (rd : BitVec 4) (a b : Word) : M Unit := do
  let s ← get
  let r := op.apply a b s.flagC s.nzcv
  writeReg rd r.1
  setFlags r.2
  advance

/-- A register and a register (47_thumb.md R1521 to R1537). -/
def thumbRegs (op : AluOp) (rm rd : BitVec 3) : M Unit := do
  let s ← get
  thumbAlu op (low rd) (s.reg (low rd)) (s.reg (low rm))

/-- A comparison: only the flags (47_thumb.md R1529 to R1532, R1538). -/
def thumbCompare (op : AluOp) (a b : Word) : M Unit := do
  let s ← get
  setFlags (op.apply a b s.flagC s.nzcv).2
  advance

/-- A shift: the value, the flags N and Z of it, and C (47_thumb.md R1539 to R1545). -/
def thumbShift (rd : BitVec 4) (r : Word × Bool) : M Unit := do
  let s ← get
  writeReg rd r.1
  setFlags (logicFlags r.1 r.2 s.flagV)
  advance

/-- A shift by a register (47_thumb.md R1540, R1542, R1544, R1545). -/
def thumbShiftReg (type : BitVec 2) (rs rd : BitVec 3) : M Unit := do
  let s ← get
  thumbShift (low rd) (shiftC type (s.reg (low rd)) ((s.reg (low rs)).extractLsb' 0 8).toNat s.flagC)

/-- A write of any register by a high-register form: the PC by `ALUWritePC` (47_thumb.md R1511, R1517). -/
def writeHigh (rd : BitVec 4) (v : Word) : M Unit := do
  if rd = 15 then aluWritePc v
  else
    writeReg rd v
    advance

/-- The PC as a base for data (47_thumb.md R1502). -/
def thumbBase : M Word := do
  let pc ← readPc
  pure (pc &&& 0xFFFFFFFC)

/-- An 8-bit immediate times 4. -/
def imm8x4 (i : BitVec 8) : Word := i.setWidth 32 <<< 2

/-- A load of one register at an address (47_thumb.md R1503). -/
def thumbLoad (t : AccessType) (n : Nat) (ext : Word → Word) (rd : BitVec 3) (va : Word) : M Unit := do
  let w ← loadItem t n false false va
  writeReg (low rd) (ext w)
  advance

/-- A store of one register at an address (47_thumb.md R1503). -/
def thumbStore (t : AccessType) (n : Nat) (rd : BitVec 3) (va : Word) : M Unit := do
  let s ← get
  storeItem t n false va (s.reg (low rd))
  advance

/-- The address of a register and a register (47_thumb.md R1549). -/
def State.sumAddress (s : State) (rn rm : BitVec 3) : Word := s.reg (low rn) + s.reg (low rm)

/-- The address of a register and a scaled 5-bit immediate (47_thumb.md R1546 to R1548). -/
def State.immAddress (s : State) (rn : BitVec 3) (imm5 : BitVec 5) (scale : Nat) : Word :=
  s.reg (low rn) + (imm5.setWidth 32 <<< scale)

/-- The return address of a Thumb branch with link, from the PC as it reads (47_thumb.md R1571). -/
def thumbLink (pcRead : Word) : Word := (pcRead - 2) ||| 1

/-- A byte reversal or an extend of a register (47_thumb.md R1577 to R1585). -/
def thumbUnary (f : Word → Word) (rm rd : BitVec 3) : M Unit := do
  let s ← get
  writeReg (low rd) (f (s.reg (low rm)))
  advance

/-- The values STMIA stores: a base in the list that is not its lowest register stores an undefined value (47_thumb.md
R1564; log 35). -/
def thumbStored (rn : BitVec 4) (lowest : Option (BitVec 4)) : List (BitVec 4) → M (List Word)
  | [] => pure []
  | r :: t => do
    let s ← get
    let w ← if r = rn && lowest != some rn then draw else pure (s.reg r)
    let ws ← thumbStored rn lowest t
    pure (w :: ws)

/-! ### The instructions -/

/-- LSL, immediate (47_thumb.md R1539). -/
def execTLslImm (imm5 : BitVec 5) (rm rd : BitVec 3) (s : State) : Result :=
  always (do
    let s ← get
    thumbShift (low rd) (immShiftC 0b00 (s.reg (low rm)) imm5 s.flagC)) s

/-- LSR, immediate (47_thumb.md R1541). -/
def execTLsrImm (imm5 : BitVec 5) (rm rd : BitVec 3) (s : State) : Result :=
  always (do
    let s ← get
    thumbShift (low rd) (immShiftC 0b01 (s.reg (low rm)) imm5 s.flagC)) s

/-- ASR, immediate (47_thumb.md R1543). -/
def execTAsrImm (imm5 : BitVec 5) (rm rd : BitVec 3) (s : State) : Result :=
  always (do
    let s ← get
    thumbShift (low rd) (immShiftC 0b10 (s.reg (low rm)) imm5 s.flagC)) s

/-- ADD, register (47_thumb.md R1516). -/
def execTAddReg (rm rn rd : BitVec 3) (s : State) : Result :=
  always (do
    let s ← get
    thumbAlu .add (low rd) (s.reg (low rn)) (s.reg (low rm))) s

/-- SUB, register (47_thumb.md R1524). -/
def execTSubReg (rm rn rd : BitVec 3) (s : State) : Result :=
  always (do
    let s ← get
    thumbAlu .sub (low rd) (s.reg (low rn)) (s.reg (low rm))) s

/-- MOV of low registers, which adds zero (47_thumb.md R1512). -/
def execTMovLow (rn rd : BitVec 3) (s : State) : Result :=
  always (do
    let s ← get
    thumbAlu .add (low rd) (s.reg (low rn)) 0) s

/-- ADD, 3-bit immediate (47_thumb.md R1514). -/
def execTAddImm3 (imm3 rn rd : BitVec 3) (s : State) : Result :=
  always (do
    let s ← get
    thumbAlu .add (low rd) (s.reg (low rn)) (imm3.setWidth 32)) s

/-- SUB, 3-bit immediate (47_thumb.md R1522). -/
def execTSubImm3 (imm3 rn rd : BitVec 3) (s : State) : Result :=
  always (do
    let s ← get
    thumbAlu .sub (low rd) (s.reg (low rn)) (imm3.setWidth 32)) s

/-- MOV, immediate (47_thumb.md R1510). -/
def execTMovImm (rd : BitVec 3) (imm8 : BitVec 8) (s : State) : Result :=
  always (thumbAlu .mov (low rd) 0 (imm8.setWidth 32)) s

/-- CMP, immediate (47_thumb.md R1529). -/
def execTCmpImm (rn : BitVec 3) (imm8 : BitVec 8) (s : State) : Result :=
  always (do
    let s ← get
    thumbCompare .sub (s.reg (low rn)) (imm8.setWidth 32)) s

/-- ADD, 8-bit immediate (47_thumb.md R1515). -/
def execTAddImm8 (rd : BitVec 3) (imm8 : BitVec 8) (s : State) : Result :=
  always (do
    let s ← get
    thumbAlu .add (low rd) (s.reg (low rd)) (imm8.setWidth 32)) s

/-- SUB, 8-bit immediate (47_thumb.md R1523). -/
def execTSubImm8 (rd : BitVec 3) (imm8 : BitVec 8) (s : State) : Result :=
  always (do
    let s ← get
    thumbAlu .sub (low rd) (s.reg (low rd)) (imm8.setWidth 32)) s

/-- AND (47_thumb.md R1533). -/
def execTAnd (rm rd : BitVec 3) (s : State) : Result :=
  always (thumbRegs .and rm rd) s

/-- EOR (47_thumb.md R1534). -/
def execTEor (rm rd : BitVec 3) (s : State) : Result :=
  always (thumbRegs .eor rm rd) s

/-- ADC (47_thumb.md R1521). -/
def execTAdc (rm rd : BitVec 3) (s : State) : Result :=
  always (thumbRegs .adc rm rd) s

/-- SBC (47_thumb.md R1526). -/
def execTSbc (rm rd : BitVec 3) (s : State) : Result :=
  always (thumbRegs .sbc rm rd) s

/-- ORR (47_thumb.md R1535). -/
def execTOrr (rm rd : BitVec 3) (s : State) : Result :=
  always (thumbRegs .orr rm rd) s

/-- BIC (47_thumb.md R1536). -/
def execTBic (rm rd : BitVec 3) (s : State) : Result :=
  always (thumbRegs .bic rm rd) s

/-- MVN (47_thumb.md R1537). -/
def execTMvn (rm rd : BitVec 3) (s : State) : Result :=
  always (thumbRegs .mvn rm rd) s

/-- LSL, register (47_thumb.md R1540). -/
def execTLslReg (rm rd : BitVec 3) (s : State) : Result :=
  always (thumbShiftReg 0b00 rm rd) s

/-- LSR, register (47_thumb.md R1542). -/
def execTLsrReg (rm rd : BitVec 3) (s : State) : Result :=
  always (thumbShiftReg 0b01 rm rd) s

/-- ASR, register (47_thumb.md R1544). -/
def execTAsrReg (rm rd : BitVec 3) (s : State) : Result :=
  always (thumbShiftReg 0b10 rm rd) s

/-- ROR (47_thumb.md R1545). -/
def execTRor (rm rd : BitVec 3) (s : State) : Result :=
  always (thumbShiftReg 0b11 rm rd) s

/-- TST (47_thumb.md R1538). -/
def execTTst (rm rd : BitVec 3) (s : State) : Result :=
  always (do
    let s ← get
    thumbCompare .and (s.reg (low rd)) (s.reg (low rm))) s

/-- CMP, low registers (47_thumb.md R1530). -/
def execTCmpLow (rm rd : BitVec 3) (s : State) : Result :=
  always (do
    let s ← get
    thumbCompare .sub (s.reg (low rd)) (s.reg (low rm))) s

/-- CMN (47_thumb.md R1532). -/
def execTCmn (rm rd : BitVec 3) (s : State) : Result :=
  always (do
    let s ← get
    thumbCompare .add (s.reg (low rd)) (s.reg (low rm))) s

/-- NEG (47_thumb.md R1527). -/
def execTNeg (rm rd : BitVec 3) (s : State) : Result :=
  always (do
    let s ← get
    thumbAlu .rsb (low rd) (s.reg (low rm)) 0) s

/-- MUL (47_thumb.md R1528). -/
def execTMul (rm rd : BitVec 3) (s : State) : Result :=
  always (do
    let s ← get
    finishWord true (low rd) (s.reg (low rm) * s.reg (low rd))) s

/-- ADD, high registers (47_thumb.md R1517). -/
def execTAddHigh (d m : Bool) (rm rd : BitVec 3) (s : State) : Result :=
  always (do
    unpredictableIf (!d && !m)
    let a ← readReg (high d rd)
    let b ← readReg (high m rm)
    writeHigh (high d rd) (a + b)) s

/-- CMP, high registers (47_thumb.md R1531). -/
def execTCmpHigh (hn m : Bool) (rm rn : BitVec 3) (s : State) : Result :=
  always (do
    unpredictableIf ((!hn && !m) || high hn rn == 15)
    let a ← readReg (high hn rn)
    let b ← readReg (high m rm)
    thumbCompare .sub a b) s

/-- MOV, high registers (47_thumb.md R1511). -/
def execTMovHigh (d m : Bool) (rm rd : BitVec 3) (s : State) : Result :=
  always (do
    let v ← readReg (high m rm)
    writeHigh (high d rd) v) s

/-- CPY (47_thumb.md R1513). -/
def execTCpy (d m : Bool) (rm rd : BitVec 3) (s : State) : Result :=
  always (do
    let v ← readReg (high m rm)
    writeHigh (high d rd) v) s

/-- BX (47_thumb.md R1574). -/
def execTBx (m : Bool) (rm sbz : BitVec 3) (s : State) : Result :=
  always (do
    shouldBe (sbz == 0)
    let v ← readReg (high m rm)
    bxWritePc v) s

/-- BLX, register (47_thumb.md R1573). -/
def execTBlxReg (m : Bool) (rm sbz : BitVec 3) (s : State) : Result :=
  always (do
    shouldBe (sbz == 0)
    unpredictableIf (high m rm == 15)
    let v ← readReg (high m rm)
    let pc ← readPc
    writeReg 14 (thumbLink pc)
    bxWritePc v) s

/-- LDR, PC-relative (47_thumb.md R1554). -/
def execTLdrPc (rd : BitVec 3) (imm8 : BitVec 8) (s : State) : Result :=
  always (do
    let base ← thumbBase
    thumbLoad .wordLoad 4 id rd (base + imm8x4 imm8)) s

/-- STR, register offset (47_thumb.md R1560). -/
def execTStrReg (rm rn rd : BitVec 3) (s : State) : Result :=
  always (do
    let s ← get
    thumbStore .wordStore 4 rd (s.sumAddress rn rm)) s

/-- STR, immediate offset (47_thumb.md R1557). -/
def execTStrImm (imm5 : BitVec 5) (rn rd : BitVec 3) (s : State) : Result :=
  always (do
    let s ← get
    thumbStore .wordStore 4 rd (s.immAddress rn imm5 2)) s

/-- LDR, register offset (47_thumb.md R1549). -/
def execTLdrReg (rm rn rd : BitVec 3) (s : State) : Result :=
  always (do
    let s ← get
    thumbLoad .wordLoad 4 id rd (s.sumAddress rn rm)) s

/-- LDR, immediate offset (47_thumb.md R1546). -/
def execTLdrImm (imm5 : BitVec 5) (rn rd : BitVec 3) (s : State) : Result :=
  always (do
    let s ← get
    thumbLoad .wordLoad 4 id rd (s.immAddress rn imm5 2)) s

/-- STRH, register offset (47_thumb.md R1561). -/
def execTStrhReg (rm rn rd : BitVec 3) (s : State) : Result :=
  always (do
    let s ← get
    thumbStore .half 2 rd (s.sumAddress rn rm)) s

/-- STRH, immediate offset (47_thumb.md R1558). -/
def execTStrhImm (imm5 : BitVec 5) (rn rd : BitVec 3) (s : State) : Result :=
  always (do
    let s ← get
    thumbStore .half 2 rd (s.immAddress rn imm5 1)) s

/-- LDRH, register offset (47_thumb.md R1550). -/
def execTLdrhReg (rm rn rd : BitVec 3) (s : State) : Result :=
  always (do
    let s ← get
    thumbLoad .half 2 id rd (s.sumAddress rn rm)) s

/-- LDRH, immediate offset (47_thumb.md R1547). -/
def execTLdrhImm (imm5 : BitVec 5) (rn rd : BitVec 3) (s : State) : Result :=
  always (do
    let s ← get
    thumbLoad .half 2 id rd (s.immAddress rn imm5 1)) s

/-- STRB, register offset (47_thumb.md R1562). -/
def execTStrbReg (rm rn rd : BitVec 3) (s : State) : Result :=
  always (do
    let s ← get
    thumbStore .byte 1 rd (s.sumAddress rn rm)) s

/-- STRB, immediate offset (47_thumb.md R1559). -/
def execTStrbImm (imm5 : BitVec 5) (rn rd : BitVec 3) (s : State) : Result :=
  always (do
    let s ← get
    thumbStore .byte 1 rd (s.immAddress rn imm5 0)) s

/-- LDRB, register offset (47_thumb.md R1552). -/
def execTLdrbReg (rm rn rd : BitVec 3) (s : State) : Result :=
  always (do
    let s ← get
    thumbLoad .byte 1 id rd (s.sumAddress rn rm)) s

/-- LDRB, immediate offset (47_thumb.md R1548). -/
def execTLdrbImm (imm5 : BitVec 5) (rn rd : BitVec 3) (s : State) : Result :=
  always (do
    let s ← get
    thumbLoad .byte 1 id rd (s.immAddress rn imm5 0)) s

/-- LDRSB (47_thumb.md R1553). -/
def execTLdrsb (rm rn rd : BitVec 3) (s : State) : Result :=
  always (do
    let s ← get
    thumbLoad .byte 1 signByte rd (s.sumAddress rn rm)) s

/-- LDRSH (47_thumb.md R1551). -/
def execTLdrsh (rm rn rd : BitVec 3) (s : State) : Result :=
  always (do
    let s ← get
    thumbLoad .half 2 signHalf rd (s.sumAddress rn rm)) s

/-- STR, SP-relative (47_thumb.md R1563). -/
def execTStrSp (rd : BitVec 3) (imm8 : BitVec 8) (s : State) : Result :=
  always (do
    let s ← get
    thumbStore .wordStore 4 rd (s.reg 13 + imm8x4 imm8)) s

/-- LDR, SP-relative (47_thumb.md R1555). -/
def execTLdrSp (rd : BitVec 3) (imm8 : BitVec 8) (s : State) : Result :=
  always (do
    let s ← get
    thumbLoad .wordLoad 4 id rd (s.reg 13 + imm8x4 imm8)) s

/-- ADD, PC plus immediate (47_thumb.md R1518). -/
def execTAddPc (rd : BitVec 3) (imm8 : BitVec 8) (s : State) : Result :=
  always (do
    let base ← thumbBase
    writeReg (low rd) (base + imm8x4 imm8)
    advance) s

/-- ADD, SP plus immediate to a register (47_thumb.md R1519). -/
def execTAddSp (rd : BitVec 3) (imm8 : BitVec 8) (s : State) : Result :=
  always (do
    let s ← get
    writeReg (low rd) (s.reg 13 + imm8x4 imm8)
    advance) s

/-- ADD to the SP (47_thumb.md R1520). -/
def execTAddSpImm (imm7 : BitVec 7) (s : State) : Result :=
  always (do
    let s ← get
    writeReg 13 (s.reg 13 + (imm7.setWidth 32 <<< 2))
    advance) s

/-- SUB from the SP (47_thumb.md R1525). -/
def execTSubSpImm (imm7 : BitVec 7) (s : State) : Result :=
  always (do
    let s ← get
    writeReg 13 (s.reg 13 - (imm7.setWidth 32 <<< 2))
    advance) s

/-- SXTH (47_thumb.md R1582). -/
def execTSxth (rm rd : BitVec 3) (s : State) : Result :=
  always (thumbUnary signHalf rm rd) s

/-- SXTB (47_thumb.md R1583). -/
def execTSxtb (rm rd : BitVec 3) (s : State) : Result :=
  always (thumbUnary signByte rm rd) s

/-- UXTH (47_thumb.md R1584). -/
def execTUxth (rm rd : BitVec 3) (s : State) : Result :=
  always (thumbUnary (· &&& 0xFFFF) rm rd) s

/-- UXTB (47_thumb.md R1585). -/
def execTUxtb (rm rd : BitVec 3) (s : State) : Result :=
  always (thumbUnary (· &&& 0xFF) rm rd) s

/-- REV (47_thumb.md R1577). -/
def execTRev (rm rd : BitVec 3) (s : State) : Result :=
  always (thumbUnary reverseBytes rm rd) s

/-- REV16 (47_thumb.md R1578). -/
def execTRev16 (rm rd : BitVec 3) (s : State) : Result :=
  always (thumbUnary reverseHalves rm rd) s

/-- REVSH (47_thumb.md R1579). -/
def execTRevsh (rm rd : BitVec 3) (s : State) : Result :=
  always (thumbUnary reverseSigned rm rd) s

/-- PUSH (47_thumb.md R1565). -/
def execTPush (r : Bool) (reglist : BitVec 8) (s : State) : Result :=
  always (storeMultiple true false true 13 (BitVec.ofBool false ++ BitVec.ofBool r ++ 0#6 ++ reglist)) s

/-- POP (47_thumb.md R1566). -/
def execTPop (r : Bool) (reglist : BitVec 8) (s : State) : Result :=
  always (loadMultiple false true true 13 (BitVec.ofBool r ++ 0#7 ++ reglist)) s

/-- SETEND (47_thumb.md R1576). -/
def execTSetend (eBit : Bool) (sbz : BitVec 3) (s : State) : Result :=
  always (do
    shouldBe (sbz == 0)
    modify fun s => s.setE eBit
    advance) s

/-- CPS; it never changes the mode (47_thumb.md R1575). -/
def execTCps (imod sbz aBit iBit fBit : Bool) (s : State) : Result :=
  always (do
    unpredictableIf (sbz || !(aBit || iBit || fBit))
    changeState (1#1 ++ BitVec.ofBool imod) false aBit iBit fBit 0
    advance) s

/-- BKPT (47_thumb.md R1581). -/
def execTBkpt (_imm8 : BitVec 8) (s : State) : Result :=
  always (modify State.softwareBreakpoint) s

/-- SVC (47_thumb.md R1580). -/
def execTSvc (_imm8 : BitVec 8) (s : State) : Result :=
  always (raise .svc State.nextInsn fun _ => false) s

/-- UNDEFINED (47_thumb.md R1590). -/
def execTUndefined1 (_any : BitVec 12) (s : State) : Result :=
  always raiseUndefined s

/-- UNDEFINED (47_thumb.md R1590). -/
def execTUndefined2 (_any : BitVec 8) (s : State) : Result :=
  always raiseUndefined s

/-- UNDEFINED (47_thumb.md R1590). -/
def execTUndefined3 (_any : BitVec 10) (s : State) : Result :=
  always raiseUndefined s

/-- STMIA (47_thumb.md R1564). -/
def execTStmia (rn : BitVec 3) (reglist : BitVec 8) (s : State) : Result :=
  always (do
    unpredictableIf (reglist == 0)
    let s ← get
    let regs := listRegs (reglist.setWidth 16)
    let vs ← thumbStored (low rn) regs.head? regs
    let wb ← storeMulti false true (s.reg (low rn)) vs
    writeReg (low rn) wb
    advance) s

/-- LDMIA; a base in the list keeps the loaded value (47_thumb.md R1556). -/
def execTLdmia (rn : BitVec 3) (reglist : BitVec 8) (s : State) : Result :=
  always (loadMultiple false true (!reglist.getLsbD rn.toNat) (low rn) (reglist.setWidth 16)) s

/-- B, conditional; the conditions 1110 and 1111 are the rows UNDEFINED and SVC (47_thumb.md R1567). -/
def execTBCond (cond : BitVec 4) (imm8 : BitVec 8) (s : State) : Result :=
  match Cond.ofBits cond with
  | some c =>
    conditionalBranch c (do
      let pc ← readPc
      branchTo (pc + (imm8.signExtend 32 <<< 1))) s
  | none => always raiseUndefined s

/-- B (47_thumb.md R1568). -/
def execTB (imm11 : BitVec 11) (s : State) : Result :=
  always (do
    let pc ← readPc
    branchTo (pc + (imm11.signExtend 32 <<< 1))) s

/-- BL and BLX, first halfword (47_thumb.md R1570). -/
def execTBlFirst (imm11 : BitVec 11) (s : State) : Result :=
  always (do
    let pc ← readPc
    writeReg 14 (pc + (imm11.signExtend 32 <<< 12))
    advance) s

/-- BL, second halfword; bit 0 of the target is cleared (log 41) (47_thumb.md R1571). -/
def execTBlSecond (imm11 : BitVec 11) (s : State) : Result :=
  always (do
    let s ← get
    let pc ← readPc
    writeReg 14 (thumbLink pc)
    branchTo ((s.reg 14 + (imm11.setWidth 32 <<< 1)) &&& 0xFFFFFFFE)) s

/-- BLX, second halfword (47_thumb.md R1572). -/
def execTBlxSecond (imm11 : BitVec 10) (s : State) : Result :=
  always (do
    let s ← get
    let pc ← readPc
    writeReg 14 (thumbLink pc)
    modify fun s => s.setT false
    branchTo ((s.reg 14 + (imm11.setWidth 32 <<< 2)) &&& 0xFFFFFFFC)) s

end Sys2Proof.Machine
end

