-- ==== Sys2Proof/Machine/Dispatch.lean ====
section
/-!
DEFINITION. The dispatch: one arm for each constructor of `Instr`, each one direct call of the meaning of its instruction.
-/
namespace Sys2Proof.Machine

/-- What an instruction does. -/
def exec (i : Instr) (s : State) : Host.Outcome State Fault Refusal :=
  match i with
  | .cps imod mmod sbz aBit iBit fBit mode => Sys2Proof.Machine.execCps imod mmod sbz aBit iBit fBit mode s
  | .setend sbz sbz2 eBit sbz3 sbz4 => Sys2Proof.Machine.execSetend sbz sbz2 eBit sbz3 sbz4 s
  | .pldImm u rn imm12 => Sys2Proof.Machine.execPldImm u rn imm12 s
  | .pldReg u rn imm5 shift rm => Sys2Proof.Machine.execPldReg u rn imm5 shift rm s
  | .clrex sbo sbo2 sbz sbo3 => Sys2Proof.Machine.execClrex sbo sbo2 sbz sbo3 s
  | .srs p u w mode => Sys2Proof.Machine.execSrs p u w mode s
  | .rfe p u w rn => Sys2Proof.Machine.execRfe p u w rn s
  | .blxLabel hBit imm24 => Sys2Proof.Machine.execBlxLabel hBit imm24 s
  | .mcrr2 rn rd cp opc crm => Sys2Proof.Machine.execMcrr2 rn rd cp opc crm s
  | .mrrc2 rn rd cp opc crm => Sys2Proof.Machine.execMrrc2 rn rd cp opc crm s
  | .undefined1 any any2 => Sys2Proof.Machine.execUndefined1 any any2 s
  | .stc2 p u nBit w rn crd cp imm8 => Sys2Proof.Machine.execStc2 p u nBit w rn crd cp imm8 s
  | .ldc2 p u nBit w rn crd cp imm8 => Sys2Proof.Machine.execLdc2 p u nBit w rn crd cp imm8 s
  | .cdp2 opc1 crn crd cp opc2 crm => Sys2Proof.Machine.execCdp2 opc1 crn crd cp opc2 crm s
  | .mcr2 opc1 crn rd cp opc2 crm => Sys2Proof.Machine.execMcr2 opc1 crn rd cp opc2 crm s
  | .mrc2 opc1 crn rd cp opc2 crm => Sys2Proof.Machine.execMrc2 opc1 crn rd cp opc2 crm s
  | .undefined2 any => Sys2Proof.Machine.execUndefined2 any s
  | .mul cond sBit rd sbz rs rm => Sys2Proof.Machine.execMul cond sBit rd sbz rs rm s
  | .mla cond sBit rd rn rs rm => Sys2Proof.Machine.execMla cond sBit rd rn rs rm s
  | .umaal cond rdHi rdLo rs rm => Sys2Proof.Machine.execUmaal cond rdHi rdLo rs rm s
  | .undefined3 cond any any2 => Sys2Proof.Machine.execUndefined3 cond any any2 s
  | .undefined4 cond any any2 any3 => Sys2Proof.Machine.execUndefined4 cond any any2 any3 s
  | .umull cond sBit rdHi rdLo rs rm => Sys2Proof.Machine.execUmull cond sBit rdHi rdLo rs rm s
  | .umlal cond sBit rdHi rdLo rs rm => Sys2Proof.Machine.execUmlal cond sBit rdHi rdLo rs rm s
  | .smull cond sBit rdHi rdLo rs rm => Sys2Proof.Machine.execSmull cond sBit rdHi rdLo rs rm s
  | .smlal cond sBit rdHi rdLo rs rm => Sys2Proof.Machine.execSmlal cond sBit rdHi rdLo rs rm s
  | .swp cond rn rd sbz rm => Sys2Proof.Machine.execSwp cond rn rd sbz rm s
  | .swpb cond rn rd sbz rm => Sys2Proof.Machine.execSwpb cond rn rd sbz rm s
  | .undefined5 cond any any2 any3 => Sys2Proof.Machine.execUndefined5 cond any any2 any3 s
  | .strex cond rn rd sbo rm => Sys2Proof.Machine.execStrex cond rn rd sbo rm s
  | .ldrex cond rn rd sbo sbo2 => Sys2Proof.Machine.execLdrex cond rn rd sbo sbo2 s
  | .strexd cond rn rd sbo rm => Sys2Proof.Machine.execStrexd cond rn rd sbo rm s
  | .ldrexd cond rn rd sbo sbo2 => Sys2Proof.Machine.execLdrexd cond rn rd sbo sbo2 s
  | .strexb cond rn rd sbo rm => Sys2Proof.Machine.execStrexb cond rn rd sbo rm s
  | .ldrexb cond rn rd sbo sbo2 => Sys2Proof.Machine.execLdrexb cond rn rd sbo sbo2 s
  | .strexh cond rn rd sbo rm => Sys2Proof.Machine.execStrexh cond rn rd sbo rm s
  | .ldrexh cond rn rd sbo sbo2 => Sys2Proof.Machine.execLdrexh cond rn rd sbo sbo2 s
  | .strhImm cond p u w rn rd immH immL => Sys2Proof.Machine.execStrhImm cond p u w rn rd immH immL s
  | .strhReg cond p u w rn rd sbz rm => Sys2Proof.Machine.execStrhReg cond p u w rn rd sbz rm s
  | .ldrhImm cond p u w rn rd immH immL => Sys2Proof.Machine.execLdrhImm cond p u w rn rd immH immL s
  | .ldrhReg cond p u w rn rd sbz rm => Sys2Proof.Machine.execLdrhReg cond p u w rn rd sbz rm s
  | .ldrdImm cond p u w rn rd immH immL => Sys2Proof.Machine.execLdrdImm cond p u w rn rd immH immL s
  | .ldrdReg cond p u w rn rd sbz rm => Sys2Proof.Machine.execLdrdReg cond p u w rn rd sbz rm s
  | .ldrsbImm cond p u w rn rd immH immL => Sys2Proof.Machine.execLdrsbImm cond p u w rn rd immH immL s
  | .ldrsbReg cond p u w rn rd sbz rm => Sys2Proof.Machine.execLdrsbReg cond p u w rn rd sbz rm s
  | .strdImm cond p u w rn rd immH immL => Sys2Proof.Machine.execStrdImm cond p u w rn rd immH immL s
  | .strdReg cond p u w rn rd sbz rm => Sys2Proof.Machine.execStrdReg cond p u w rn rd sbz rm s
  | .ldrshImm cond p u w rn rd immH immL => Sys2Proof.Machine.execLdrshImm cond p u w rn rd immH immL s
  | .ldrshReg cond p u w rn rd sbz rm => Sys2Proof.Machine.execLdrshReg cond p u w rn rd sbz rm s
  | .mrs cond r sbo rd sbz sbz2 => Sys2Proof.Machine.execMrs cond r sbo rd sbz sbz2 s
  | .msrReg cond r mask sbo sbz rm => Sys2Proof.Machine.execMsrReg cond r mask sbo sbz rm s
  | .bx cond sbo sbo2 sbo3 rm => Sys2Proof.Machine.execBx cond sbo sbo2 sbo3 rm s
  | .clz cond sbo rd sbo2 rm => Sys2Proof.Machine.execClz cond sbo rd sbo2 rm s
  | .bxj cond sbo sbo2 sbo3 rm => Sys2Proof.Machine.execBxj cond sbo sbo2 sbo3 rm s
  | .blxReg cond sbo sbo2 sbo3 rm => Sys2Proof.Machine.execBlxReg cond sbo sbo2 sbo3 rm s
  | .qadd cond rn rd sbz rm => Sys2Proof.Machine.execQadd cond rn rd sbz rm s
  | .qsub cond rn rd sbz rm => Sys2Proof.Machine.execQsub cond rn rd sbz rm s
  | .qdadd cond rn rd sbz rm => Sys2Proof.Machine.execQdadd cond rn rd sbz rm s
  | .qdsub cond rn rd sbz rm => Sys2Proof.Machine.execQdsub cond rn rd sbz rm s
  | .bkpt cond imm12 imm4 => Sys2Proof.Machine.execBkpt cond imm12 imm4 s
  | .smc cond imm12 imm4 => Sys2Proof.Machine.execSmc cond imm12 imm4 s
  | .smlaxy cond rd rn rs y x rm => Sys2Proof.Machine.execSmlaxy cond rd rn rs y x rm s
  | .smlawy cond rd rn rs y rm => Sys2Proof.Machine.execSmlawy cond rd rn rs y rm s
  | .smulwy cond rd sbz rs y rm => Sys2Proof.Machine.execSmulwy cond rd sbz rs y rm s
  | .smlalxy cond rdHi rdLo rs y x rm => Sys2Proof.Machine.execSmlalxy cond rdHi rdLo rs y x rm s
  | .smulxy cond rd sbz rs y x rm => Sys2Proof.Machine.execSmulxy cond rd sbz rs y x rm s
  | .undefined6 cond any any2 any3 any4 => Sys2Proof.Machine.execUndefined6 cond any any2 any3 any4 s
  | .nop cond sbo sbz => Sys2Proof.Machine.execNop cond sbo sbz s
  | .yield cond sbo sbz => Sys2Proof.Machine.execYield cond sbo sbz s
  | .hint cond sbo sbz num => Sys2Proof.Machine.execHint cond sbo sbz num s
  | .msrImm cond r mask sbo rot imm8 => Sys2Proof.Machine.execMsrImm cond r mask sbo rot imm8 s
  | .undefined7 cond any any2 => Sys2Proof.Machine.execUndefined7 cond any any2 s
  | .andImm cond sBit rn rd rot imm8 => Sys2Proof.Machine.execAndImm cond sBit rn rd rot imm8 s
  | .andRegImm cond sBit rn rd imm5 shift rm => Sys2Proof.Machine.execAndRegImm cond sBit rn rd imm5 shift rm s
  | .andRegReg cond sBit rn rd rs shift rm => Sys2Proof.Machine.execAndRegReg cond sBit rn rd rs shift rm s
  | .eorImm cond sBit rn rd rot imm8 => Sys2Proof.Machine.execEorImm cond sBit rn rd rot imm8 s
  | .eorRegImm cond sBit rn rd imm5 shift rm => Sys2Proof.Machine.execEorRegImm cond sBit rn rd imm5 shift rm s
  | .eorRegReg cond sBit rn rd rs shift rm => Sys2Proof.Machine.execEorRegReg cond sBit rn rd rs shift rm s
  | .subImm cond sBit rn rd rot imm8 => Sys2Proof.Machine.execSubImm cond sBit rn rd rot imm8 s
  | .subRegImm cond sBit rn rd imm5 shift rm => Sys2Proof.Machine.execSubRegImm cond sBit rn rd imm5 shift rm s
  | .subRegReg cond sBit rn rd rs shift rm => Sys2Proof.Machine.execSubRegReg cond sBit rn rd rs shift rm s
  | .rsbImm cond sBit rn rd rot imm8 => Sys2Proof.Machine.execRsbImm cond sBit rn rd rot imm8 s
  | .rsbRegImm cond sBit rn rd imm5 shift rm => Sys2Proof.Machine.execRsbRegImm cond sBit rn rd imm5 shift rm s
  | .rsbRegReg cond sBit rn rd rs shift rm => Sys2Proof.Machine.execRsbRegReg cond sBit rn rd rs shift rm s
  | .addImm cond sBit rn rd rot imm8 => Sys2Proof.Machine.execAddImm cond sBit rn rd rot imm8 s
  | .addRegImm cond sBit rn rd imm5 shift rm => Sys2Proof.Machine.execAddRegImm cond sBit rn rd imm5 shift rm s
  | .addRegReg cond sBit rn rd rs shift rm => Sys2Proof.Machine.execAddRegReg cond sBit rn rd rs shift rm s
  | .adcImm cond sBit rn rd rot imm8 => Sys2Proof.Machine.execAdcImm cond sBit rn rd rot imm8 s
  | .adcRegImm cond sBit rn rd imm5 shift rm => Sys2Proof.Machine.execAdcRegImm cond sBit rn rd imm5 shift rm s
  | .adcRegReg cond sBit rn rd rs shift rm => Sys2Proof.Machine.execAdcRegReg cond sBit rn rd rs shift rm s
  | .sbcImm cond sBit rn rd rot imm8 => Sys2Proof.Machine.execSbcImm cond sBit rn rd rot imm8 s
  | .sbcRegImm cond sBit rn rd imm5 shift rm => Sys2Proof.Machine.execSbcRegImm cond sBit rn rd imm5 shift rm s
  | .sbcRegReg cond sBit rn rd rs shift rm => Sys2Proof.Machine.execSbcRegReg cond sBit rn rd rs shift rm s
  | .rscImm cond sBit rn rd rot imm8 => Sys2Proof.Machine.execRscImm cond sBit rn rd rot imm8 s
  | .rscRegImm cond sBit rn rd imm5 shift rm => Sys2Proof.Machine.execRscRegImm cond sBit rn rd imm5 shift rm s
  | .rscRegReg cond sBit rn rd rs shift rm => Sys2Proof.Machine.execRscRegReg cond sBit rn rd rs shift rm s
  | .tstImm cond rn sbz rot imm8 => Sys2Proof.Machine.execTstImm cond rn sbz rot imm8 s
  | .tstRegImm cond rn sbz imm5 shift rm => Sys2Proof.Machine.execTstRegImm cond rn sbz imm5 shift rm s
  | .tstRegReg cond rn sbz rs shift rm => Sys2Proof.Machine.execTstRegReg cond rn sbz rs shift rm s
  | .teqImm cond rn sbz rot imm8 => Sys2Proof.Machine.execTeqImm cond rn sbz rot imm8 s
  | .teqRegImm cond rn sbz imm5 shift rm => Sys2Proof.Machine.execTeqRegImm cond rn sbz imm5 shift rm s
  | .teqRegReg cond rn sbz rs shift rm => Sys2Proof.Machine.execTeqRegReg cond rn sbz rs shift rm s
  | .cmpImm cond rn sbz rot imm8 => Sys2Proof.Machine.execCmpImm cond rn sbz rot imm8 s
  | .cmpRegImm cond rn sbz imm5 shift rm => Sys2Proof.Machine.execCmpRegImm cond rn sbz imm5 shift rm s
  | .cmpRegReg cond rn sbz rs shift rm => Sys2Proof.Machine.execCmpRegReg cond rn sbz rs shift rm s
  | .cmnImm cond rn sbz rot imm8 => Sys2Proof.Machine.execCmnImm cond rn sbz rot imm8 s
  | .cmnRegImm cond rn sbz imm5 shift rm => Sys2Proof.Machine.execCmnRegImm cond rn sbz imm5 shift rm s
  | .cmnRegReg cond rn sbz rs shift rm => Sys2Proof.Machine.execCmnRegReg cond rn sbz rs shift rm s
  | .orrImm cond sBit rn rd rot imm8 => Sys2Proof.Machine.execOrrImm cond sBit rn rd rot imm8 s
  | .orrRegImm cond sBit rn rd imm5 shift rm => Sys2Proof.Machine.execOrrRegImm cond sBit rn rd imm5 shift rm s
  | .orrRegReg cond sBit rn rd rs shift rm => Sys2Proof.Machine.execOrrRegReg cond sBit rn rd rs shift rm s
  | .movImm cond sBit sbz rd rot imm8 => Sys2Proof.Machine.execMovImm cond sBit sbz rd rot imm8 s
  | .movRegImm cond sBit sbz rd imm5 shift rm => Sys2Proof.Machine.execMovRegImm cond sBit sbz rd imm5 shift rm s
  | .movRegReg cond sBit sbz rd rs shift rm => Sys2Proof.Machine.execMovRegReg cond sBit sbz rd rs shift rm s
  | .cpy cond rd rm => Sys2Proof.Machine.execCpy cond rd rm s
  | .bicImm cond sBit rn rd rot imm8 => Sys2Proof.Machine.execBicImm cond sBit rn rd rot imm8 s
  | .bicRegImm cond sBit rn rd imm5 shift rm => Sys2Proof.Machine.execBicRegImm cond sBit rn rd imm5 shift rm s
  | .bicRegReg cond sBit rn rd rs shift rm => Sys2Proof.Machine.execBicRegReg cond sBit rn rd rs shift rm s
  | .mvnImm cond sBit sbz rd rot imm8 => Sys2Proof.Machine.execMvnImm cond sBit sbz rd rot imm8 s
  | .mvnRegImm cond sBit sbz rd imm5 shift rm => Sys2Proof.Machine.execMvnRegImm cond sBit sbz rd imm5 shift rm s
  | .mvnRegReg cond sBit sbz rd rs shift rm => Sys2Proof.Machine.execMvnRegReg cond sBit sbz rd rs shift rm s
  | .sadd16 cond rn rd sbo rm => Sys2Proof.Machine.execSadd16 cond rn rd sbo rm s
  | .qadd16 cond rn rd sbo rm => Sys2Proof.Machine.execQadd16 cond rn rd sbo rm s
  | .shadd16 cond rn rd sbo rm => Sys2Proof.Machine.execShadd16 cond rn rd sbo rm s
  | .uadd16 cond rn rd sbo rm => Sys2Proof.Machine.execUadd16 cond rn rd sbo rm s
  | .uqadd16 cond rn rd sbo rm => Sys2Proof.Machine.execUqadd16 cond rn rd sbo rm s
  | .uhadd16 cond rn rd sbo rm => Sys2Proof.Machine.execUhadd16 cond rn rd sbo rm s
  | .saddsubx cond rn rd sbo rm => Sys2Proof.Machine.execSaddsubx cond rn rd sbo rm s
  | .qaddsubx cond rn rd sbo rm => Sys2Proof.Machine.execQaddsubx cond rn rd sbo rm s
  | .shaddsubx cond rn rd sbo rm => Sys2Proof.Machine.execShaddsubx cond rn rd sbo rm s
  | .uaddsubx cond rn rd sbo rm => Sys2Proof.Machine.execUaddsubx cond rn rd sbo rm s
  | .uqaddsubx cond rn rd sbo rm => Sys2Proof.Machine.execUqaddsubx cond rn rd sbo rm s
  | .uhaddsubx cond rn rd sbo rm => Sys2Proof.Machine.execUhaddsubx cond rn rd sbo rm s
  | .ssubaddx cond rn rd sbo rm => Sys2Proof.Machine.execSsubaddx cond rn rd sbo rm s
  | .qsubaddx cond rn rd sbo rm => Sys2Proof.Machine.execQsubaddx cond rn rd sbo rm s
  | .shsubaddx cond rn rd sbo rm => Sys2Proof.Machine.execShsubaddx cond rn rd sbo rm s
  | .usubaddx cond rn rd sbo rm => Sys2Proof.Machine.execUsubaddx cond rn rd sbo rm s
  | .uqsubaddx cond rn rd sbo rm => Sys2Proof.Machine.execUqsubaddx cond rn rd sbo rm s
  | .uhsubaddx cond rn rd sbo rm => Sys2Proof.Machine.execUhsubaddx cond rn rd sbo rm s
  | .ssub16 cond rn rd sbo rm => Sys2Proof.Machine.execSsub16 cond rn rd sbo rm s
  | .qsub16 cond rn rd sbo rm => Sys2Proof.Machine.execQsub16 cond rn rd sbo rm s
  | .shsub16 cond rn rd sbo rm => Sys2Proof.Machine.execShsub16 cond rn rd sbo rm s
  | .usub16 cond rn rd sbo rm => Sys2Proof.Machine.execUsub16 cond rn rd sbo rm s
  | .uqsub16 cond rn rd sbo rm => Sys2Proof.Machine.execUqsub16 cond rn rd sbo rm s
  | .uhsub16 cond rn rd sbo rm => Sys2Proof.Machine.execUhsub16 cond rn rd sbo rm s
  | .sadd8 cond rn rd sbo rm => Sys2Proof.Machine.execSadd8 cond rn rd sbo rm s
  | .qadd8 cond rn rd sbo rm => Sys2Proof.Machine.execQadd8 cond rn rd sbo rm s
  | .shadd8 cond rn rd sbo rm => Sys2Proof.Machine.execShadd8 cond rn rd sbo rm s
  | .uadd8 cond rn rd sbo rm => Sys2Proof.Machine.execUadd8 cond rn rd sbo rm s
  | .uqadd8 cond rn rd sbo rm => Sys2Proof.Machine.execUqadd8 cond rn rd sbo rm s
  | .uhadd8 cond rn rd sbo rm => Sys2Proof.Machine.execUhadd8 cond rn rd sbo rm s
  | .ssub8 cond rn rd sbo rm => Sys2Proof.Machine.execSsub8 cond rn rd sbo rm s
  | .qsub8 cond rn rd sbo rm => Sys2Proof.Machine.execQsub8 cond rn rd sbo rm s
  | .shsub8 cond rn rd sbo rm => Sys2Proof.Machine.execShsub8 cond rn rd sbo rm s
  | .usub8 cond rn rd sbo rm => Sys2Proof.Machine.execUsub8 cond rn rd sbo rm s
  | .uqsub8 cond rn rd sbo rm => Sys2Proof.Machine.execUqsub8 cond rn rd sbo rm s
  | .uhsub8 cond rn rd sbo rm => Sys2Proof.Machine.execUhsub8 cond rn rd sbo rm s
  | .sel cond rn rd sbo rm => Sys2Proof.Machine.execSel cond rn rd sbo rm s
  | .rev cond sbo rd sbo2 rm => Sys2Proof.Machine.execRev cond sbo rd sbo2 rm s
  | .rev16 cond sbo rd sbo2 rm => Sys2Proof.Machine.execRev16 cond sbo rd sbo2 rm s
  | .revsh cond sbo rd sbo2 rm => Sys2Proof.Machine.execRevsh cond sbo rd sbo2 rm s
  | .ssat16 cond satImm rd sbo rm => Sys2Proof.Machine.execSsat16 cond satImm rd sbo rm s
  | .usat16 cond satImm rd sbo rm => Sys2Proof.Machine.execUsat16 cond satImm rd sbo rm s
  | .sxtb16 cond rd rotate sbz rm => Sys2Proof.Machine.execSxtb16 cond rd rotate sbz rm s
  | .sxtab16 cond rn rd rotate sbz rm => Sys2Proof.Machine.execSxtab16 cond rn rd rotate sbz rm s
  | .sxtb cond rd rotate sbz rm => Sys2Proof.Machine.execSxtb cond rd rotate sbz rm s
  | .sxtab cond rn rd rotate sbz rm => Sys2Proof.Machine.execSxtab cond rn rd rotate sbz rm s
  | .sxth cond rd rotate sbz rm => Sys2Proof.Machine.execSxth cond rd rotate sbz rm s
  | .sxtah cond rn rd rotate sbz rm => Sys2Proof.Machine.execSxtah cond rn rd rotate sbz rm s
  | .uxtb16 cond rd rotate sbz rm => Sys2Proof.Machine.execUxtb16 cond rd rotate sbz rm s
  | .uxtab16 cond rn rd rotate sbz rm => Sys2Proof.Machine.execUxtab16 cond rn rd rotate sbz rm s
  | .uxtb cond rd rotate sbz rm => Sys2Proof.Machine.execUxtb cond rd rotate sbz rm s
  | .uxtab cond rn rd rotate sbz rm => Sys2Proof.Machine.execUxtab cond rn rd rotate sbz rm s
  | .uxth cond rd rotate sbz rm => Sys2Proof.Machine.execUxth cond rd rotate sbz rm s
  | .uxtah cond rn rd rotate sbz rm => Sys2Proof.Machine.execUxtah cond rn rd rotate sbz rm s
  | .pkhbt cond rn rd imm5 rm => Sys2Proof.Machine.execPkhbt cond rn rd imm5 rm s
  | .pkhtb cond rn rd imm5 rm => Sys2Proof.Machine.execPkhtb cond rn rd imm5 rm s
  | .ssat cond satImm rd imm5 shift rm => Sys2Proof.Machine.execSsat cond satImm rd imm5 shift rm s
  | .usat cond satImm rd imm5 shift rm => Sys2Proof.Machine.execUsat cond satImm rd imm5 shift rm s
  | .smuad cond rd rs x rm => Sys2Proof.Machine.execSmuad cond rd rs x rm s
  | .smlad cond rd rn rs x rm => Sys2Proof.Machine.execSmlad cond rd rn rs x rm s
  | .smusd cond rd rs x rm => Sys2Proof.Machine.execSmusd cond rd rs x rm s
  | .smlsd cond rd rn rs x rm => Sys2Proof.Machine.execSmlsd cond rd rn rs x rm s
  | .smlald cond rdHi rdLo rs x rm => Sys2Proof.Machine.execSmlald cond rdHi rdLo rs x rm s
  | .smlsld cond rdHi rdLo rs x rm => Sys2Proof.Machine.execSmlsld cond rdHi rdLo rs x rm s
  | .smmul cond rd rs r rm => Sys2Proof.Machine.execSmmul cond rd rs r rm s
  | .smmla cond rd rn rs r rm => Sys2Proof.Machine.execSmmla cond rd rn rs r rm s
  | .smmls cond rd rn rs r rm => Sys2Proof.Machine.execSmmls cond rd rn rs r rm s
  | .usad8 cond rd rs rm => Sys2Proof.Machine.execUsad8 cond rd rs rm s
  | .usada8 cond rd rn rs rm => Sys2Proof.Machine.execUsada8 cond rd rn rs rm s
  | .undefined8 cond any any2 => Sys2Proof.Machine.execUndefined8 cond any any2 s
  | .ldrtImm cond u rn rd imm12 => Sys2Proof.Machine.execLdrtImm cond u rn rd imm12 s
  | .ldrtReg cond u rn rd imm5 shift rm => Sys2Proof.Machine.execLdrtReg cond u rn rd imm5 shift rm s
  | .ldrbtImm cond u rn rd imm12 => Sys2Proof.Machine.execLdrbtImm cond u rn rd imm12 s
  | .ldrbtReg cond u rn rd imm5 shift rm => Sys2Proof.Machine.execLdrbtReg cond u rn rd imm5 shift rm s
  | .strtImm cond u rn rd imm12 => Sys2Proof.Machine.execStrtImm cond u rn rd imm12 s
  | .strtReg cond u rn rd imm5 shift rm => Sys2Proof.Machine.execStrtReg cond u rn rd imm5 shift rm s
  | .strbtImm cond u rn rd imm12 => Sys2Proof.Machine.execStrbtImm cond u rn rd imm12 s
  | .strbtReg cond u rn rd imm5 shift rm => Sys2Proof.Machine.execStrbtReg cond u rn rd imm5 shift rm s
  | .ldrImm cond p u w rn rd imm12 => Sys2Proof.Machine.execLdrImm cond p u w rn rd imm12 s
  | .ldrReg cond p u w rn rd imm5 shift rm => Sys2Proof.Machine.execLdrReg cond p u w rn rd imm5 shift rm s
  | .ldrbImm cond p u w rn rd imm12 => Sys2Proof.Machine.execLdrbImm cond p u w rn rd imm12 s
  | .ldrbReg cond p u w rn rd imm5 shift rm => Sys2Proof.Machine.execLdrbReg cond p u w rn rd imm5 shift rm s
  | .strImm cond p u w rn rd imm12 => Sys2Proof.Machine.execStrImm cond p u w rn rd imm12 s
  | .strReg cond p u w rn rd imm5 shift rm => Sys2Proof.Machine.execStrReg cond p u w rn rd imm5 shift rm s
  | .strbImm cond p u w rn rd imm12 => Sys2Proof.Machine.execStrbImm cond p u w rn rd imm12 s
  | .strbReg cond p u w rn rd imm5 shift rm => Sys2Proof.Machine.execStrbReg cond p u w rn rd imm5 shift rm s
  | .ldm3 cond p u w rn reglist => Sys2Proof.Machine.execLdm3 cond p u w rn reglist s
  | .ldm2 cond p u sbz rn reglist => Sys2Proof.Machine.execLdm2 cond p u sbz rn reglist s
  | .ldm1 cond p u w rn reglist => Sys2Proof.Machine.execLdm1 cond p u w rn reglist s
  | .stm2 cond p u sbz rn reglist => Sys2Proof.Machine.execStm2 cond p u sbz rn reglist s
  | .stm1 cond p u w rn reglist => Sys2Proof.Machine.execStm1 cond p u w rn reglist s
  | .b cond imm24 => Sys2Proof.Machine.execB cond imm24 s
  | .bl cond imm24 => Sys2Proof.Machine.execBl cond imm24 s
  | .mcrr cond rn rd cp opc crm => Sys2Proof.Machine.execMcrr cond rn rd cp opc crm s
  | .mrrc cond rn rd cp opc crm => Sys2Proof.Machine.execMrrc cond rn rd cp opc crm s
  | .undefined9 cond any any2 => Sys2Proof.Machine.execUndefined9 cond any any2 s
  | .stc cond p u nBit w rn crd cp imm8 => Sys2Proof.Machine.execStc cond p u nBit w rn crd cp imm8 s
  | .ldc cond p u nBit w rn crd cp imm8 => Sys2Proof.Machine.execLdc cond p u nBit w rn crd cp imm8 s
  | .cdp cond opc1 crn crd cp opc2 crm => Sys2Proof.Machine.execCdp cond opc1 crn crd cp opc2 crm s
  | .mcr cond opc1 crn rd cp opc2 crm => Sys2Proof.Machine.execMcr cond opc1 crn rd cp opc2 crm s
  | .mrc cond opc1 crn rd cp opc2 crm => Sys2Proof.Machine.execMrc cond opc1 crn rd cp opc2 crm s
  | .svc cond imm24 => Sys2Proof.Machine.execSvc cond imm24 s
  | .tLslImm imm5 rm rd => Sys2Proof.Machine.execTLslImm imm5 rm rd s
  | .tLsrImm imm5 rm rd => Sys2Proof.Machine.execTLsrImm imm5 rm rd s
  | .tAsrImm imm5 rm rd => Sys2Proof.Machine.execTAsrImm imm5 rm rd s
  | .tAddReg rm rn rd => Sys2Proof.Machine.execTAddReg rm rn rd s
  | .tSubReg rm rn rd => Sys2Proof.Machine.execTSubReg rm rn rd s
  | .tMovLow rn rd => Sys2Proof.Machine.execTMovLow rn rd s
  | .tAddImm3 imm3 rn rd => Sys2Proof.Machine.execTAddImm3 imm3 rn rd s
  | .tSubImm3 imm3 rn rd => Sys2Proof.Machine.execTSubImm3 imm3 rn rd s
  | .tMovImm rd imm8 => Sys2Proof.Machine.execTMovImm rd imm8 s
  | .tCmpImm rn imm8 => Sys2Proof.Machine.execTCmpImm rn imm8 s
  | .tAddImm8 rd imm8 => Sys2Proof.Machine.execTAddImm8 rd imm8 s
  | .tSubImm8 rd imm8 => Sys2Proof.Machine.execTSubImm8 rd imm8 s
  | .tAnd rm rd => Sys2Proof.Machine.execTAnd rm rd s
  | .tEor rm rd => Sys2Proof.Machine.execTEor rm rd s
  | .tLslReg rm rd => Sys2Proof.Machine.execTLslReg rm rd s
  | .tLsrReg rm rd => Sys2Proof.Machine.execTLsrReg rm rd s
  | .tAsrReg rm rd => Sys2Proof.Machine.execTAsrReg rm rd s
  | .tAdc rm rd => Sys2Proof.Machine.execTAdc rm rd s
  | .tSbc rm rd => Sys2Proof.Machine.execTSbc rm rd s
  | .tRor rm rd => Sys2Proof.Machine.execTRor rm rd s
  | .tTst rm rd => Sys2Proof.Machine.execTTst rm rd s
  | .tNeg rm rd => Sys2Proof.Machine.execTNeg rm rd s
  | .tCmpLow rm rd => Sys2Proof.Machine.execTCmpLow rm rd s
  | .tCmn rm rd => Sys2Proof.Machine.execTCmn rm rd s
  | .tOrr rm rd => Sys2Proof.Machine.execTOrr rm rd s
  | .tMul rm rd => Sys2Proof.Machine.execTMul rm rd s
  | .tBic rm rd => Sys2Proof.Machine.execTBic rm rd s
  | .tMvn rm rd => Sys2Proof.Machine.execTMvn rm rd s
  | .tAddHigh d m rm rd => Sys2Proof.Machine.execTAddHigh d m rm rd s
  | .tCmpHigh hn m rm rn => Sys2Proof.Machine.execTCmpHigh hn m rm rn s
  | .tMovHigh d m rm rd => Sys2Proof.Machine.execTMovHigh d m rm rd s
  | .tCpy d m rm rd => Sys2Proof.Machine.execTCpy d m rm rd s
  | .tBx m rm sbz => Sys2Proof.Machine.execTBx m rm sbz s
  | .tBlxReg m rm sbz => Sys2Proof.Machine.execTBlxReg m rm sbz s
  | .tLdrPc rd imm8 => Sys2Proof.Machine.execTLdrPc rd imm8 s
  | .tStrReg rm rn rd => Sys2Proof.Machine.execTStrReg rm rn rd s
  | .tStrhReg rm rn rd => Sys2Proof.Machine.execTStrhReg rm rn rd s
  | .tStrbReg rm rn rd => Sys2Proof.Machine.execTStrbReg rm rn rd s
  | .tLdrsb rm rn rd => Sys2Proof.Machine.execTLdrsb rm rn rd s
  | .tLdrReg rm rn rd => Sys2Proof.Machine.execTLdrReg rm rn rd s
  | .tLdrhReg rm rn rd => Sys2Proof.Machine.execTLdrhReg rm rn rd s
  | .tLdrbReg rm rn rd => Sys2Proof.Machine.execTLdrbReg rm rn rd s
  | .tLdrsh rm rn rd => Sys2Proof.Machine.execTLdrsh rm rn rd s
  | .tStrImm imm5 rn rd => Sys2Proof.Machine.execTStrImm imm5 rn rd s
  | .tLdrImm imm5 rn rd => Sys2Proof.Machine.execTLdrImm imm5 rn rd s
  | .tStrbImm imm5 rn rd => Sys2Proof.Machine.execTStrbImm imm5 rn rd s
  | .tLdrbImm imm5 rn rd => Sys2Proof.Machine.execTLdrbImm imm5 rn rd s
  | .tStrhImm imm5 rn rd => Sys2Proof.Machine.execTStrhImm imm5 rn rd s
  | .tLdrhImm imm5 rn rd => Sys2Proof.Machine.execTLdrhImm imm5 rn rd s
  | .tStrSp rd imm8 => Sys2Proof.Machine.execTStrSp rd imm8 s
  | .tLdrSp rd imm8 => Sys2Proof.Machine.execTLdrSp rd imm8 s
  | .tAddPc rd imm8 => Sys2Proof.Machine.execTAddPc rd imm8 s
  | .tAddSp rd imm8 => Sys2Proof.Machine.execTAddSp rd imm8 s
  | .tAddSpImm imm7 => Sys2Proof.Machine.execTAddSpImm imm7 s
  | .tSubSpImm imm7 => Sys2Proof.Machine.execTSubSpImm imm7 s
  | .tSxth rm rd => Sys2Proof.Machine.execTSxth rm rd s
  | .tSxtb rm rd => Sys2Proof.Machine.execTSxtb rm rd s
  | .tUxth rm rd => Sys2Proof.Machine.execTUxth rm rd s
  | .tUxtb rm rd => Sys2Proof.Machine.execTUxtb rm rd s
  | .tPush r reglist => Sys2Proof.Machine.execTPush r reglist s
  | .tSetend eBit sbz => Sys2Proof.Machine.execTSetend eBit sbz s
  | .tCps imod sbz aBit iBit fBit => Sys2Proof.Machine.execTCps imod sbz aBit iBit fBit s
  | .tRev rm rd => Sys2Proof.Machine.execTRev rm rd s
  | .tRev16 rm rd => Sys2Proof.Machine.execTRev16 rm rd s
  | .tRevsh rm rd => Sys2Proof.Machine.execTRevsh rm rd s
  | .tPop r reglist => Sys2Proof.Machine.execTPop r reglist s
  | .tBkpt imm8 => Sys2Proof.Machine.execTBkpt imm8 s
  | .tUndefined1 any => Sys2Proof.Machine.execTUndefined1 any s
  | .tStmia rn reglist => Sys2Proof.Machine.execTStmia rn reglist s
  | .tLdmia rn reglist => Sys2Proof.Machine.execTLdmia rn reglist s
  | .tUndefined2 any => Sys2Proof.Machine.execTUndefined2 any s
  | .tSvc imm8 => Sys2Proof.Machine.execTSvc imm8 s
  | .tBCond cond imm8 => Sys2Proof.Machine.execTBCond cond imm8 s
  | .tB imm11 => Sys2Proof.Machine.execTB imm11 s
  | .tBlxSecond imm11 => Sys2Proof.Machine.execTBlxSecond imm11 s
  | .tUndefined3 any => Sys2Proof.Machine.execTUndefined3 any s
  | .tBlFirst imm11 => Sys2Proof.Machine.execTBlFirst imm11 s
  | .tBlSecond imm11 => Sys2Proof.Machine.execTBlSecond imm11 s

end Sys2Proof.Machine
end

