-- ==== Sys2Proof/Machine/Execute.lean ====
section
/-!
DEFINITION. Running a word: its decoded instruction, or, where it matches no row of the table, the Undefined
Instruction exception (30_encoding.md R835, R880).
-/
namespace Sys2Proof.Machine

noncomputable section

/-- A word that matches no row is an Undefined instruction; its condition is tested first (30_encoding.md R835, R880). -/
def execNoRow (w : Words) (s : State) : Result :=
  match w with
  | .arm v =>
    match Cond.ofBits (v.extractLsb' 28 4) with
    | some c => conditional c raiseUndefined s
    | none => always raiseUndefined s
  | .thumb _ => always raiseUndefined s

/-- Decode a word and run it. -/
def execWords (w : Words) (s : State) : Result :=
  match decode w with
  | .instr i => exec i s
  | .noRow => execNoRow w s

end

end Sys2Proof.Machine
end

