-- ==== Sys2Proof/Machine/Trace.lean ====
section
/-!
DEFINITION. What a step of the core shows on the instruction interface and on the Secure Monitor bus (62_platform.md R1901,
R1908; log 55).
-/
namespace Sys2Proof.Machine

/-- The PC is at an exception vector of the state the core is in (62_platform.md R1901): a vector of the world, the address the
VIC supplied, in the Secure world also the reset vector or a vector of Secure Monitor mode. -/
def State.atVector (s : State) : Bool :=
  let a := s.pc &&& 0xFFFFFFFC
  let among (vec : Word → Word) : Bool := [0x04, 0x08, 0x0C, 0x10, 0x1C].any fun o => vec o == a
  among (s.cp15.vector s.nonSecure) || s.catchIrq s.nonSecure == some a ||
    (!s.nonSecure && (a == (if (s.cp15.sctlr false).getLsbD 13 then 0xFFFF0000 else 0) || among s.cp15.monVector ||
      s.cp15.monVector 0x18 == a))

noncomputable section

/-- A data instruction (62_platform.md R1901): any load or store, any transfer between a coprocessor and core registers, and no
preload. -/
def isDataInsn : Instr → Bool
  | .ldrImm .. | .ldrReg .. | .ldrbImm .. | .ldrbReg .. | .ldrtImm .. | .ldrtReg .. | .ldrbtImm .. | .ldrbtReg .. => true
  | .ldrhImm .. | .ldrhReg .. | .ldrsbImm .. | .ldrsbReg .. | .ldrshImm .. | .ldrshReg .. | .ldrdImm .. | .ldrdReg .. => true
  | .strImm .. | .strReg .. | .strbImm .. | .strbReg .. | .strtImm .. | .strtReg .. | .strbtImm .. | .strbtReg .. => true
  | .strhImm .. | .strhReg .. | .strdImm .. | .strdReg .. => true
  | .ldm1 .. | .ldm2 .. | .ldm3 .. | .stm1 .. | .stm2 .. | .rfe .. | .srs .. | .swp .. | .swpb .. => true
  | .ldrex .. | .ldrexb .. | .ldrexh .. | .ldrexd .. | .strex .. | .strexb .. | .strexh .. | .strexd .. => true
  | .ldc .. | .stc .. | .ldc2 .. | .stc2 .. => true
  | .mcr .. | .mrc .. | .mcrr .. | .mrrc .. | .mcr2 .. | .mrc2 .. | .mcrr2 .. | .mrrc2 .. => true
  | .tLdrPc .. | .tLdrReg .. | .tLdrbReg .. | .tLdrhReg .. | .tLdrsb .. | .tLdrsh .. | .tLdrImm .. | .tLdrbImm .. => true
  | .tLdrhImm .. | .tLdrSp .. | .tLdmia .. | .tPop .. => true
  | .tStrReg .. | .tStrbReg .. | .tStrhReg .. | .tStrImm .. | .tStrbImm .. | .tStrhImm .. | .tStrSp .. | .tStmia .. => true
  | .tPush .. => true
  | _ => false

/-- What the run of a word shows; the barriers and the flush of the prefetch buffer add to it where they execute. -/
def State.traceOf (s : State) (w : Words) : Trace :=
  { valid := true, vector := s.atVector
    data := match decode w with
      | .instr i => isDataInsn i
      | .noRow => false
    barrier := false, flush := false }

end

end Sys2Proof.Machine
end

