-- ==== Sys2Proof/Machine/Dbgtap.lean ====
section
/-!
DEFINITION. The DBGTAP controller (63_dbgtap.md): its scans (R1791 to R1805), the instruction issued at Run-Test/Idle
(R1808), the exit from Debug state (61_debug.md R1779).
-/
namespace Sys2Proof.Machine

/-- The state with the DBGTAP's fields updated. -/
def State.updateTap (s : State) (f : Tap → Tap) : State := { s with tap := f s.tap }

/-- `TapReset` (63_dbgtap.md R1790, R1791, R1806). -/
def State.tapReset (s : State) : State :=
  s.updateTap fun t => { t with ir := 0b11110, screg := 3, haltReq := false, req7 := none }

/-- `ScanIR` (63_dbgtap.md R1791, R1795): a Halt request lasts while IR is Halt (D67). -/
def State.scanIr (s : State) (v : BitVec 5) : State :=
  s.updateTap fun t => { t with out := 0b00001, ir := v, haltReq := t.haltReq && v == 0b01000 }

/-- EffInstr is EXTEST (63_dbgtap.md R1791, R1807). -/
def Tap.extest (t : Tap) : Bool := t.ir == 0b00000 || t.ir == 0b11101

/-- EffInstr is INTEST. -/
def Tap.intest (t : Tap) : Bool := t.ir == 0b01100

/-- EffChain (63_dbgtap.md R1791, R1807). -/
def Tap.chain (t : Tap) : BitVec 5 := if t.ir == 0b11101 then 4 else t.screg

/-- The device ID register (63_dbgtap.md R1794). -/
def Pins.deviceId (p : Pins) : Word :=
  (p.dbgVersion.setWidth 32 <<< 28) ||| 0x07B76000 ||| (p.dbgManid.setWidth 32 <<< 1) ||| 1

/-- The program counter sample register (63_dbgtap.md R1804). -/
def State.pcSample (s : State) : Word :=
  if s.inDebug || !s.nonInvasivePermitted then 0xFFFFFFFF
  else if s.tap.sampleT then ((s.tap.sample + 4) &&& 0xFFFFFFFE) ||| 1
  else (s.tap.sample + 8) &&& 0xFFFFFFFC

/-- The registers of scan chain 7 other than the PC sample (63_dbgtap.md R1803). -/
def chain7Reg (a : BitVec 7) : Option Cp14Reg :=
  let y : BitVec 4 := a.extractLsb' 0 4
  let block : BitVec 3 := a.extractLsb' 4 3
  if a = 7 then some .vcr
  else if block = 4 then Cp14Reg.ofNumber 4 y
  else if block = 5 then Cp14Reg.ofNumber 5 y
  else if block = 6 then Cp14Reg.ofNumber 6 y
  else if block = 7 then Cp14Reg.ofNumber 7 y
  else none

/-- Scan chain 7 (63_dbgtap.md R1802): every request completes at once (D68). -/
def State.scan7 (s : State) (v : BitVec 40) : State :=
  let a : BitVec 7 := v.extractLsb' 33 7
  let d : Word := v.extractLsb' 1 32
  let write := v.getLsbD 0
  let out : BitVec 40 := 0#7 ++ s.tap.req7.getD 0 ++ 1#1
  let done (s : State) (r : Option Word) : State := s.updateTap fun t => { t with out := out, req7 := r }
  if a = 0 then done s none
  else if a = 8 then (if write then done s none else done s (some s.pcSample))
  else
    match chain7Reg a with
    | some r => if write then done (s.debugWrite r d) none else done s (some (s.cp14Value r))
    | none => done s none

/-- The DSCR bits the DBGTAP writes (63_dbgtap.md R1798). -/
def dscrTapMask : Word := 0x00006E00

/-- A DR scan with INTEST or EXTEST in force (63_dbgtap.md R1797 to R1802, R1805). -/
def State.scanChain (s : State) (v : BitVec 40) : State :=
  let t := s.tap
  let chain := t.chain
  let d : Word := v.extractLsb' 0 32
  if chain = 0 then s.updateTap fun t => { t with out := 0x41#8 ++ didrValue }
  else if chain = 1 then
    let out := s.dscrValue
    let dscr := if t.extest then merge s.dbg.dscr d dscrTapMask else s.dbg.dscr &&& 0xFFFFFE3F
    { s with dbg := { s.dbg with dscr := dscr } }.updateTap fun t => { t with out := out.setWidth 40 }
  else if chain = 4 then
    s.updateTap fun t =>
      { t with ready := t.instCompl
               out := (BitVec.ofBool t.instCompl ++ 0#32).setWidth 40
               itr := if t.extest && t.instCompl then d else t.itr }
  else if chain = 5 then
    let ready := t.instCompl
    if t.extest then
      let nRetry := !s.dbg.dscr.getLsbD 30
      let s1 := s.updateTap fun t =>
        { t with ready := ready, nRetry := nRetry
                 out := (BitVec.ofBool nRetry ++ BitVec.ofBool ready ++ s.dbg.wdtr).setWidth 40 }
      if (if s.dbg.dscr.getLsbD 13 then ready else nRetry) then
        { s1 with dbg := { s1.dbg with rdtr := d } }.setDscrBit 30 true
      else s1
    else
      let valid := s.dbg.dscr.getLsbD 29
      (s.updateTap fun t =>
        { t with ready := ready, valid := valid
                 out := (BitVec.ofBool valid ++ BitVec.ofBool ready ++ s.dbg.wdtr).setWidth 40 }).setDscrBit 29 false
  else if chain = 7 then s.scan7 v
  else s.updateTap fun t => { t with out := 0 }

/-- `ScanDR` (63_dbgtap.md R1791, R1792). -/
def State.scanDr (s : State) (v : BitVec 40) : State :=
  if s.tap.ir == 0b00010 then s.updateTap fun t => { t with out := 0b10000, screg := v.extractLsb' 0 5 }
  else if s.tap.ir == 0b11110 then s.updateTap fun t => { t with out := s.pins.deviceId.setWidth 40 }
  else if s.tap.extest || s.tap.intest then s.scanChain v
  else s.updateTap fun t => { t with out := 0 }

/-- The exit from Debug state (61_debug.md R1779). A PC that was not written is undefined: a free address (U58; log 31). -/
def State.leaveDebug (s : State) : State :=
  let (a, s) :=
    if s.dbg.dbgPcWritten then (s.dbg.dbgPc, s)
    else (Config.freeWord s.freeCtr, { s with freeCtr := s.freeCtr + 1 })
  ({ s with activity := .running, pc := s.alignPc a }.setDscrBit 1 true).setDscrBit 19 false

/-- An instruction is issued at Run-Test/Idle (63_dbgtap.md R1808). -/
def State.issues (s : State) : Bool :=
  s.inDebug && s.dbg.dscr.getLsbD 13 && (s.tap.chain == 4 || s.tap.chain == 5) && (s.tap.extest || s.tap.intest) &&
    s.tap.ready && !s.dbg.dscr.getLsbD 6

/-- The ARM words that access the CP14 registers: MCR, MRC, LDC and STC of coprocessor 14 (61_debug.md R1720, R1732). -/
def cp14Access (w : Word) : Bool :=
  w.extractLsb' 28 4 != 15#4 && w.extractLsb' 8 4 == 14#4 &&
    ((w.extractLsb' 24 4 == 0b1110#4 && w.getLsbD 4) ||
      (w.extractLsb' 25 3 == 0b110#3 && (w.getLsbD 24 || w.getLsbD 23 || w.getLsbD 21)))

/-- The result of an issued instruction: where it would enter a state in which debug is not permitted, none of its
effects (61_debug.md R1772, D70); an access to the CP14 registers is always permitted (R1774). -/
def State.issued (s : State) (w : Word) : Result → Result
  | .next s' => .next (if s'.invasivePermitted || cp14Access w then s' else s)
  | .fault f => .fault f
  | .refused r => .refused r

noncomputable section

/-- `RTI` (63_dbgtap.md R1791): Halt, Restart, or the issue of the ITR as one ARM instruction. -/
def State.runTestIdle (s : State) : Result :=
  if s.tap.ir == 0b01000 then .next (s.updateTap fun t => { t with haltReq := true })
  else if s.tap.ir == 0b00100 then .next (if s.inDebug then s.leaveDebug else s)
  else if s.issues then s.issued s.tap.itr (execWords (.arm s.tap.itr) { s with trace := s.traceOf (.arm s.tap.itr) })
  else .next s

end

end Sys2Proof.Machine
end

