-- ==== Sys2Proof/Machine/Pmu.lean ====
section
/-!
DEFINITION. What a step of the core adds to the performance counters and the started validation counters
(14_cp15_dma_misc.md R472 to R478, R483; log 26, log 27).
-/
namespace Sys2Proof.Machine

/-- A fresh number of clock cycles or event counts, which no source fixes (D28, D76; log 26). -/
def State.drawTicks (s : State) : Nat × State := (Config.freeTicks s.freeCtr, { s with freeCtr := s.freeCtr + 1 })

/-- A counter of `w` bits advanced by `n`, and whether it overflowed. -/
def countBy {w : Nat} (v : BitVec w) (n : Nat) : BitVec w × Bool :=
  (v + BitVec.ofNat w n, decide (2 ^ w ≤ v.toNat + n))

/-- A started validation counter advanced by `n`: it counts until it wraps around (14_cp15_dma_misc.md R483). -/
def countUntilWrap {w : Nat} (v : BitVec w) (n : Nat) : BitVec w × Bool :=
  if 2 ^ w ≤ v.toNat + n then (0, true) else (v + BitVec.ofNat w n, false)

/-- The Cycle Counter advanced by `n` clock cycles: with PMNC.D = 1 it has six more bits below its bit 0, and so counts every
64th cycle (14_cp15_dma_misc.md R472, R475). -/
def Pmu.countCycles (p : Pmu) (n : Nat) : Pmu × Bool :=
  if p.pmnc.getLsbD 3 then
    let r := countBy (p.ccnt ++ p.divider) n
    ({ p with ccnt := r.1.extractLsb' 6 32, divider := r.1.extractLsb' 0 6 }, r.2)
  else
    let r := countBy p.ccnt n
    ({ p with ccnt := r.1 }, r.2)

/-- Set an overflow flag of the PMNC where a counter overflowed (14_cp15_dma_misc.md R472). -/
def Pmu.flag (p : Pmu) (k : Nat) (overflow : Bool) : Pmu :=
  { p with pmnc := if overflow then setBit p.pmnc k true else p.pmnc }

/-- Which counters a step advances (14_cp15_dma_misc.md R475 to R478, R483). -/
structure PmuEnables where
  /-- PMNC.E, outside Debug state. -/
  cycles : Bool
  /-- The two Count Registers: PMNC.E, outside Debug state, where non-invasive debug is permitted. -/
  events : Bool

/-- The enables at a state (14_cp15_dma_misc.md R478). -/
def State.pmuEnables (s : State) : PmuEnables :=
  let e := s.pmu.pmnc.getLsbD 0 && !s.inDebug
  { cycles := e, events := e && s.nonInvasivePermitted }

/-- The count of an event in one step (14_cp15_dma_misc.md R474, D28): instructions executed, cycles, or a free number. -/
def State.eventCount (s : State) (ev : BitVec 8) (insns ticks : Nat) : Nat × State :=
  if ev = 0x07 then (insns, s) else if ev = 0xFF then (ticks, s) else s.drawTicks

/-- A Count Register is used as a validation counter (bit `k` of `started`), which counts clock cycles until it wraps, whatever
PMNC says; or as a performance counter, unless it is a validation counter that wrapped and whose flag still stands; or not at
all (14_cp15_dma_misc.md R476, R477, R480, R483; log 27). -/
def State.countRegister (s : State) (k : Nat) (enabled : Bool) (ev : BitVec 8) (v : Word) (insns ticks : Nat) :
    (Word × Bool) × State :=
  if s.pmu.started.getLsbD k then (countUntilWrap v ticks, s)
  else if enabled && !s.pmu.wrapped.getLsbD k then
    let (n, s) := s.eventCount ev insns ticks
    (countBy v n, s)
  else ((v, false), s)

/-- The counters after `ticks` clock cycles in which `insns` instructions were executed. A validation counter that wraps stops
counting, sets its overflow flag and waits for it to be cleared; that of the external debug request only stops (R483; log 27). -/
def State.pmuCount (s : State) (en : PmuEnables) (insns ticks : Nat) : State :=
  let val (k : Nat) : Bool := s.pmu.started.getLsbD k
  let (p, oc) :=
    if val 0 then
      let r := countUntilWrap s.pmu.ccnt ticks
      ({ s.pmu with ccnt := r.1 }, r.2)
    else if en.cycles && !s.pmu.wrapped.getLsbD 0 then s.pmu.countCycles ticks else (s.pmu, false)
  let ((c0, o0), s) := s.countRegister 1 en.events (s.pmu.pmnc.extractLsb' 20 8) s.pmu.pmn0 insns ticks
  let ((c1, o1), s) := s.countRegister 2 en.events (s.pmu.pmnc.extractLsb' 12 8) s.pmu.pmn1 insns ticks
  let (c2, o2) := if s.pmu.started.getLsbD 3 then countUntilWrap s.pmu.dbgReq ticks else (s.pmu.dbgReq, false)
  let wrap : BitVec 4 :=
    BitVec.ofBool (s.pmu.started.getLsbD 3 && o2) ++ BitVec.ofBool (s.pmu.started.getLsbD 2 && o1) ++
      BitVec.ofBool (s.pmu.started.getLsbD 1 && o0) ++ BitVec.ofBool (s.pmu.started.getLsbD 0 && oc)
  let p : Pmu := { p with pmn0 := c0, pmn1 := c1, dbgReq := c2,
                              started := s.pmu.started &&& ~~~wrap, wrapped := s.pmu.wrapped ||| wrap.extractLsb' 0 3 }
  { s with pmu := ((p.flag 10 oc).flag 9 o1).flag 8 o0 }

/-- The counters after a step of the core: `before` are the enables where the step began, and a counter counts where it
is enabled there and still (R472: the count starts some cycles after the enable). With no counter in use nothing is
drawn. -/
def State.pmuTick (s : State) (before : PmuEnables) (insns : Nat) : State :=
  let en : PmuEnables :=
    { cycles := before.cycles && s.pmu.pmnc.getLsbD 0, events := before.events && s.pmu.pmnc.getLsbD 0 }
  if en.cycles || s.pmu.started != 0 then
    let (ticks, s) := s.drawTicks
    s.pmuCount en insns ticks
  else s

end Sys2Proof.Machine
end

