-- ==== Sys2Proof/Machine/Boundary.lean ====
section
/-!
DEFINITION. What happens at an instruction boundary before an instruction runs (61_debug.md R1765, 60_exceptions.md R1640;
log 15), the fetch and the run of one instruction, the resets (70_reset_and_hazards.md R1950) and the events from outside
(62_platform.md R1851; log 10).
-/
namespace Sys2Proof.Machine

/-- What a boundary check decides. -/
inductive Decision where
  /-- The step is over in this state. -/
  | done (s : State)
  /-- Go on from this state. -/
  | go (s : State)

/-- A watchpoint event recorded by the instruction just completed (61_debug.md R1754, R1765): taken or dropped. -/
def State.takeWatch (s : State) : Decision :=
  match s.dbg.watch with
  | none => .go s
  | some h =>
    let s := { s with dbg := { s.dbg with watch := none } }
    match s.watchEvent h with
    | some s' => .done s'
    | none => .go s

/-- A Halt request or EDBGRQ, where debug is permitted (61_debug.md R1756 to R1758). Of the two present at once the Halt request
is taken, so that DSCR[5:2] records b0000; the spec does not order them (DEDUCED, log 15). -/
def State.takeDebugRequest (s : State) : Decision :=
  if s.debugPermitted && s.tap.haltReq then .done (s.enterDebug .halt)
  else if s.debugPermitted && s.pins.edbgrq then .done (s.enterDebug .request)
  else .go s

/-- The world an exception is taken in: one from Secure Monitor mode goes to the Secure world (60_exceptions.md R1605). -/
def State.exceptionNs (s : State) : Bool := s.mode != .mon && s.scrNs

/-- An IRQ uses the VIC port (62_platform.md R1862): VE of the world it is taken in, and no routing to Secure Monitor. -/
def State.usesVic (s : State) : Bool :=
  !s.cp15.scr.getLsbD 1 && (s.cp15.sctlr s.exceptionNs).getLsbD 24

/-- FIQ (60_exceptions.md R1631): R14 is the next address plus 4. -/
def State.takeFiq (s : State) : State := s.takeException .fiq (s.pc + 4) (s.cp15.scr.getLsbD 2)

/-- IRQ (60_exceptions.md R1633). An address the VIC supplied is what vector catch compares later (61_debug.md R1737). -/
def State.takeIrq (s : State) : State :=
  let ns := s.exceptionNs
  let a := s.pins.irqAddr &&& 0xFFFFFFFC
  let s := if !s.usesVic then s
    else if ns then { s with dbg := { s.dbg with lastIrqNs := some a } }
    else { s with dbg := { s.dbg with lastIrqS := some a } }
  { s with irqAck := false }.takeException .irq (s.pc + 4) (s.cp15.scr.getLsbD 1)

/-- FIQ, then IRQ (60_exceptions.md R1636); DSCR[11] inhibits both (61_debug.md R1727). With the VIC port an IRQ raises
IRQACK and waits for IRQADDRV (62_platform.md R1862; log 11). -/
def State.takeInterrupt (s : State) : Decision :=
  if s.dbg.dscr.getLsbD 11 then .go s
  else if !s.pins.nFIQ && !s.bitF then .done s.takeFiq
  else if !s.pins.nIRQ && !s.bitI then
    if s.usesVic && !s.pins.irqAddrV then .done { s with irqAck := true } else .done s.takeIrq
  else .go s

/-- Take the pending imprecise Data Abort (60_exceptions.md R1638): R14 is the next address plus 8. -/
def State.takeImprecise (s : State) (a : ImpreciseAbort) : State :=
  ({ s with pendingAbort := none }.setDataFault (!s.scrEa && a.ns) (fsrValue 0b10110 0 a.write a.slverr) 0).takeException
    .dabt (s.pc + 8) s.scrEa

/-- After the fetch: the imprecise Data Abort (60_exceptions.md R1640), vector catch, breakpoint (61_debug.md R1765). -/
def State.afterFetch (s : State) : Decision :=
  match if s.bitA then none else s.pendingAbort with
  | some a => .done (s.takeImprecise a)
  | none =>
    match if s.vectorCatchEvent s.pc then s.codeEvent .vectorCatch else none with
    | some s' => .done s'
    | none =>
      match if s.breakpointEvent (s.cp15.mva s.nonSecure s.pc) then s.codeEvent .breakpoint else none with
      | some s' => .done s'
      | none => .go s

/-- What a step of the core that runs no instruction adds to its outcome: the clock cycles it takes, a free number, count, no
instruction counts (71_timing.md R2020, R2055; log 26), and the instruction interface is quiet. -/
def State.idleStep (s : State) (en : PmuEnables) : State := { s.pmuTick en 0 with trace := .quiet }

/-- Follow a decision: the step is over with no instruction run, or goes on. -/
def Decision.andThen (d : Decision) (en : PmuEnables) (k : State → Result) : Result :=
  match d with
  | .done t => .next (t.idleStep en)
  | .go t => k t

/-- Where J and T are both set every instruction is Undefined (10_state.md R63). -/
def thumbAware : M Unit := raiseUndefined

noncomputable section

/-- An instruction is committed: what the PC sample register samples (63_dbgtap.md R1804, D75) and what its run shows
(62_platform.md R1901). -/
def State.commit (s : State) (w : Words) : State :=
  { s.updateTap fun t => { t with sample := s.pc, sampleT := s.bitT } with trace := s.traceOf w }

/-- Run the fetched word as an instruction (30_encoding.md R835). Jazelle state stops the machine (10_state.md R76). -/
def State.runWord (s : State) (w : Words) : Result :=
  if s.bitJ then (if s.bitT then thumbAware.outcome s else .fault .jazelleState)
  else execWords w s

/-- Change the state of a step that has a next one. -/
def mapNext (f : State → State) : Result → Result
  | .next s => .next (f s)
  | .fault e => .fault e
  | .refused r => .refused r

/-- Add what an executed instruction adds to the performance counters. One that ends in an exception counts as executed too
(14_cp15_dma_misc.md R474; log 26). -/
def State.counted (en : PmuEnables) : Result → Result := mapNext fun s => s.pmuTick en 1

/-- Fetch the instruction at the PC and run it (60_exceptions.md R1640). -/
def State.fetchAndRun (s : State) : Result :=
  let en := s.pmuEnables
  match fetchInsn s with
  | .error (.refused r) _ => .refused r
  | .error (.faulted f) _ => .fault f
  | .error .taken s' => .next (s'.idleStep en)
  | .ok (.error a) s' => mapNext (·.idleStep en) ((takePrefetchAbort (α := Unit) a).outcome s')
  | .ok (.ok w) s' =>
    s'.afterFetch.andThen en fun t => State.counted t.pmuEnables ((t.commit w).runWord w)

/-- One boundary of the running core (61_debug.md R1765; log 15). -/
def State.boundary (s : State) : Result :=
  let en := s.pmuEnables
  if s.irqAck then .next ((if s.pins.irqAddrV then s.takeIrq else s).idleStep en)
  else s.takeWatch.andThen en fun t => t.takeDebugRequest.andThen en fun u => u.takeInterrupt.andThen en State.fetchAndRun

/-- The core's part of a step. In Standby a wake-up event resumes it (62_platform.md R1880); there and in Debug state only
time passes (log 26), and in reset nothing does. -/
def State.coreStep (s : State) : Result :=
  match s.activity with
  | .running => s.boundary
  | .standby => if s.wakeUp then { s with activity := .running }.boundary else .next (s.idleStep s.pmuEnables)
  | .debug => .next (s.idleStep s.pmuEnables)
  | .heldInReset _ => .next s

end

/-! ### Reset -/

/-- nRESETIN goes LOW (62_platform.md R1856, 70_reset_and_hazards.md R1960): the core is held. A power-on reset stays one
if nPORESETIN rises first. -/
def State.assertReset (s : State) (kind : ResetKind) : State :=
  let kind := if s.activity == .heldInReset .powerOn then .powerOn else kind
  { s with activity := .heldInReset kind, irqAck := false }

/-- The CP14 debug registers at the release of a reset (70_reset_and_hazards.md R1952, R1956, R1957, 61_debug.md R1747, R1777).
A warm reset keeps the WFAR with the other debug registers (61_debug.md R1703; log 53). -/
def resetDebugAt (kind : ResetKind) (d : Debug) : Debug :=
  match kind with
  | .powerOn => resetDebug
  | .warm => { d with dscr := setBit (setBit d.dscr 1 true) 19 false, watch := none }

/-- The DBGTAP at the release of a reset: the PC sample takes the reset vector, and a power-on reset also gives ITR, Ready and
InstCompl their reset values; the rest, and all but the sample at a warm reset, stays (63_dbgtap.md R1804, R1806, R1811). -/
def resetTapAt (kind : ResetKind) (p : Pins) (t : Tap) : Tap :=
  let t := { t with sample := resetVector p, sampleT := false }
  match kind with
  | .powerOn => { t with itr := 0, ready := false, instCompl := true }
  | .warm => t

/-- `Reset(kind)` (70_reset_and_hazards.md R1950), with the pins as they are now: memory, the TCMs, the global monitor and
the scan state of the DBGTAP are kept; a register with no stated value takes the model's (log 1, log 46). -/
def State.applyReset (s : State) (kind : ResetKind) : State :=
  { s with
    regs := Vector.replicate 32 0
    spsr := Vector.replicate 6 0
    cpsr := resetCpsr s.pins
    pc := resetVector s.pins
    cp15 := resetCp15 s.pins
    dma := resetDma
    pmu := resetPmu
    dbg := resetDebugAt kind s.dbg
    tap := resetTapAt kind s.pins s.tap
    monitors := { s.monitors with locl := false }
    pendingAbort := none
    activity := .running
    irqAck := false
    trace := if kind = .powerOn then .quiet else { s.trace with barrier := false, flush := false } }

/-- nRESETIN goes HIGH. -/
def State.releaseReset (s : State) : State :=
  match s.activity with
  | .heldInReset k => s.applyReset k
  | _ => s

/-- nPORESETIN alone goes LOW: with nRESETIN LOW the reset becomes a power-on reset, else the combination is in no row of
Table 9-1 (U46). -/
def State.porAlone (s : State) : Result :=
  match s.activity with
  | .heldInReset _ => .next { s with activity := .heldInReset .powerOn }
  | _ => .refused .resetPins

/-! ### The outside -/

/-- A pin takes a level. -/
def Pins.setPin (p : Pins) (k : PinName) (high : Bool) : Pins :=
  match k with
  | .nIRQ => { p with nIRQ := high }
  | .nFIQ => { p with nFIQ := high }
  | .irqAddrV => { p with irqAddrV := high }
  | .vinithi => { p with vinithi := high }
  | .bigendinit => { p with bigendinit := high }
  | .ubitinit => { p with ubitinit := high }
  | .initram => { p with initram := high }
  | .cp15sdisable => { p with cp15sdisable := high }
  | .dbgen => { p with dbgen := high }
  | .edbgrq => { p with edbgrq := high }
  | .spiden => { p with spiden := high }
  | .spniden => { p with spniden := high }

/-- A late error of an earlier access (60_exceptions.md R1638); in Debug state 61_debug.md R1778. -/
def State.busErrorEvent (s : State) (a : ImpreciseAbort) : State := s.recordImprecise a

/-- Another master writes a byte (20_memory.md R604): it numbers bytes as a program does, and with B = 1 the byte of a
program's address lies in memory at the renamed one (R532, R538; that 22_l1_l2.md R820 numbers it otherwise is log 61). -/
def State.masterWrite (s : State) (pa : Word) (b : Byte) : State :=
  { s with mem := writeCell s.mem (s.byteAddr pa 0).toNat b }.clearTag [pa]

/-- A step of the DMA engine, as the outcome of a step. -/
def State.dmaOutcome (s : State) (k : State → Result) : Result :=
  match s.dmaTick with
  | .ok s' => k s'
  | .error r => .refused r

noncomputable section

/-- One event (log 10). -/
def State.event (s : State) : Event → Result
  | .core => s.dmaOutcome State.coreStep
  | .pin p high => .next { s with pins := s.pins.setPin p high }
  | .irqAddr a => .next { s with pins := { s.pins with irqAddr := a } }
  | .assertReset k => .next (s.assertReset k)
  | .releaseReset => .next s.releaseReset
  | .porAlone => s.porAlone
  | .tapReset => .next s.tapReset
  | .scanIR v => .next (s.scanIr v)
  | .scanDR v => .next (s.scanDr v)
  | .runTestIdle => s.runTestIdle
  | .busError a => .next (s.busErrorEvent a)
  | .masterWrite pa b => .next (s.masterWrite pa b)
  | .setRegions l => .next { s with regions := l }
  | .dma => s.dmaOutcome .next

/-- One step: the next event of the agenda, and with an empty agenda the core's (log 10). -/
def State.stepOne (s : State) : Result :=
  match s.agenda with
  | [] => s.event .core
  | e :: rest => { s with agenda := rest }.event e

/-- The state with the bytes of `w` stored at the PC as an instruction of `nbits` bits. -/
def State.placeInsn (s : State) (nbits w : Nat) : State :=
  let put (n : Nat) (mem : List Host.Cell) : List Host.Cell :=
    (List.range n).foldl (fun m k => writeCell m (s.pc + BitVec.ofNat 32 k).toNat (byteOf w k)) mem
  if nbits ≤ 16 then { s with cpsr := setBit (setBit s.cpsr 5 true) 24 false, mem := put 2 s.mem }
  else { s with cpsr := setBit (setBit s.cpsr 5 false) 24 false, mem := put 4 s.mem }

end

end Sys2Proof.Machine
end

