-- ==== Sys2Proof/Machine/Step.lean ====
section
/-!
DEFINITION. The step of the machine, and where the host places an instruction so that the next step runs it.
-/
namespace Sys2Proof.Machine

noncomputable section

/-- One step of the machine (log 10): see `State.stepOne`. -/
def step (s : State) : Host.Outcome State Fault Refusal := s.stepOne

/-- The state with an instruction stored where the next step fetches (log 3): at the PC, in the instruction set whose rows
have that many bits, with nothing else due. -/
def State.withFetchWord (s : State) (nbits w : Nat) : State := { s.placeInsn nbits w with agenda := [] }

end

end Sys2Proof.Machine
end

