-- ==== Sys2Proof/Machine/Outputs.lean ====
section
/-!
DEFINITION. The output pins, which are functions of the state (10_state.md R100, 62_platform.md R1851, R1915): `true` for
HIGH. They are the pins between two steps; while a reset holds the core they show what the reset leaves
(70_reset_and_hazards.md R1958; log 55).
-/
namespace Sys2Proof.Machine

/-- What the pins are functions of: the state, or while the core is held in reset what that reset leaves. -/
def State.shown (s : State) : State :=
  match s.activity with
  | .heldInReset k => s.applyReset k
  | _ => s

/-! ### Interrupt requests (62_platform.md R1865); LOW is a request -/

/-- Some DMA channel is Interrupting (14_cp15_dma_misc.md R448). -/
def Dma.interrupting (d : Dma) : Bool := d.ch0.irq || d.ch1.irq

/-- nDMASIRQ: a channel is Interrupting and the channels are configured Secure, as NSACR.DMA says now (22_l1_l2.md R780,
R785). -/
def State.nDmaSIrq (s : State) : Bool := !(s.shown.dma.interrupting && !s.shown.dmaNs)

/-- nDMAIRQ: the same for channels configured Non-secure. -/
def State.nDmaIrq (s : State) : Bool := !(s.shown.dma.interrupting && s.shown.dmaNs)

/-- nDMAEXTERRIRQ: an AXI error answered a DMA access, whatever the masks, until the Clear command
(14_cp15_dma_misc.md R448, D42). -/
def State.nDmaExtErrIrq (s : State) : Bool := !(s.shown.dma.ch0.extErr || s.shown.dma.ch1.extErr)

/-- nPMUIRQ: an overflow flag is set with its interrupt enable (14_cp15_dma_misc.md R472, R475 to R477). -/
def State.nPmuIrq (s : State) : Bool :=
  let c := s.shown.pmu.pmnc
  !((c.getLsbD 10 && c.getLsbD 6) || (c.getLsbD 9 && c.getLsbD 5) || (c.getLsbD 8 && c.getLsbD 4))

/-! ### The core -/

/-- STANDBYWFI: the core is stopped by Wait For Interrupt; LOW while a DMA channel runs or is queued, which keeps Standby
from being entered though the core is frozen (62_platform.md R1880). -/
def State.standbyWfi (s : State) : Bool := s.activity == .standby && !s.dma.ch0.busy && !s.dma.ch1.busy

/-- CFGBIGEND: the B bit of the Control Register (62_platform.md R1857). -/
def State.cfgBigend (s : State) : Bool := s.shown.bigEndian32

/-! ### Debug (61_debug.md R1785) -/

/-- DBGACK: in Debug state, or forced by DSCR[10]. -/
def State.dbgAck (s : State) : Bool := s.shown.inDebug || s.shown.dbg.dscr.getLsbD 10

/-- DBGNOPWRDWN: DSCR[9]. -/
def State.dbgNoPwrDwn (s : State) : Bool := s.shown.dbg.dscr.getLsbD 9

/-- COMMRX: DSCR[30] (61_debug.md R1731). -/
def State.commRx (s : State) : Bool := s.shown.dbg.dscr.getLsbD 30

/-- COMMTX: DSCR[29] inverted (61_debug.md R1731). -/
def State.commTx (s : State) : Bool := !s.shown.dbg.dscr.getLsbD 29

/-! ### The Secure Monitor bus (62_platform.md R1908) -/

/-- Bits [20:5] of SECMONBUS: the enables of the TCM Region registers, NSACR[18], the I, C and M bits of the Secure Control
Register, SCR.NS, and A, I, F and the low mode bits of the CPSR. -/
def State.secmonCore (s : State) : BitVec 16 :=
  let en (r : Word) : BitVec 1 := BitVec.ofBool (r.getLsbD 0)
  let c := s.cp15.sctlr false
  en s.cp15.itcmRegion[1] ++ en s.cp15.itcmRegion[0] ++ en s.cp15.dtcmRegion[1] ++ en s.cp15.dtcmRegion[0] ++
    BitVec.ofBool s.dmaNs ++ BitVec.ofBool (c.getLsbD 12) ++ BitVec.ofBool (c.getLsbD 2) ++
    BitVec.ofBool (c.getLsbD 0) ++ BitVec.ofBool s.scrNs ++ BitVec.ofBool s.bitA ++ BitVec.ofBool s.bitI ++
    BitVec.ofBool s.bitF ++ s.cpsr.extractLsb' 0 4

/-- The bits of SECMONBUS that copy ETM signals: disabled, read as 0, where no performance counter is enabled, since no ETM is
powered. Else [24], [23] and [0] are what the last step of the core ran (R1901), and [4:1], whose values no rule gives, are
free (log 55). -/
def State.secmonEtm (s : State) : BitVec 25 :=
  let free : BitVec 4 := (Config.freeWord s.freeCtr).setWidth 4
  if s.pmu.pmnc.getLsbD 0 then
    BitVec.ofBool s.trace.vector ++ BitVec.ofBool s.trace.data ++ 0#18 ++ free ++ BitVec.ofBool s.trace.valid
  else 0

/-- The bits of SECMONBUS that are HIGH while an operation executes: [22] a Data Synchronization or Data Memory Barrier, [21]
Flush Prefetch Buffer. -/
def State.secmonPulse (s : State) : BitVec 25 :=
  0#2 ++ BitVec.ofBool s.trace.barrier ++ BitVec.ofBool s.trace.flush ++ 0#21

/-- SECMONBUS[24:0]: with the last step of the core on it. nRESETIN resets all of it but [24:23] and [2:0], which nPORESETIN
resets (70_reset_and_hazards.md R1956). -/
def State.secmonBus (s : State) : BitVec 25 :=
  match s.activity with
  | .heldInReset .powerOn => 0
  | .heldInReset .warm => s.secmonEtm &&& 0x1800007
  | _ => s.secmonPulse ||| (s.secmonCore.setWidth 25 <<< 5) ||| s.secmonEtm

end Sys2Proof.Machine
end

