-- ==== Sys2Proof/Safety.lean ====
section
/-!
DEFINITION. What claims mean by a well-formed state and a safe run: the canonical form of every store, the assigned modes,
the reserved bits of the status registers, the alignment of the PC.
-/
namespace Sys2Proof.Machine

/-- The number of byte addresses of main memory (62_platform.md R1909). -/
def memoryBytes : Nat := 2 ^ 32

/-- Main memory and the four TCM stores are in canonical form, each within its size. -/
def State.MemoryOk (s : State) : Prop :=
  Memory.wf memoryBytes s.mem = true ∧ Memory.wf Tcm.itcm0.size s.itcm0 = true ∧
    Memory.wf Tcm.itcm1.size s.itcm1 = true ∧ Memory.wf Tcm.dtcm0.size s.dtcm0 = true ∧
    Memory.wf Tcm.dtcm1.size s.dtcm1 = true

/-- CPSR.M holds one of the eight modes (10_state.md R50). -/
def State.ModeOk (s : State) : Prop := (Mode.ofBits s.modeBits).isSome = true

/-- The reserved bits of the CPSR are 0 (10_state.md R60, D55). -/
def State.CpsrReservedOk (s : State) : Prop := s.cpsr &&& ~~~psrAssigned = 0

/-- The PC is aligned as the instruction set asks: to a halfword in Thumb state, else to a word (10_state.md R56). -/
def State.PcAligned (s : State) : Prop := s.pc &&& (if s.bitT then 1 else 3) = 0

/-- The core runs instructions it fetches itself: it is running or in Standby. -/
def State.fetches (s : State) : Bool := s.activity == .running || s.activity == .standby

/-- The PC is aligned wherever the core will fetch. -/
def State.PcOk (s : State) : Prop := s.fetches = true → s.PcAligned

/-- The well-formed states: those every run from reset stays in. -/
def State.Wf (s : State) : Prop := s.MemoryOk ∧ s.ModeOk ∧ s.CpsrReservedOk ∧ s.PcOk

/-- A step ends in a next state. -/
def State.Steps (s t : State) : Prop := step s = .next t

/-- A state that `n` steps reach. -/
inductive State.Reaches : Nat → State → State → Prop where
  /-- No step. -/
  | refl (s : State) : Reaches 0 s s
  /-- A step, then the others. -/
  | step {n : Nat} {s t u : State} (h : s.Steps t) (r : Reaches n t u) : Reaches (n + 1) s u

/-- A safe run of `n` steps: every state it passes is well-formed and no step of it stops. -/
def State.SafeFor : Nat → State → Prop
  | 0, s => s.Wf
  | n + 1, s => s.Wf ∧ ∃ t, s.Steps t ∧ t.SafeFor n

end Sys2Proof.Machine
end

