-- ==== Sys2Proof/Certificates/Slice0/Vocabulary.lean ====
section
/-!
DEFINITION. The words the statements are written in: results and flags as plain arithmetic, written from the rules of spec/
and not from the meanings; what lies at an address; the instructions of one shape, gathered by their operation.
-/
namespace Sys2Proof.Machine

/-! ### Running an instruction -/

/-- The core is not in Debug state and the condition passes (30_encoding.md R834, R835). -/
def State.Passes (s : State) (c : Cond) : Prop := s.inDebug = false ∧ s.condPassed c = true

/-- The state at another PC. -/
def State.goto (s : State) (a : Word) : State := { s with pc := a }

/-- A register as an operand: R15 is the address of the instruction plus 8, or plus 4 in Thumb state
(10_state.md R56). -/
def State.operand (s : State) (n : BitVec 4) : Word := if n = 15 then s.pc + (if s.bitT then 4 else 8) else s.reg n

/-- The entry of the Undefined Instruction exception (60_exceptions.md R1612). -/
def State.undefinedEntry (s : State) : State := s.takeException .undef s.nextInsn false

/-- The state with N and Z of a word written, C and V kept. -/
def State.withNz (s : State) (w : Word) : State := s.setNzcv { s.nzcv with n := w.msb, z := w == 0 }

/-- The state with Q set where `b` (10_state.md R62). -/
def State.orQ (s : State) (b : Bool) : State := if b then { s with cpsr := setBit s.cpsr 27 true } else s

/-- An integer held to the range of `n` signed bits (41_multiply_dsp.md R1001). -/
def clampSigned (n : Nat) (i : Int) : Int := max (-2 ^ (n - 1)) (min (2 ^ (n - 1) - 1) i)

/-- An integer held to the range of `n` unsigned bits. -/
def clampUnsigned (n : Nat) (i : Int) : Int := max 0 (min (2 ^ n - 1) i)

/-! ### Data processing -/

/-- The second operand and the shifter carry-out (30_encoding.md R837). -/
def State.shifter (s : State) : Operand2 → Word × Bool
  | .imm rot imm8 => (rotatedImm rot imm8, if rot = 0 then s.flagC else (rotatedImm rot imm8).msb)
  | .shifted imm5 type rm => immShiftC type (s.operand rm) imm5 s.flagC
  | .shiftedByReg rs type rm => shiftC type (s.operand rm) ((s.operand rs).extractLsb' 0 8).toNat s.flagC

/-- The result of an opcode (40_dataproc.md R910 to R935). -/
def aluValue (op : AluOp) (a b : Word) (c : Bool) : Word :=
  match op with
  | .and => a &&& b
  | .eor => a ^^^ b
  | .sub => a - b
  | .rsb => b - a
  | .add => a + b
  | .adc => a + b + boolWord c
  | .sbc => a - b - boolWord (!c)
  | .rsc => b - a - boolWord (!c)
  | .orr => a ||| b
  | .mov => b
  | .bic => a &&& ~~~b
  | .mvn => ~~~b

/-- C of an opcode: no borrow for a subtraction, a carry out of bit 31 for an addition, the shifter carry-out otherwise
(40_dataproc.md R902, 10_state.md R61). -/
def aluCarry (op : AluOp) (a b : Word) (c sco : Bool) : Bool :=
  match op with
  | .sub => decide (b.toNat ≤ a.toNat)
  | .rsb => decide (a.toNat ≤ b.toNat)
  | .add => decide (2 ^ 32 ≤ a.toNat + b.toNat)
  | .adc => decide (2 ^ 32 ≤ a.toNat + b.toNat + c.toNat)
  | .sbc => decide (b.toNat + (!c).toNat ≤ a.toNat)
  | .rsc => decide (a.toNat + (!c).toNat ≤ b.toNat)
  | .and => sco
  | .eor => sco
  | .orr => sco
  | .mov => sco
  | .bic => sco
  | .mvn => sco

/-- The exact signed result of an arithmetic opcode. -/
def aluExact (op : AluOp) (a b : Word) (c : Bool) : Option Int :=
  match op with
  | .sub => some (a.toInt - b.toInt)
  | .rsb => some (b.toInt - a.toInt)
  | .add => some (a.toInt + b.toInt)
  | .adc => some (a.toInt + b.toInt + c.toNat)
  | .sbc => some (a.toInt - b.toInt - (!c).toNat)
  | .rsc => some (b.toInt - a.toInt - (!c).toNat)
  | .and => none
  | .eor => none
  | .orr => none
  | .mov => none
  | .bic => none
  | .mvn => none

/-- The flags of an opcode: V says that the result differs from the exact signed result (40_dataproc.md R901, R902). -/
def aluFlags (op : AluOp) (a b : Word) (sco : Bool) (f : Nzcv) : Nzcv :=
  let r := aluValue op a b f.c
  { n := r.msb, z := r == 0, c := aluCarry op a b f.c sco,
    v := match aluExact op a b f.c with
      | some i => r.toInt != i
      | none => f.v }

/-- The result and the flags of a data-processing instruction at a state. -/
def State.aluResult (s : State) (op : AluOp) (rn : BitVec 4) (o : Operand2) : Word × Nzcv :=
  (aluValue op (s.operand rn) (s.shifter o).1 s.flagC, aluFlags op (s.operand rn) (s.shifter o).1 (s.shifter o).2 s.nzcv)

/-- The four comparisons (40_dataproc.md R920 to R923). -/
inductive CompareOp where
  | tst
  | teq
  | cmp
  | cmn

/-- The opcode whose flags a comparison sets. -/
def CompareOp.alu : CompareOp → AluOp
  | .tst => .and
  | .teq => .eor
  | .cmp => .sub
  | .cmn => .add

noncomputable section

/-- The 36 instructions of the twelve opcodes in their three operand forms (40_dataproc.md R901); the Rn field of MOV and
MVN, which should be zero, is 0. -/
def aluInstr (op : AluOp) (cond : Cond) (sBit : Bool) (rn rd : BitVec 4) (o : Operand2) : Instr :=
  match op, o with
  | .and, .imm rot imm8 => .andImm cond sBit rn rd rot imm8
  | .and, .shifted imm5 t rm => .andRegImm cond sBit rn rd imm5 t rm
  | .and, .shiftedByReg rs t rm => .andRegReg cond sBit rn rd rs t rm
  | .eor, .imm rot imm8 => .eorImm cond sBit rn rd rot imm8
  | .eor, .shifted imm5 t rm => .eorRegImm cond sBit rn rd imm5 t rm
  | .eor, .shiftedByReg rs t rm => .eorRegReg cond sBit rn rd rs t rm
  | .sub, .imm rot imm8 => .subImm cond sBit rn rd rot imm8
  | .sub, .shifted imm5 t rm => .subRegImm cond sBit rn rd imm5 t rm
  | .sub, .shiftedByReg rs t rm => .subRegReg cond sBit rn rd rs t rm
  | .rsb, .imm rot imm8 => .rsbImm cond sBit rn rd rot imm8
  | .rsb, .shifted imm5 t rm => .rsbRegImm cond sBit rn rd imm5 t rm
  | .rsb, .shiftedByReg rs t rm => .rsbRegReg cond sBit rn rd rs t rm
  | .add, .imm rot imm8 => .addImm cond sBit rn rd rot imm8
  | .add, .shifted imm5 t rm => .addRegImm cond sBit rn rd imm5 t rm
  | .add, .shiftedByReg rs t rm => .addRegReg cond sBit rn rd rs t rm
  | .adc, .imm rot imm8 => .adcImm cond sBit rn rd rot imm8
  | .adc, .shifted imm5 t rm => .adcRegImm cond sBit rn rd imm5 t rm
  | .adc, .shiftedByReg rs t rm => .adcRegReg cond sBit rn rd rs t rm
  | .sbc, .imm rot imm8 => .sbcImm cond sBit rn rd rot imm8
  | .sbc, .shifted imm5 t rm => .sbcRegImm cond sBit rn rd imm5 t rm
  | .sbc, .shiftedByReg rs t rm => .sbcRegReg cond sBit rn rd rs t rm
  | .rsc, .imm rot imm8 => .rscImm cond sBit rn rd rot imm8
  | .rsc, .shifted imm5 t rm => .rscRegImm cond sBit rn rd imm5 t rm
  | .rsc, .shiftedByReg rs t rm => .rscRegReg cond sBit rn rd rs t rm
  | .orr, .imm rot imm8 => .orrImm cond sBit rn rd rot imm8
  | .orr, .shifted imm5 t rm => .orrRegImm cond sBit rn rd imm5 t rm
  | .orr, .shiftedByReg rs t rm => .orrRegReg cond sBit rn rd rs t rm
  | .mov, .imm rot imm8 => .movImm cond sBit 0 rd rot imm8
  | .mov, .shifted imm5 t rm => .movRegImm cond sBit 0 rd imm5 t rm
  | .mov, .shiftedByReg rs t rm => .movRegReg cond sBit 0 rd rs t rm
  | .bic, .imm rot imm8 => .bicImm cond sBit rn rd rot imm8
  | .bic, .shifted imm5 t rm => .bicRegImm cond sBit rn rd imm5 t rm
  | .bic, .shiftedByReg rs t rm => .bicRegReg cond sBit rn rd rs t rm
  | .mvn, .imm rot imm8 => .mvnImm cond sBit 0 rd rot imm8
  | .mvn, .shifted imm5 t rm => .mvnRegImm cond sBit 0 rd imm5 t rm
  | .mvn, .shiftedByReg rs t rm => .mvnRegReg cond sBit 0 rd rs t rm

/-- The 12 comparisons (40_dataproc.md R920 to R923); their Rd field, which should be zero, is 0. -/
def compareInstr (op : CompareOp) (cond : Cond) (rn : BitVec 4) (o : Operand2) : Instr :=
  match op, o with
  | .tst, .imm rot imm8 => .tstImm cond rn 0 rot imm8
  | .tst, .shifted imm5 t rm => .tstRegImm cond rn 0 imm5 t rm
  | .tst, .shiftedByReg rs t rm => .tstRegReg cond rn 0 rs t rm
  | .teq, .imm rot imm8 => .teqImm cond rn 0 rot imm8
  | .teq, .shifted imm5 t rm => .teqRegImm cond rn 0 imm5 t rm
  | .teq, .shiftedByReg rs t rm => .teqRegReg cond rn 0 rs t rm
  | .cmp, .imm rot imm8 => .cmpImm cond rn 0 rot imm8
  | .cmp, .shifted imm5 t rm => .cmpRegImm cond rn 0 imm5 t rm
  | .cmp, .shiftedByReg rs t rm => .cmpRegReg cond rn 0 rs t rm
  | .cmn, .imm rot imm8 => .cmnImm cond rn 0 rot imm8
  | .cmn, .shifted imm5 t rm => .cmnRegImm cond rn 0 imm5 t rm
  | .cmn, .shiftedByReg rs t rm => .cmnRegReg cond rn 0 rs t rm

end

/-! ### Media -/

/-- A lane of a parallel instruction from its exact result (42_media_simd.md R1102). -/
def laneValue (p : ParPrefix) (w : Nat) (exact : Int) : BitVec w :=
  match p with
  | .s => BitVec.ofInt w exact
  | .u => BitVec.ofInt w exact
  | .q => BitVec.ofInt w (clampSigned w exact)
  | .uq => BitVec.ofInt w (clampUnsigned w exact)
  | .sh => BitVec.ofInt w (exact / 2)
  | .uh => BitVec.ofInt w (exact / 2)

/-- The GE bit of a lane: not negative, but for an unsigned addition a carry out of the lane (42_media_simd.md R1103). -/
def laneGe (p : ParPrefix) (sub : Bool) (w : Nat) (exact : Int) : Bool :=
  if p = .u ∧ sub = false then decide ((2 ^ w : Int) ≤ exact) else decide (0 ≤ exact)

/-- The value a lane is read as (42_media_simd.md R1102). -/
def laneRead {w : Nat} (p : ParPrefix) (x : BitVec w) : Int :=
  if p = .s ∨ p = .q ∨ p = .sh then x.toInt else x.toNat

/-- The exact result of lane `k`, of `w` bits, of a parallel instruction: it subtracts where `sub`, and `j` is the lane of
the second operand. -/
def laneExact (p : ParPrefix) (sub : Bool) (w : Nat) (n m : Word) (k j : Nat) : Int :=
  if sub then laneRead p (n.extractLsb' (w * k) w) - laneRead p (m.extractLsb' (w * j) w)
  else laneRead p (n.extractLsb' (w * k) w) + laneRead p (m.extractLsb' (w * j) w)

/-- The bits of a lane (42_media_simd.md R1102). -/
def ParOp.width : ParOp → Nat
  | .add8 => 8
  | .sub8 => 8
  | .add16 => 16
  | .sub16 => 16
  | .addsubx => 16
  | .subaddx => 16

/-- Does lane `k` subtract (42_media_simd.md R1102)? ADDSUBX adds in its top half, SUBADDX in its bottom half. -/
def ParOp.subtracts (op : ParOp) (k : Nat) : Bool :=
  match op with
  | .add8 => false
  | .add16 => false
  | .sub8 => true
  | .sub16 => true
  | .addsubx => k == 0
  | .subaddx => k == 1

/-- The lane of the second operand that meets lane `k`: the X forms exchange the halves (42_media_simd.md R1102). -/
def ParOp.partner (op : ParOp) (k : Nat) : Nat :=
  match op with
  | .addsubx => 1 - k
  | .subaddx => 1 - k
  | _ => k

noncomputable section

/-- The 36 parallel additions and subtractions (42_media_simd.md R1102); their should-be-one field is 15. -/
def parallelInstr (p : ParPrefix) (op : ParOp) (cond : Cond) (rn rd rm : BitVec 4) : Instr :=
  match p, op with
  | .s, .add16 => .sadd16 cond rn rd 15 rm
  | .s, .addsubx => .saddsubx cond rn rd 15 rm
  | .s, .subaddx => .ssubaddx cond rn rd 15 rm
  | .s, .sub16 => .ssub16 cond rn rd 15 rm
  | .s, .add8 => .sadd8 cond rn rd 15 rm
  | .s, .sub8 => .ssub8 cond rn rd 15 rm
  | .q, .add16 => .qadd16 cond rn rd 15 rm
  | .q, .addsubx => .qaddsubx cond rn rd 15 rm
  | .q, .subaddx => .qsubaddx cond rn rd 15 rm
  | .q, .sub16 => .qsub16 cond rn rd 15 rm
  | .q, .add8 => .qadd8 cond rn rd 15 rm
  | .q, .sub8 => .qsub8 cond rn rd 15 rm
  | .sh, .add16 => .shadd16 cond rn rd 15 rm
  | .sh, .addsubx => .shaddsubx cond rn rd 15 rm
  | .sh, .subaddx => .shsubaddx cond rn rd 15 rm
  | .sh, .sub16 => .shsub16 cond rn rd 15 rm
  | .sh, .add8 => .shadd8 cond rn rd 15 rm
  | .sh, .sub8 => .shsub8 cond rn rd 15 rm
  | .u, .add16 => .uadd16 cond rn rd 15 rm
  | .u, .addsubx => .uaddsubx cond rn rd 15 rm
  | .u, .subaddx => .usubaddx cond rn rd 15 rm
  | .u, .sub16 => .usub16 cond rn rd 15 rm
  | .u, .add8 => .uadd8 cond rn rd 15 rm
  | .u, .sub8 => .usub8 cond rn rd 15 rm
  | .uq, .add16 => .uqadd16 cond rn rd 15 rm
  | .uq, .addsubx => .uqaddsubx cond rn rd 15 rm
  | .uq, .subaddx => .uqsubaddx cond rn rd 15 rm
  | .uq, .sub16 => .uqsub16 cond rn rd 15 rm
  | .uq, .add8 => .uqadd8 cond rn rd 15 rm
  | .uq, .sub8 => .uqsub8 cond rn rd 15 rm
  | .uh, .add16 => .uhadd16 cond rn rd 15 rm
  | .uh, .addsubx => .uhaddsubx cond rn rd 15 rm
  | .uh, .subaddx => .uhsubaddx cond rn rd 15 rm
  | .uh, .sub16 => .uhsub16 cond rn rd 15 rm
  | .uh, .add8 => .uhadd8 cond rn rd 15 rm
  | .uh, .sub8 => .uhsub8 cond rn rd 15 rm

/-- The six plain extends (42_media_simd.md R1167 to R1172); their should-be-zero field is 0. -/
def extendInstr (e : Extend) (signed : Bool) (cond : Cond) (rd : BitVec 4) (rotate : BitVec 2) (rm : BitVec 4) : Instr :=
  match e, signed with
  | .twoBytes, true => .sxtb16 cond rd rotate 0 rm
  | .byte, true => .sxtb cond rd rotate 0 rm
  | .half, true => .sxth cond rd rotate 0 rm
  | .twoBytes, false => .uxtb16 cond rd rotate 0 rm
  | .byte, false => .uxtb cond rd rotate 0 rm
  | .half, false => .uxth cond rd rotate 0 rm

/-- The six extends with an addition (42_media_simd.md R1161 to R1166). -/
def extendAddInstr (e : Extend) (signed : Bool) (cond : Cond) (rn rd : BitVec 4) (rotate : BitVec 2) (rm : BitVec 4) :
    Instr :=
  match e, signed with
  | .twoBytes, true => .sxtab16 cond rn rd rotate 0 rm
  | .byte, true => .sxtab cond rn rd rotate 0 rm
  | .half, true => .sxtah cond rn rd rotate 0 rm
  | .twoBytes, false => .uxtab16 cond rn rd rotate 0 rm
  | .byte, false => .uxtab cond rn rd rotate 0 rm
  | .half, false => .uxtah cond rn rd rotate 0 rm

end

/-- An integer extension of the bottom `w` bits. -/
def extendedInt {w : Nat} (signed : Bool) (x : BitVec w) : Int := if signed then x.toInt else x.toNat

/-- The extended value of a rotated register: a byte, a halfword, or bytes 0 and 2 to two halfwords
(42_media_simd.md R1160). -/
def extendedWord (e : Extend) (signed : Bool) (r : Word) : Word :=
  match e with
  | .byte => BitVec.ofInt 32 (extendedInt signed (r.extractLsb' 0 8))
  | .half => BitVec.ofInt 32 (extendedInt signed (r.extractLsb' 0 16))
  | .twoBytes =>
    BitVec.ofInt 16 (extendedInt signed (r.extractLsb' 16 8)) ++ BitVec.ofInt 16 (extendedInt signed (r.extractLsb' 0 8))

/-! ### Memory -/

/-- No watchpoint is enabled (61_debug.md R1743). -/
def State.NoWatch (s : State) : Prop := s.dbg.wcr[0].getLsbD 0 = false ∧ s.dbg.wcr[1].getLsbD 0 = false

/-- A data address of the current world is translated to a place, with nothing to be written to the TLB, and the bus answers
OKAY there (21_mmu.md R685, 62_platform.md R1909). -/
def State.At (s : State) (va : Word) (kind : Access) (priv : Bool) (p : Place) : Prop :=
  locate va kind priv s = .ok (.ok p) s ∧ s.placeError p kind priv = none

/-- The alignment check of an access at a state (20_memory.md R549). -/
def State.alignment (s : State) (t : AccessType) (va : Word) : Alignment :=
  alignCheck (s.sctlr.getLsbD 1) (s.sctlr.getLsbD 22) t (va.extractLsb' 0 3)

/-- The address an access that is not unaligned is made at: the low bits the check names are cleared (20_memory.md R549). -/
def State.AccessAddress (s : State) (t : AccessType) (va a : Word) : Prop :=
  (s.alignment t va = .normal ∧ a = va) ∨ ∃ k, s.alignment t va = .forced k ∧ a = alignDown va k

/-- Memory holds the item `w`, of `n` bytes, at `va`, for an access of type `t` (20_memory.md R541, R543, R551, R620): in one
part, a word being rotated to the byte its address names, or unaligned in Normal memory. -/
def State.Holds (s : State) (t : AccessType) (n : Nat) (priv : Bool) (va w : Word) : Prop :=
  s.reservedEndian = false ∧ s.NoWatch ∧
  ((∃ a p, s.AccessAddress t va a ∧ s.At a .read priv p ∧
      w = (s.assemble (s.partBytes p 0 n)).rotateRight (if t = .wordLoad then 8 * (va.extractLsb' 0 2).toNat else 0)) ∨
   (s.alignment t va = .unaligned ∧
      ((∃ q p, parts va n = [q] ∧ s.At q.va .read priv p ∧ p.type = .normal ∧ w = s.assemble (s.partBytes p 0 q.len)) ∨
       (∃ q r p1 p2, parts va n = [q, r] ∧ s.At q.va .read priv p1 ∧ p1.type = .normal ∧ s.At r.va .read priv p2 ∧
          p2.type = .normal ∧ w = s.assemble (s.partBytes p1 0 q.len ++ s.partBytes p2 0 r.len)))))

/-- Storing the item `v`, of `n` bytes, at `va` leaves the state `u` (20_memory.md R552, R620): its bytes are written at the
place of the address, or unaligned at the places of its two parts, which lie in Normal memory. -/
def State.StoredAs (s : State) (t : AccessType) (n : Nat) (priv : Bool) (va v : Word) (u : State) : Prop :=
  s.reservedEndian = false ∧ s.NoWatch ∧
  ((∃ a p, s.AccessAddress t va a ∧ s.At a .write priv p ∧ u = s.writePart p 0 (s.scatter v n)) ∨
   (s.alignment t va = .unaligned ∧
      ((∃ q p, parts va n = [q] ∧ s.At q.va .write priv p ∧ p.type = .normal ∧ u = s.writePart p 0 (s.scatter v n)) ∨
       (∃ q r p1 p2, parts va n = [q, r] ∧ s.At q.va .write priv p1 ∧ p1.type = .normal ∧ p2.type = .normal ∧
          (s.writePart p1 0 ((s.scatter v n).take q.len)).At r.va .write priv p2 ∧
          u = (s.writePart p1 0 ((s.scatter v n).take q.len)).writePart p2 0 ((s.scatter v n).drop q.len)))))

/-- Memory holds words at ascending addresses (45_ldm_excl_swp.md R1360). -/
def State.HoldsWords (s : State) (priv : Bool) : Word → List Word → Prop
  | _, [] => True
  | va, w :: ws =>
    (∃ p, s.At va .read priv p ∧ w = s.assemble (s.partBytes p 0 4)) ∧ s.HoldsWords priv (va + 4) ws

/-- Storing words at ascending addresses, one after the other, leaves the state `u` (45_ldm_excl_swp.md R1360). -/
def State.StoredWords (s : State) (priv : Bool) (va : Word) (ws : List Word) (u : State) : Prop :=
  match ws with
  | [] => u = s
  | w :: ws =>
    ∃ p, s.At va .write priv p ∧ (s.writePart p 0 (s.scatter w 4)).StoredWords priv (va + 4) ws u

/-- The value of an offset (44_loadstore.md R1262, R1263, R1265). -/
def State.offset (s : State) : Offset → Word
  | .imm v => v
  | .reg imm5 type rm => (immShiftC type (s.operand rm) imm5 s.flagC).1

/-- The base moved by the offset, up or down (44_loadstore.md R1262). -/
def State.moved (s : State) (x : Index) (rn : BitVec 4) (o : Offset) : Word :=
  if x.u then s.operand rn + s.offset o else s.operand rn - s.offset o

/-- The address of a transfer: the moved base, or the base itself for a post-indexed form (44_loadstore.md R1262, R1265). -/
def State.address (s : State) (x : Index) (rn : BitVec 4) (o : Offset) : Word :=
  if x.p then s.moved x rn o else s.operand rn

/-- The state with the base written back, where the form does so (44_loadstore.md R1262). -/
def State.withBase (s : State) (x : Index) (rn : BitVec 4) (v : Word) : State :=
  if x.p && !x.w then s else s.setReg rn v

/-- The loads of one register, by what they load (44_loadstore.md R1271 to R1277). -/
inductive LoadOp where
  | ldr
  | ldrt
  | ldrb
  | ldrbt
  | ldrsb
  | ldrh
  | ldrsh

/-- The stores of one register (44_loadstore.md R1290 to R1294). -/
inductive StoreOp where
  | str
  | strt
  | strb
  | strbt
  | strh

/-- The access type of a load. -/
def LoadOp.type : LoadOp → AccessType
  | .ldr => .wordLoad
  | .ldrt => .wordLoad
  | .ldrb => .byte
  | .ldrbt => .byte
  | .ldrsb => .byte
  | .ldrh => .half
  | .ldrsh => .half

/-- The bytes of a load. -/
def LoadOp.bytes : LoadOp → Nat
  | .ldr => 4
  | .ldrt => 4
  | .ldrb => 1
  | .ldrbt => 1
  | .ldrsb => 1
  | .ldrh => 2
  | .ldrsh => 2

/-- The register's value: the byte and halfword forms extend by zero or by sign (20_memory.md R550, R551). -/
def LoadOp.extend (op : LoadOp) (w : Word) : Word :=
  match op with
  | .ldrsb => (w.extractLsb' 0 8).signExtend 32
  | .ldrsh => (w.extractLsb' 0 16).signExtend 32
  | _ => w

/-- The access type of a store. -/
def StoreOp.type : StoreOp → AccessType
  | .str => .wordStore
  | .strt => .wordStore
  | .strb => .byte
  | .strbt => .byte
  | .strh => .half

/-- The bytes of a store. -/
def StoreOp.bytes : StoreOp → Nat
  | .str => 4
  | .strt => 4
  | .strb => 1
  | .strbt => 1
  | .strh => 2

/-- The T forms access memory as User mode does (44_loadstore.md R1272, R1274, R1291, R1293). -/
def LoadOp.user (op : LoadOp) : Bool :=
  match op with
  | .ldrt => true
  | .ldrbt => true
  | _ => false

/-- The T forms access memory as User mode does. -/
def StoreOp.user (op : StoreOp) : Bool :=
  match op with
  | .strt => true
  | .strbt => true
  | _ => false

/-- Mode 2 has a 12-bit offset or a shifted register, mode 3 an 8-bit offset or a register (44_loadstore.md R1262,
R1265). -/
inductive OffsetForm where
  | imm12 (v : BitVec 12)
  | shifted (imm5 : BitVec 5) (type : BitVec 2) (rm : BitVec 4)
  | imm8 (h l : BitVec 4)
  | reg (rm : BitVec 4)

/-- The offset of a form. -/
def OffsetForm.offset : OffsetForm → Offset
  | .imm12 v => .imm (v.setWidth 32)
  | .shifted imm5 t rm => .reg imm5 t rm
  | .imm8 h l => .imm ((h ++ l).setWidth 32)
  | .reg rm => .reg 0 0 rm

noncomputable section

/-- The loads of one register in the forms each has; the T forms are post-indexed (44_loadstore.md R1262), mode 3 has no
form with P = 0 and W = 1 (R1265). -/
def LoadOp.instr (op : LoadOp) (c : Cond) (x : Index) (rn rd : BitVec 4) (f : OffsetForm) : Option Instr :=
  match op, f with
  | .ldr, .imm12 v => some (.ldrImm c x.p x.u x.w rn rd v)
  | .ldr, .shifted i t rm => some (.ldrReg c x.p x.u x.w rn rd i t rm)
  | .ldrb, .imm12 v => some (.ldrbImm c x.p x.u x.w rn rd v)
  | .ldrb, .shifted i t rm => some (.ldrbReg c x.p x.u x.w rn rd i t rm)
  | .ldrt, .imm12 v => if x.p || !x.w then none else some (.ldrtImm c x.u rn rd v)
  | .ldrt, .shifted i t rm => if x.p || !x.w then none else some (.ldrtReg c x.u rn rd i t rm)
  | .ldrbt, .imm12 v => if x.p || !x.w then none else some (.ldrbtImm c x.u rn rd v)
  | .ldrbt, .shifted i t rm => if x.p || !x.w then none else some (.ldrbtReg c x.u rn rd i t rm)
  | .ldrsb, .imm8 h l => if !x.p && x.w then none else some (.ldrsbImm c x.p x.u x.w rn rd h l)
  | .ldrsb, .reg rm => if !x.p && x.w then none else some (.ldrsbReg c x.p x.u x.w rn rd 0 rm)
  | .ldrh, .imm8 h l => if !x.p && x.w then none else some (.ldrhImm c x.p x.u x.w rn rd h l)
  | .ldrh, .reg rm => if !x.p && x.w then none else some (.ldrhReg c x.p x.u x.w rn rd 0 rm)
  | .ldrsh, .imm8 h l => if !x.p && x.w then none else some (.ldrshImm c x.p x.u x.w rn rd h l)
  | .ldrsh, .reg rm => if !x.p && x.w then none else some (.ldrshReg c x.p x.u x.w rn rd 0 rm)
  | _, _ => none

/-- The stores of one register in the forms each has. -/
def StoreOp.instr (op : StoreOp) (c : Cond) (x : Index) (rn rd : BitVec 4) (f : OffsetForm) : Option Instr :=
  match op, f with
  | .str, .imm12 v => some (.strImm c x.p x.u x.w rn rd v)
  | .str, .shifted i t rm => some (.strReg c x.p x.u x.w rn rd i t rm)
  | .strb, .imm12 v => some (.strbImm c x.p x.u x.w rn rd v)
  | .strb, .shifted i t rm => some (.strbReg c x.p x.u x.w rn rd i t rm)
  | .strt, .imm12 v => if x.p || !x.w then none else some (.strtImm c x.u rn rd v)
  | .strt, .shifted i t rm => if x.p || !x.w then none else some (.strtReg c x.u rn rd i t rm)
  | .strbt, .imm12 v => if x.p || !x.w then none else some (.strbtImm c x.u rn rd v)
  | .strbt, .shifted i t rm => if x.p || !x.w then none else some (.strbtReg c x.u rn rd i t rm)
  | .strh, .imm8 h l => if !x.p && x.w then none else some (.strhImm c x.p x.u x.w rn rd h l)
  | .strh, .reg rm => if !x.p && x.w then none else some (.strhReg c x.p x.u x.w rn rd 0 rm)
  | _, _ => none

end

/-- The operand combinations of modes 2 and 3 that are Unpredictable (44_loadstore.md R1264, R1265). -/
def badTransfer (x : Index) (rn rd : BitVec 4) (o : Offset) : Bool :=
  o.isPc || (!(x.p && !x.w) && (rn == 15 || rn == rd))

/-- What a store of a register stores: the address of the instruction plus 8 or 12 for R15 (44_loadstore.md R1290). -/
def State.storeValue (s : State) (n : BitVec 4) : Word := if n = 15 then s.pc + Config.storePcOffset else s.reg n

/-- The state with registers written, in order. -/
def State.setRegs (s : State) : List (BitVec 4 × Word) → State
  | [] => s
  | (n, w) :: t => (s.setReg n w).setRegs t

/-- The state with User registers written, in order. -/
def State.setUserRegs (s : State) : List (BitVec 4 × Word) → State
  | [] => s
  | (n, w) :: t => (s.setRegOf .usr n w).setUserRegs t

/-- The registers of a list but R15, with their words (45_ldm_excl_swp.md R1362). -/
def listed (l : BitVec 16) (ws : List Word) : List (BitVec 4 × Word) :=
  ((listRegs l).zip ws).filter fun x => x.1 != 15

/-! ### Program status -/

/-- The CPSR bits an exception return writes at a state (10_state.md R70): A and F need the Secure world or SCR.AW and
SCR.FW, the mode stays where the guard of Secure Monitor mode holds, User mode writes no control bit but J and T. -/
def State.returnMask (s : State) (psr : Word) : Word :=
  0xF90F0220 |||
    (if s.privileged then
      0x80 ||| (if s.secure || s.cp15.scr.getLsbD 5 then 0x100 else 0) |||
        (if s.secure || s.cp15.scr.getLsbD 4 then 0x40 else 0) |||
        (if psr.extractLsb' 0 5 == Mode.mon.toBits && !s.secure then 0 else 0x1F)
     else 0)

/-- The state after an exception return to `a` with status `psr` (43_branch_status.md R1205). -/
def State.returnTo (s : State) (a psr : Word) : State :=
  let c := merge s.cpsr psr (s.returnMask psr)
  { s with cpsr := c, pc := if c.getLsbD 5 then a &&& 0xFFFFFFFE else a &&& 0xFFFFFFFC }

/-! ### Branches, returns, blocks -/

/-- The outcome of an interworking branch: bit 0 selects Thumb state; an address with bits [1:0] = 0b10 stops
(43_branch_status.md R1202). -/
def State.interwork (t : State) (v : Word) : Result :=
  if v.getLsbD 0 then .next ({ t with cpsr := setBit t.cpsr 5 true }.goto (v &&& 0xFFFFFFFE))
  else if v.getLsbD 1 then .refused .branchAddress
  else .next ({ t with cpsr := setBit t.cpsr 5 false }.goto v)

/-- The outcome of loading the PC: an interworking branch, or with the L4 bit of the Control Register a branch that keeps the
instruction set (43_branch_status.md R1203). -/
def State.loadedPc (t : State) (v : Word) : Result :=
  if t.sctlr.getLsbD 15 then .next (t.goto (if t.bitT then v &&& 0xFFFFFFFE else v &&& 0xFFFFFFFC)) else t.interwork v

/-- The outcome of an exception return to `a` with status `psr` (43_branch_status.md R1205): an unassigned mode stops it
(10_state.md R50), a return to Jazelle state faults (R76). -/
def State.returnOutcome (s : State) (a psr : Word) : Result :=
  let c := merge s.cpsr psr (s.returnMask psr)
  if s.privileged && (Mode.ofBits (psr.extractLsb' 0 5)).isNone then .refused .unassignedMode
  else if c.getLsbD 24 && !c.getLsbD 5 then .fault .jazelleState
  else .next (s.returnTo a psr)

/-- What an exception return may restore: in a privileged mode an assigned mode (10_state.md R50), and not Jazelle state
(R76). -/
def State.mayReturn (s : State) (psr : Word) : Bool :=
  let c := merge s.cpsr psr (s.returnMask psr)
  (!s.privileged || (Mode.ofBits (psr.extractLsb' 0 5)).isSome) && (!c.getLsbD 24 || c.getLsbD 5)

/-- The lowest address of a block of `n` words (45_ldm_excl_swp.md R1360): IA, IB, DA, DB by U and P. -/
def blockStart (p u : Bool) (n : Nat) (base : Word) : Word :=
  match u, p with
  | true, false => base
  | true, true => base + 4
  | false, false => base - BitVec.ofNat 32 (4 * n) + 4
  | false, true => base - BitVec.ofNat 32 (4 * n)

/-- The base after a block of `n` words (45_ldm_excl_swp.md R1360). -/
def blockBase (u : Bool) (n : Nat) (base : Word) : Word :=
  if u then base + BitVec.ofNat 32 (4 * n) else base - BitVec.ofNat 32 (4 * n)

/-- Memory holds the words of a block whose lowest address is `start` (45_ldm_excl_swp.md R1360, R1361). -/
def State.HoldsBlock (s : State) (t : AccessType) (start : Word) (ws : List Word) : Prop :=
  s.reservedEndian = false ∧ s.NoWatch ∧ ∃ a, s.AccessAddress t start a ∧ s.HoldsWords s.privileged a ws

/-- Storing a block whose lowest address is `start` leaves the state `u` (45_ldm_excl_swp.md R1360, R1361). -/
def State.StoredBlock (s : State) (t : AccessType) (start : Word) (ws : List Word) (u : State) : Prop :=
  s.reservedEndian = false ∧ s.NoWatch ∧ ∃ a, s.AccessAddress t start a ∧ s.StoredWords s.privileged a ws u

noncomputable section

/-- LDRD and STRD in their two forms (44_loadstore.md R1278, R1295). -/
def doubleInstr (load : Bool) (c : Cond) (x : Index) (rn rd : BitVec 4) (f : OffsetForm) : Option Instr :=
  match load, f with
  | true, .imm8 h l => some (.ldrdImm c x.p x.u x.w rn rd h l)
  | true, .reg rm => some (.ldrdReg c x.p x.u x.w rn rd 0 rm)
  | false, .imm8 h l => some (.strdImm c x.p x.u x.w rn rd h l)
  | false, .reg rm => some (.strdReg c x.p x.u x.w rn rd 0 rm)
  | _, _ => none

end

/-- The operand combinations of LDRD and STRD that are Unpredictable, beside an odd Rd (44_loadstore.md R1265, R1278). -/
def badDouble (load : Bool) (x : Index) (rn rd : BitVec 4) (o : Offset) : Bool :=
  rd == 14 || o.isPc || (!x.p && x.w) || (!(x.p && !x.w) && (rn == 15 || rn == rd || rn == rd + 1)) ||
    (load && (o.usesReg rd || o.usesReg (rd + 1)))

/-- The forms of LDREX and STREX (45_ldm_excl_swp.md R1391 to R1396). -/
inductive ExclusiveSize where
  | byte
  | half
  | word

/-- The access type of an exclusive access. -/
def ExclusiveSize.type : ExclusiveSize → AccessType
  | .byte => .byte
  | .half => .halfSync
  | .word => .wordSync

/-- The bytes of an exclusive access. -/
def ExclusiveSize.bytes : ExclusiveSize → Nat
  | .byte => 1
  | .half => 2
  | .word => 4

noncomputable section

/-- LDREX, LDREXB, LDREXH. -/
def ExclusiveSize.load (z : ExclusiveSize) (c : Cond) (rn rd : BitVec 4) : Instr :=
  match z with
  | .byte => .ldrexb c rn rd 15 15
  | .half => .ldrexh c rn rd 15 15
  | .word => .ldrex c rn rd 15 15

/-- STREX, STREXB, STREXH. -/
def ExclusiveSize.store (z : ExclusiveSize) (c : Cond) (rn rd rm : BitVec 4) : Instr :=
  match z with
  | .byte => .strexb c rn rd 15 rm
  | .half => .strexh c rn rd 15 rm
  | .word => .strex c rn rd 15 rm

end

/-- An exclusive access of `n` bytes may be made at a place: Normal memory, and a monitor wherever the place is Shared
(20_memory.md R606, R607). -/
def State.Exclusive (s : State) (a : Word) (kind : Access) (n : Nat) (p : Place) : Prop :=
  s.At a kind s.privileged p ∧ p.type = .normal ∧ s.noMonitor p kind s.privileged n = false

/-- The monitors after a load-exclusive of `n` bytes (20_memory.md R601). -/
def State.marked (s : State) (p : Place) (n : Nat) : State :=
  { s with monitors := { locl := true, globl := if p.shared then some (p.pa, n) else s.monitors.globl } }

/-- The monitors after a store-exclusive that stored (20_memory.md R602). -/
def State.cleared (s : State) (p : Place) : State :=
  { s with monitors := { locl := false, globl := if p.shared then none else s.monitors.globl } }

/-- The local monitor open (20_memory.md R602, R603). -/
def State.opened (s : State) : State := { s with monitors := { s.monitors with locl := false } }

/-! ### The boundary -/

/-- The core is about to begin an instruction: no event from outside is next, the core runs, no DMA channel runs, and
nothing of the instruction before is left to take (61_debug.md R1765). -/
structure State.Between (s : State) : Prop where
  agenda   : s.agenda = []
  running  : s.activity = .running
  noDma    : s.dma.ch0.state ≠ .running ∧ s.dma.ch1.state ≠ .running
  noWait   : s.irqAck = false
  noWatch  : s.dbg.watch = none
  noHalt   : s.debugPermitted = false ∨ (s.tap.haltReq = false ∧ s.pins.edbgrq = false)

/-- No interrupt is to be taken (60_exceptions.md R1631, R1633, 61_debug.md R1727). -/
def State.NoInterrupt (s : State) : Prop :=
  s.dbg.dscr.getLsbD 11 = true ∨
    ((s.pins.nFIQ = true ∨ s.bitF = true) ∧ (s.pins.nIRQ = true ∨ s.bitI = true))

/-- Nothing is to be taken between the fetch and the run of an instruction (60_exceptions.md R1640, 61_debug.md R1765). -/
def State.NoEvent (s : State) : Prop :=
  (s.bitA = true ∨ s.pendingAbort = none) ∧ s.vectorCatchEvent s.pc = false ∧
    s.breakpointEvent (s.cp15.mva s.nonSecure s.pc) = false

/-- The entry of a precise Data Abort (21_mmu.md R671, R675, 60_exceptions.md R1624). -/
def State.abortEntry (s : State) (a : DataAbort) : State :=
  let w := s.faultNs a.external
  ({ s with
      cp15 := s.cp15.setBank w { s.cp15.bank w with
        dfsr := fsrValue a.status a.domain a.write a.slverr
        far := a.far }
      dbg := { s.dbg with watch := none } }).takeException .dabt (s.pc + 8) (a.external && s.scrEa)

/-! ### CP15 -/

/-- A CP15 register that holds what is written to it: Opcode_1, CRn, CRm, Opcode_2, the bits it has, and the registers with a
value in it, in the copy of the world named (11_cp15_overview_id.md R150 to R160). -/
structure Cp15Row where
  op1   : BitVec 3
  crn   : BitVec 4
  crm   : BitVec 4
  op2   : BitVec 3
  mask  : Word
  write : Bool → Cp15 → Word → Cp15

/-- A write of one copy of a register that has two. -/
def inBank (f : Banked → Word → Banked) (ns : Bool) (c : Cp15) (v : Word) : Cp15 := c.setBank ns (f (c.bank ns) v)

/-- Registers with one copy for each world (11_cp15_overview_id.md R134): TTBR0, TTBR1, TTBCR, DACR, DFSR, IFSR, FAR, IFAR,
Primary Region Remap, Normal Memory Remap, VBAR, FCSE PID, Context ID, the three Thread and Process ID registers, Peripheral
Port Memory Remap. -/
def bankedRows : List Cp15Row :=
  [⟨0, 2, 0, 0, 0xFFFFFF9B, inBank fun b v => { b with ttbr0 := v }⟩,
    ⟨0, 2, 0, 1, 0xFFFFC01B, inBank fun b v => { b with ttbr1 := v }⟩,
    ⟨0, 2, 0, 2, 0x00000037, inBank fun b v => { b with ttbcr := v }⟩,
    ⟨0, 3, 0, 0, 0xFFFFFFFF, inBank fun b v => { b with dacr := v }⟩,
    ⟨0, 5, 0, 0, 0x00001CFF, inBank fun b v => { b with dfsr := v }⟩,
    ⟨0, 5, 0, 1, 0x0000100F, inBank fun b v => { b with ifsr := v }⟩,
    ⟨0, 6, 0, 0, 0xFFFFFFFF, inBank fun b v => { b with far := v }⟩,
    ⟨0, 6, 0, 2, 0xFFFFFFFF, inBank fun b v => { b with ifar := v }⟩,
    ⟨0, 10, 2, 0, 0x000FFFFF, inBank fun b v => { b with prrr := v }⟩,
    ⟨0, 10, 2, 1, 0xFFFFFFFF, inBank fun b v => { b with nmrr := v }⟩,
    ⟨0, 12, 0, 0, 0xFFFFFFE0, inBank fun b v => { b with vbar := v }⟩,
    ⟨0, 13, 0, 0, 0xFE000000, inBank fun b v => { b with fcse := v }⟩,
    ⟨0, 13, 0, 1, 0xFFFFFFFF, inBank fun b v => { b with contextId := v }⟩,
    ⟨0, 13, 0, 2, 0xFFFFFFFF, inBank fun b v => { b with tidUrw := v }⟩,
    ⟨0, 13, 0, 3, 0xFFFFFFFF, inBank fun b v => { b with tidUro := v }⟩,
    ⟨0, 13, 0, 4, 0xFFFFFFFF, inBank fun b v => { b with tidPriv := v }⟩,
    ⟨0, 15, 2, 4, 0xFFFFF01F, inBank fun b v => { b with periph := v }⟩]

/-- Registers the Secure world alone writes: Auxiliary Control, Secure Debug Enable, Non-secure Access Control, Monitor Vector
Base (12_cp15_control.md R236, R245, R246, 14_cp15_dma_misc.md R456). -/
def secureRows : List Cp15Row :=
  [⟨0, 1, 0, 1, 0xF000007F, fun _ c v => { c with actlr := v }⟩, ⟨0, 1, 1, 1, 0x00000003, fun _ c v => { c with sder := v }⟩, ⟨0, 1, 1, 2, 0x00073FFF, fun _ c v => { c with nsacr := v }⟩,
    ⟨0, 12, 0, 1, 0xFFFFFFE0, fun _ c v => { c with mvbar := v }⟩]

/-- The Control Register: its bits FI, L4, RR and B are common to both worlds, the others have two copies
(12_cp15_control.md R231). -/
def controlRow : Cp15Row :=
  ⟨0, 1, 0, 0, 0x33E0FB87, fun ns c v =>
    { c.setBank ns { c.bank ns with sctlr := v &&& 0x33C03B07 } with sctlrCommon := v &&& 0x0020C080 }⟩

/-- MCR leaves in a register the bits it has of Rd and changes nothing else, and MRC reads them back, with the bits `ones` that
read as 1, into Rn or the flags (46_coproc_system.md R1424, R1425). -/
def State.HoldsWritten (s : State) (c : Cond) (rd rn : BitVec 4) (r : Cp15Row) (ones : Word) : Prop :=
  let v := s.reg rd &&& r.mask
  let t : State := { s with cp15 := r.write s.scrNs s.cp15 v }
  exec (.mcr c r.op1 r.crn rd 15 r.op2 r.crm) s = .next (t.goto s.nextInsn) ∧
  exec (.mrc c r.op1 r.crn rn 15 r.op2 r.crm) t = .next ((t.setReg rn (v ||| ones)).goto s.nextInsn) ∧
  exec (.mrc c r.op1 r.crn 15 15 r.op2 r.crm) t = .next ((t.setNzcv (flagsOfWord (v ||| ones))).goto s.nextInsn)

/-! ### Translation -/

/-- What the descriptors of a walk say of one address: a section or a page, where it lies, its world, its domain, its
permission bits, XN and its memory attributes (21_mmu.md R649). -/
structure Mapping where
  isSection : Bool
  pa        : Word
  ns        : Bool
  domain    : BitVec 4
  apx       : Bool
  ap        : BitVec 2
  xn        : Bool
  attrs     : Option Attrs

/-- The memory attributes TEX, C, B and S of a descriptor select: with TEX remap by the remap registers of the world, else by
Table 6-2, where a reserved encoding has none (21_mmu.md R661, R662). -/
def State.descriptorAttrs (s : State) (ns : Bool) (tex : BitVec 3) (c b shared : Bool) : Option Attrs :=
  if (s.cp15.sctlr ns).getLsbD 28 then
    some ((s.cp15.bank ns).remapAttrs (BitVec.ofBool (tex.getLsbD 0) ++ BitVec.ofBool c ++ BitVec.ofBool b).toNat shared)
  else decodeAttrs tex c b shared

/-- A section, or with bit [18] a supersection, whose domain is 0; without XP there are no APX, S and XN bits
(21_mmu.md R639, R641, R647, R649). -/
def State.sectionMapping (s : State) (r : Request) (l1 : Word) : Mapping :=
  let xp := (s.cp15.sctlr r.ns).getLsbD 23
  let low : Word := if l1.getLsbD 18 then 0x00FFFFFF else 0x000FFFFF
  { isSection := true, pa := (l1 &&& ~~~low) ||| (r.mva &&& low), ns := r.ns || l1.getLsbD 19
    domain := if l1.getLsbD 18 then 0 else l1.extractLsb' 5 4
    apx := xp && l1.getLsbD 15, ap := l1.extractLsb' 10 2, xn := xp && l1.getLsbD 4
    attrs := s.descriptorAttrs r.ns (l1.extractLsb' 12 3) (l1.getLsbD 3) (l1.getLsbD 2) (xp && l1.getLsbD 16) }

/-- A large page, or a small or extended small one: without XP the large and the small page have four permission fields, which
two bits of the address select, and there are no APX, S and XN bits (21_mmu.md R644, R645, R649). -/
def State.pageMapping (s : State) (r : Request) (l1 l2 : Word) : Mapping :=
  let xp := (s.cp15.sctlr r.ns).getLsbD 23
  let large := !l2.getLsbD 1
  let subpages := !xp && (large || !l2.getLsbD 0)
  let k := if subpages then (r.mva.extractLsb' (if large then 14 else 10) 2).toNat else 0
  let low : Word := if large then 0xFFFF else 0xFFF
  let tex : BitVec 3 := if large then l2.extractLsb' 12 3 else if subpages then 0 else l2.extractLsb' 6 3
  { isSection := false, pa := (l2 &&& ~~~low) ||| (r.mva &&& low), ns := r.ns || l1.getLsbD 3
    domain := l1.extractLsb' 5 4
    apx := xp && l2.getLsbD 9, ap := l2.extractLsb' (4 + 2 * k) 2
    xn := xp && (if large then l2.getLsbD 15 else l2.getLsbD 0)
    attrs := s.descriptorAttrs r.ns tex (l2.getLsbD 3) (l2.getLsbD 2) (xp && l2.getLsbD 10) }

/-- The permission bits allow an access: writing needs APX = 0 and AP other than 00, and from User mode AP = 11; reading needs
AP other than 00, and from User mode other than 01; AP = 00 is read-only where S and R differ and APX is 0, for User code
with R alone (21_mmu.md R651). -/
def Mapping.permits (m : Mapping) (sBit rBit priv : Bool) (kind : Access) : Bool :=
  match kind with
  | .write => !m.apx && m.ap != 0 && (priv || m.ap == 0b11)
  | _ => if m.ap = 0 then !m.apx && sBit != rBit && (priv || rBit) else priv || m.ap != 0b01

/-- What a mapping answers: Access bit, which APX:AP = 000 with S and R opposite does not have, domain (no access, client,
manager) and permission in that order, with the code of a section or of a page, else the address (21_mmu.md R653 to R655,
R676). -/
def State.mappingOutcome (s : State) (r : Request) (m : Mapping) : Except MmuFault Translation :=
  let ctl := s.cp15.sctlr r.ns
  let domain : BitVec 2 := (s.cp15.bank r.ns).dacr.extractLsb' (2 * m.domain.toNat) 2
  let fault (sec page : BitVec 5) := .error (mmuFault (if m.isSection then sec else page) m.domain)
  let deprecated := !m.apx && m.ap == 0 && ctl.getLsbD 8 != ctl.getLsbD 9
  if ctl.getLsbD 29 && ctl.getLsbD 23 && !m.ap.getLsbD 0 && !deprecated then fault 0b00011 0b00110
  else if domain = 0b00 ∨ domain = 0b10 then fault 0b01001 0b01011
  else if domain = 0b01 ∧ (m.permits (ctl.getLsbD 8) (ctl.getLsbD 9) r.priv r.kind = false ∨ (r.kind = .fetch ∧ m.xn = true))
    then fault 0b01101 0b01111
  else .ok { pa := m.pa, nsAttr := m.ns, attrs := m.attrs, domain := m.domain }

/-- The address of the first-level descriptor with TTBCR.N = 0 (21_mmu.md R634, R635). -/
def State.firstDescriptor (s : State) (r : Request) : Word :=
  ((s.cp15.bank r.ns).ttbr0 &&& 0xFFFFC000) ||| ((r.mva >>> 20) <<< 2)

/-- The address of the second-level descriptor (21_mmu.md R642). -/
def secondDescriptor (l1 mva : Word) : Word := (l1 &&& 0xFFFFFC00) ||| (((mva >>> 12) &&& 0xFF) <<< 2)

/-- The answer of a walk that uses TTBR0 with TTBCR.N = 0: the two descriptor reads, an error response to either, a descriptor
that maps nothing, and the mapping (21_mmu.md R636, R637, R676). -/
def State.walkOutcome (s : State) (r : Request) : Except MmuFault Translation :=
  let answer (a : Word) : Option Bool := s.busError (Access.read.onBus a r.ns r.priv)
  let l1 := s.physWord (s.firstDescriptor r)
  let d : BitVec 4 := l1.extractLsb' 5 4
  let a2 := secondDescriptor l1 r.mva
  if (s.cp15.bank r.ns).ttbcr.getLsbD 4 then .error (mmuFault 0b00101 0)
  else match answer (s.firstDescriptor r), l1.getLsbD 1, l1.getLsbD 0 with
    | some sl, _, _ => .error { status := 0b01100, domain := 0, external := true, slverr := sl }
    | none, true, false => s.mappingOutcome r (s.sectionMapping r l1)
    | none, false, true =>
      match answer a2 with
      | some sl => .error { status := 0b01110, domain := d, external := true, slverr := sl }
      | none =>
        if (s.physWord a2).extractLsb' 0 2 = 0b00#2 then .error (mmuFault 0b00111 d)
        else s.mappingOutcome r (s.pageMapping r l1 (s.physWord a2))
    | none, _, _ => .error (mmuFault 0b00101 0)

/-! ### The DMA -/

/-- A transaction of a channel that nothing stops, out of a TCM with Control bit 30 and into one without: the transfer is not at its
end, its two addresses translate to `ti` in the TCM `m` of the selected side, the one the transfer began in and not Device,
and to `te` in no TCM, Shared for a User channel, and the bus answers OKAY (14_cp15_dma_misc.md R440, R445,
22_l1_l2.md R781 to R783). -/
def State.DmaMoves (s : State) (n : Bool) (ti te : Translation) (m : Tcm) : Prop :=
  let ch := s.dma.channel n
  let out := ch.control.getLsbD 30
  ch.curInt ≠ ch.intEnd ∧
  s.dmaTranslate n ch.curInt (if out then .read else .write) = (.ok ti, s) ∧
  s.dmaTranslate n ch.curExt (if out then .write else .read) = (.ok te, s) ∧
  s.cp15.dmaTcm (ch.control.getLsbD 31) ti = some m ∧ (ch.tcm = none ∨ ch.tcm = some m.number) ∧
  ti.attrs.any (fun a => a.type == .device) = false ∧ s.cp15.tcmLookup te.pa te.nsAttr .read = none ∧
  te.attrs.isSome = true ∧ (ch.effUser = true → te.attrs.any (·.shared) = true) ∧ s.busError (ch.onBus te) = none

/-! ### The performance counters -/

/-- What the counters show after an instruction with none of them used for validation: the Count Registers set for event 0x07 one
more, the Cycle Counter a free number of cycles more, with PMNC.D six bits finer, each overflow in its flag, the flags in
nPMUIRQ; nothing else changed (14_cp15_dma_misc.md R472, R474 to R478). -/
def State.CountsOne (s t : State) : Prop :=
  let n := Config.freeTicks s.freeCtr
  let old (k : Nat) : Bool := s.pmu.pmnc.getLsbD k
  let new (k : Nat) : Bool := t.pmu.pmnc.getLsbD k
  t = { s with pmu := t.pmu, freeCtr := t.freeCtr } ∧
  (s.pmu.pmnc.extractLsb' 20 8 = 0x07#8 →
    t.pmu.pmn0 = s.pmu.pmn0 + 1 ∧ new 8 = (old 8 || s.pmu.pmn0 == 0xFFFFFFFF)) ∧
  (s.pmu.pmnc.extractLsb' 12 8 = 0x07#8 →
    t.pmu.pmn1 = s.pmu.pmn1 + 1 ∧ new 9 = (old 9 || s.pmu.pmn1 == 0xFFFFFFFF)) ∧
  (old 3 = false → t.pmu.ccnt = s.pmu.ccnt + BitVec.ofNat 32 n ∧ new 10 = (old 10 || decide (2 ^ 32 ≤ s.pmu.ccnt.toNat + n))) ∧
  (old 3 = true → t.pmu.ccnt.toNat = (64 * s.pmu.ccnt.toNat + s.pmu.divider.toNat + n) / 64 % 2 ^ 32 ∧
    t.pmu.divider.toNat = (s.pmu.divider.toNat + n) % 64 ∧
    new 10 = (old 10 || decide (2 ^ 32 ≤ (64 * s.pmu.ccnt.toNat + s.pmu.divider.toNat + n) / 64))) ∧
  (∀ k, k ≠ 8 → k ≠ 9 → k ≠ 10 → new k = old k) ∧
  ((∀ k, s.activity ≠ .heldInReset k) →
    t.nPmuIrq = !((new 10 && old 6) || (new 9 && old 5) || (new 8 && old 4)))

/-! ### Thumb -/

/-- The addresses of the Thumb loads and stores of one register (47_thumb.md R1546 to R1563). -/
inductive ThumbAddress where
  | reg (rn rm : BitVec 3)
  | imm (rn : BitVec 3) (imm5 : BitVec 5)
  | sp (imm8 : BitVec 8)
  | pc (imm8 : BitVec 8)

/-- The address: the sum of two registers, a register plus the immediate times the size of the item, SP or the aligned PC
plus the immediate times 4. -/
def ThumbAddress.value (s : State) (n : Nat) : ThumbAddress → Word
  | .reg rn rm => s.reg (low rn) + s.reg (low rm)
  | .imm rn i => s.reg (low rn) + BitVec.ofNat 32 (n * i.toNat)
  | .sp i => s.reg 13 + BitVec.ofNat 32 (4 * i.toNat)
  | .pc i => (s.operand 15 &&& 0xFFFFFFFC) + BitVec.ofNat 32 (4 * i.toNat)

noncomputable section

/-- The Thumb loads of one register. -/
def LoadOp.thumb (op : LoadOp) (a : ThumbAddress) (rd : BitVec 3) : Option Instr :=
  match op, a with
  | .ldr, .reg rn rm => some (.tLdrReg rm rn rd)
  | .ldr, .imm rn i => some (.tLdrImm i rn rd)
  | .ldr, .sp i => some (.tLdrSp rd i)
  | .ldr, .pc i => some (.tLdrPc rd i)
  | .ldrh, .reg rn rm => some (.tLdrhReg rm rn rd)
  | .ldrh, .imm rn i => some (.tLdrhImm i rn rd)
  | .ldrb, .reg rn rm => some (.tLdrbReg rm rn rd)
  | .ldrb, .imm rn i => some (.tLdrbImm i rn rd)
  | .ldrsb, .reg rn rm => some (.tLdrsb rm rn rd)
  | .ldrsh, .reg rn rm => some (.tLdrsh rm rn rd)
  | _, _ => none

/-- The Thumb stores of one register. -/
def StoreOp.thumb (op : StoreOp) (a : ThumbAddress) (rd : BitVec 3) : Option Instr :=
  match op, a with
  | .str, .reg rn rm => some (.tStrReg rm rn rd)
  | .str, .imm rn i => some (.tStrImm i rn rd)
  | .str, .sp i => some (.tStrSp rd i)
  | .strh, .reg rn rm => some (.tStrhReg rm rn rd)
  | .strh, .imm rn i => some (.tStrhImm i rn rd)
  | .strb, .reg rn rm => some (.tStrbReg rm rn rd)
  | .strb, .imm rn i => some (.tStrbImm i rn rd)
  | _, _ => none

end

/-- The state after a Thumb data-processing instruction: the result, its flags, C kept by the logical opcodes
(47_thumb.md R1500). -/
def State.thumbResult (s : State) (op : AluOp) (rd : BitVec 4) (a b : Word) : State :=
  ((s.setReg rd (aluValue op a b s.flagC)).setNzcv (aluFlags op a b s.flagC s.nzcv)).goto s.nextInsn

/-- The state after a Thumb shift (47_thumb.md R1539 to R1545). -/
def State.thumbShifted (s : State) (rd : BitVec 4) (r : Word × Bool) : State :=
  ((s.setReg rd r.1).setNzcv { n := r.1.msb, z := r.1 == 0, c := r.2, v := s.flagV }).goto s.nextInsn

/-- The state after a result is written to a register that may be R15 (47_thumb.md R1511, R1517). -/
def State.toHigh (s : State) (rd : BitVec 4) (v : Word) : State :=
  if rd = 15 then s.goto (if s.bitT then v &&& 0xFFFFFFFE else v &&& 0xFFFFFFFC) else (s.setReg rd v).goto s.nextInsn


end Sys2Proof.Machine

namespace Sys2Proof

open Machine

/-! ### The instructions by what they may do -/

/-- The condition of an instruction that is skipped when it fails (30_encoding.md R835). -/
def Instr.condition : Instr → Option Cond
  | .cps .. => none
  | .setend .. => none
  | .pldImm .. => none
  | .pldReg .. => none
  | .clrex .. => none
  | .srs .. => none
  | .rfe .. => none
  | .blxLabel .. => none
  | .mcrr2 .. => none
  | .mrrc2 .. => none
  | .undefined1 .. => none
  | .stc2 .. => none
  | .ldc2 .. => none
  | .cdp2 .. => none
  | .mcr2 .. => none
  | .mrc2 .. => none
  | .undefined2 .. => none
  | .mul cond _ _ _ _ _ => some cond
  | .mla cond _ _ _ _ _ => some cond
  | .umaal cond _ _ _ _ => some cond
  | .undefined3 cond _ _ => some cond
  | .undefined4 cond _ _ _ => some cond
  | .umull cond _ _ _ _ _ => some cond
  | .umlal cond _ _ _ _ _ => some cond
  | .smull cond _ _ _ _ _ => some cond
  | .smlal cond _ _ _ _ _ => some cond
  | .swp cond _ _ _ _ => some cond
  | .swpb cond _ _ _ _ => some cond
  | .undefined5 cond _ _ _ => some cond
  | .strex cond _ _ _ _ => some cond
  | .ldrex cond _ _ _ _ => some cond
  | .strexd cond _ _ _ _ => some cond
  | .ldrexd cond _ _ _ _ => some cond
  | .strexb cond _ _ _ _ => some cond
  | .ldrexb cond _ _ _ _ => some cond
  | .strexh cond _ _ _ _ => some cond
  | .ldrexh cond _ _ _ _ => some cond
  | .strhImm cond _ _ _ _ _ _ _ => some cond
  | .strhReg cond _ _ _ _ _ _ _ => some cond
  | .ldrhImm cond _ _ _ _ _ _ _ => some cond
  | .ldrhReg cond _ _ _ _ _ _ _ => some cond
  | .ldrdImm cond _ _ _ _ _ _ _ => some cond
  | .ldrdReg cond _ _ _ _ _ _ _ => some cond
  | .ldrsbImm cond _ _ _ _ _ _ _ => some cond
  | .ldrsbReg cond _ _ _ _ _ _ _ => some cond
  | .strdImm cond _ _ _ _ _ _ _ => some cond
  | .strdReg cond _ _ _ _ _ _ _ => some cond
  | .ldrshImm cond _ _ _ _ _ _ _ => some cond
  | .ldrshReg cond _ _ _ _ _ _ _ => some cond
  | .mrs cond _ _ _ _ _ => some cond
  | .msrReg cond _ _ _ _ _ => some cond
  | .bx cond _ _ _ _ => some cond
  | .clz cond _ _ _ _ => some cond
  | .bxj cond _ _ _ _ => some cond
  | .blxReg cond _ _ _ _ => some cond
  | .qadd cond _ _ _ _ => some cond
  | .qsub cond _ _ _ _ => some cond
  | .qdadd cond _ _ _ _ => some cond
  | .qdsub cond _ _ _ _ => some cond
  | .bkpt cond _ _ => some cond
  | .smc cond _ _ => some cond
  | .smlaxy cond _ _ _ _ _ _ => some cond
  | .smlawy cond _ _ _ _ _ => some cond
  | .smulwy cond _ _ _ _ _ => some cond
  | .smlalxy cond _ _ _ _ _ _ => some cond
  | .smulxy cond _ _ _ _ _ _ => some cond
  | .undefined6 cond _ _ _ _ => some cond
  | .nop cond _ _ => some cond
  | .yield cond _ _ => some cond
  | .hint cond _ _ _ => some cond
  | .msrImm cond _ _ _ _ _ => some cond
  | .undefined7 cond _ _ => some cond
  | .andImm cond _ _ _ _ _ => some cond
  | .andRegImm cond _ _ _ _ _ _ => some cond
  | .andRegReg cond _ _ _ _ _ _ => some cond
  | .eorImm cond _ _ _ _ _ => some cond
  | .eorRegImm cond _ _ _ _ _ _ => some cond
  | .eorRegReg cond _ _ _ _ _ _ => some cond
  | .subImm cond _ _ _ _ _ => some cond
  | .subRegImm cond _ _ _ _ _ _ => some cond
  | .subRegReg cond _ _ _ _ _ _ => some cond
  | .rsbImm cond _ _ _ _ _ => some cond
  | .rsbRegImm cond _ _ _ _ _ _ => some cond
  | .rsbRegReg cond _ _ _ _ _ _ => some cond
  | .addImm cond _ _ _ _ _ => some cond
  | .addRegImm cond _ _ _ _ _ _ => some cond
  | .addRegReg cond _ _ _ _ _ _ => some cond
  | .adcImm cond _ _ _ _ _ => some cond
  | .adcRegImm cond _ _ _ _ _ _ => some cond
  | .adcRegReg cond _ _ _ _ _ _ => some cond
  | .sbcImm cond _ _ _ _ _ => some cond
  | .sbcRegImm cond _ _ _ _ _ _ => some cond
  | .sbcRegReg cond _ _ _ _ _ _ => some cond
  | .rscImm cond _ _ _ _ _ => some cond
  | .rscRegImm cond _ _ _ _ _ _ => some cond
  | .rscRegReg cond _ _ _ _ _ _ => some cond
  | .tstImm cond _ _ _ _ => some cond
  | .tstRegImm cond _ _ _ _ _ => some cond
  | .tstRegReg cond _ _ _ _ _ => some cond
  | .teqImm cond _ _ _ _ => some cond
  | .teqRegImm cond _ _ _ _ _ => some cond
  | .teqRegReg cond _ _ _ _ _ => some cond
  | .cmpImm cond _ _ _ _ => some cond
  | .cmpRegImm cond _ _ _ _ _ => some cond
  | .cmpRegReg cond _ _ _ _ _ => some cond
  | .cmnImm cond _ _ _ _ => some cond
  | .cmnRegImm cond _ _ _ _ _ => some cond
  | .cmnRegReg cond _ _ _ _ _ => some cond
  | .orrImm cond _ _ _ _ _ => some cond
  | .orrRegImm cond _ _ _ _ _ _ => some cond
  | .orrRegReg cond _ _ _ _ _ _ => some cond
  | .movImm cond _ _ _ _ _ => some cond
  | .movRegImm cond _ _ _ _ _ _ => some cond
  | .movRegReg cond _ _ _ _ _ _ => some cond
  | .cpy cond _ _ => some cond
  | .bicImm cond _ _ _ _ _ => some cond
  | .bicRegImm cond _ _ _ _ _ _ => some cond
  | .bicRegReg cond _ _ _ _ _ _ => some cond
  | .mvnImm cond _ _ _ _ _ => some cond
  | .mvnRegImm cond _ _ _ _ _ _ => some cond
  | .mvnRegReg cond _ _ _ _ _ _ => some cond
  | .sadd16 cond _ _ _ _ => some cond
  | .qadd16 cond _ _ _ _ => some cond
  | .shadd16 cond _ _ _ _ => some cond
  | .uadd16 cond _ _ _ _ => some cond
  | .uqadd16 cond _ _ _ _ => some cond
  | .uhadd16 cond _ _ _ _ => some cond
  | .saddsubx cond _ _ _ _ => some cond
  | .qaddsubx cond _ _ _ _ => some cond
  | .shaddsubx cond _ _ _ _ => some cond
  | .uaddsubx cond _ _ _ _ => some cond
  | .uqaddsubx cond _ _ _ _ => some cond
  | .uhaddsubx cond _ _ _ _ => some cond
  | .ssubaddx cond _ _ _ _ => some cond
  | .qsubaddx cond _ _ _ _ => some cond
  | .shsubaddx cond _ _ _ _ => some cond
  | .usubaddx cond _ _ _ _ => some cond
  | .uqsubaddx cond _ _ _ _ => some cond
  | .uhsubaddx cond _ _ _ _ => some cond
  | .ssub16 cond _ _ _ _ => some cond
  | .qsub16 cond _ _ _ _ => some cond
  | .shsub16 cond _ _ _ _ => some cond
  | .usub16 cond _ _ _ _ => some cond
  | .uqsub16 cond _ _ _ _ => some cond
  | .uhsub16 cond _ _ _ _ => some cond
  | .sadd8 cond _ _ _ _ => some cond
  | .qadd8 cond _ _ _ _ => some cond
  | .shadd8 cond _ _ _ _ => some cond
  | .uadd8 cond _ _ _ _ => some cond
  | .uqadd8 cond _ _ _ _ => some cond
  | .uhadd8 cond _ _ _ _ => some cond
  | .ssub8 cond _ _ _ _ => some cond
  | .qsub8 cond _ _ _ _ => some cond
  | .shsub8 cond _ _ _ _ => some cond
  | .usub8 cond _ _ _ _ => some cond
  | .uqsub8 cond _ _ _ _ => some cond
  | .uhsub8 cond _ _ _ _ => some cond
  | .sel cond _ _ _ _ => some cond
  | .rev cond _ _ _ _ => some cond
  | .rev16 cond _ _ _ _ => some cond
  | .revsh cond _ _ _ _ => some cond
  | .ssat16 cond _ _ _ _ => some cond
  | .usat16 cond _ _ _ _ => some cond
  | .sxtb16 cond _ _ _ _ => some cond
  | .sxtab16 cond _ _ _ _ _ => some cond
  | .sxtb cond _ _ _ _ => some cond
  | .sxtab cond _ _ _ _ _ => some cond
  | .sxth cond _ _ _ _ => some cond
  | .sxtah cond _ _ _ _ _ => some cond
  | .uxtb16 cond _ _ _ _ => some cond
  | .uxtab16 cond _ _ _ _ _ => some cond
  | .uxtb cond _ _ _ _ => some cond
  | .uxtab cond _ _ _ _ _ => some cond
  | .uxth cond _ _ _ _ => some cond
  | .uxtah cond _ _ _ _ _ => some cond
  | .pkhbt cond _ _ _ _ => some cond
  | .pkhtb cond _ _ _ _ => some cond
  | .ssat cond _ _ _ _ _ => some cond
  | .usat cond _ _ _ _ _ => some cond
  | .smuad cond _ _ _ _ => some cond
  | .smlad cond _ _ _ _ _ => some cond
  | .smusd cond _ _ _ _ => some cond
  | .smlsd cond _ _ _ _ _ => some cond
  | .smlald cond _ _ _ _ _ => some cond
  | .smlsld cond _ _ _ _ _ => some cond
  | .smmul cond _ _ _ _ => some cond
  | .smmla cond _ _ _ _ _ => some cond
  | .smmls cond _ _ _ _ _ => some cond
  | .usad8 cond _ _ _ => some cond
  | .usada8 cond _ _ _ _ => some cond
  | .undefined8 cond _ _ => some cond
  | .ldrtImm cond _ _ _ _ => some cond
  | .ldrtReg cond _ _ _ _ _ _ => some cond
  | .ldrbtImm cond _ _ _ _ => some cond
  | .ldrbtReg cond _ _ _ _ _ _ => some cond
  | .strtImm cond _ _ _ _ => some cond
  | .strtReg cond _ _ _ _ _ _ => some cond
  | .strbtImm cond _ _ _ _ => some cond
  | .strbtReg cond _ _ _ _ _ _ => some cond
  | .ldrImm cond _ _ _ _ _ _ => some cond
  | .ldrReg cond _ _ _ _ _ _ _ _ => some cond
  | .ldrbImm cond _ _ _ _ _ _ => some cond
  | .ldrbReg cond _ _ _ _ _ _ _ _ => some cond
  | .strImm cond _ _ _ _ _ _ => some cond
  | .strReg cond _ _ _ _ _ _ _ _ => some cond
  | .strbImm cond _ _ _ _ _ _ => some cond
  | .strbReg cond _ _ _ _ _ _ _ _ => some cond
  | .ldm3 cond _ _ _ _ _ => some cond
  | .ldm2 cond _ _ _ _ _ => some cond
  | .ldm1 cond _ _ _ _ _ => some cond
  | .stm2 cond _ _ _ _ _ => some cond
  | .stm1 cond _ _ _ _ _ => some cond
  | .b cond _ => some cond
  | .bl cond _ => some cond
  | .mcrr cond _ _ _ _ _ => some cond
  | .mrrc cond _ _ _ _ _ => some cond
  | .undefined9 cond _ _ => some cond
  | .stc cond _ _ _ _ _ _ _ _ => some cond
  | .ldc cond _ _ _ _ _ _ _ _ => some cond
  | .cdp cond _ _ _ _ _ _ => some cond
  | .mcr cond _ _ _ _ _ _ => some cond
  | .mrc cond _ _ _ _ _ _ => some cond
  | .svc cond _ => some cond
  | .tLslImm .. => none
  | .tLsrImm .. => none
  | .tAsrImm .. => none
  | .tAddReg .. => none
  | .tSubReg .. => none
  | .tMovLow .. => none
  | .tAddImm3 .. => none
  | .tSubImm3 .. => none
  | .tMovImm .. => none
  | .tCmpImm .. => none
  | .tAddImm8 .. => none
  | .tSubImm8 .. => none
  | .tAnd .. => none
  | .tEor .. => none
  | .tLslReg .. => none
  | .tLsrReg .. => none
  | .tAsrReg .. => none
  | .tAdc .. => none
  | .tSbc .. => none
  | .tRor .. => none
  | .tTst .. => none
  | .tNeg .. => none
  | .tCmpLow .. => none
  | .tCmn .. => none
  | .tOrr .. => none
  | .tMul .. => none
  | .tBic .. => none
  | .tMvn .. => none
  | .tAddHigh .. => none
  | .tCmpHigh .. => none
  | .tMovHigh .. => none
  | .tCpy .. => none
  | .tBx .. => none
  | .tBlxReg .. => none
  | .tLdrPc .. => none
  | .tStrReg .. => none
  | .tStrhReg .. => none
  | .tStrbReg .. => none
  | .tLdrsb .. => none
  | .tLdrReg .. => none
  | .tLdrhReg .. => none
  | .tLdrbReg .. => none
  | .tLdrsh .. => none
  | .tStrImm .. => none
  | .tLdrImm .. => none
  | .tStrbImm .. => none
  | .tLdrbImm .. => none
  | .tStrhImm .. => none
  | .tLdrhImm .. => none
  | .tStrSp .. => none
  | .tLdrSp .. => none
  | .tAddPc .. => none
  | .tAddSp .. => none
  | .tAddSpImm .. => none
  | .tSubSpImm .. => none
  | .tSxth .. => none
  | .tSxtb .. => none
  | .tUxth .. => none
  | .tUxtb .. => none
  | .tPush .. => none
  | .tSetend .. => none
  | .tCps .. => none
  | .tRev .. => none
  | .tRev16 .. => none
  | .tRevsh .. => none
  | .tPop .. => none
  | .tBkpt .. => none
  | .tUndefined1 .. => none
  | .tStmia .. => none
  | .tLdmia .. => none
  | .tUndefined2 .. => none
  | .tSvc .. => none
  | .tBCond cond _ => Cond.ofBits cond
  | .tB .. => none
  | .tBlxSecond .. => none
  | .tUndefined3 .. => none
  | .tBlFirst .. => none
  | .tBlSecond .. => none

/-- The instructions that may store to memory. -/
def Instr.stores : Instr → Bool
  | .cps .. => false
  | .setend .. => false
  | .pldImm .. => false
  | .pldReg .. => false
  | .clrex .. => false
  | .srs .. => true
  | .rfe .. => false
  | .blxLabel .. => false
  | .mcrr2 .. => false
  | .mrrc2 .. => false
  | .undefined1 .. => false
  | .stc2 .. => false
  | .ldc2 .. => false
  | .cdp2 .. => false
  | .mcr2 .. => false
  | .mrc2 .. => false
  | .undefined2 .. => false
  | .mul .. => false
  | .mla .. => false
  | .umaal .. => false
  | .undefined3 .. => false
  | .undefined4 .. => false
  | .umull .. => false
  | .umlal .. => false
  | .smull .. => false
  | .smlal .. => false
  | .swp .. => true
  | .swpb .. => true
  | .undefined5 .. => false
  | .strex .. => true
  | .ldrex .. => false
  | .strexd .. => true
  | .ldrexd .. => false
  | .strexb .. => true
  | .ldrexb .. => false
  | .strexh .. => true
  | .ldrexh .. => false
  | .strhImm .. => true
  | .strhReg .. => true
  | .ldrhImm .. => false
  | .ldrhReg .. => false
  | .ldrdImm .. => false
  | .ldrdReg .. => false
  | .ldrsbImm .. => false
  | .ldrsbReg .. => false
  | .strdImm .. => true
  | .strdReg .. => true
  | .ldrshImm .. => false
  | .ldrshReg .. => false
  | .mrs .. => false
  | .msrReg .. => false
  | .bx .. => false
  | .clz .. => false
  | .bxj .. => false
  | .blxReg .. => false
  | .qadd .. => false
  | .qsub .. => false
  | .qdadd .. => false
  | .qdsub .. => false
  | .bkpt .. => false
  | .smc .. => false
  | .smlaxy .. => false
  | .smlawy .. => false
  | .smulwy .. => false
  | .smlalxy .. => false
  | .smulxy .. => false
  | .undefined6 .. => false
  | .nop .. => false
  | .yield .. => false
  | .hint .. => false
  | .msrImm .. => false
  | .undefined7 .. => false
  | .andImm .. => false
  | .andRegImm .. => false
  | .andRegReg .. => false
  | .eorImm .. => false
  | .eorRegImm .. => false
  | .eorRegReg .. => false
  | .subImm .. => false
  | .subRegImm .. => false
  | .subRegReg .. => false
  | .rsbImm .. => false
  | .rsbRegImm .. => false
  | .rsbRegReg .. => false
  | .addImm .. => false
  | .addRegImm .. => false
  | .addRegReg .. => false
  | .adcImm .. => false
  | .adcRegImm .. => false
  | .adcRegReg .. => false
  | .sbcImm .. => false
  | .sbcRegImm .. => false
  | .sbcRegReg .. => false
  | .rscImm .. => false
  | .rscRegImm .. => false
  | .rscRegReg .. => false
  | .tstImm .. => false
  | .tstRegImm .. => false
  | .tstRegReg .. => false
  | .teqImm .. => false
  | .teqRegImm .. => false
  | .teqRegReg .. => false
  | .cmpImm .. => false
  | .cmpRegImm .. => false
  | .cmpRegReg .. => false
  | .cmnImm .. => false
  | .cmnRegImm .. => false
  | .cmnRegReg .. => false
  | .orrImm .. => false
  | .orrRegImm .. => false
  | .orrRegReg .. => false
  | .movImm .. => false
  | .movRegImm .. => false
  | .movRegReg .. => false
  | .cpy .. => false
  | .bicImm .. => false
  | .bicRegImm .. => false
  | .bicRegReg .. => false
  | .mvnImm .. => false
  | .mvnRegImm .. => false
  | .mvnRegReg .. => false
  | .sadd16 .. => false
  | .qadd16 .. => false
  | .shadd16 .. => false
  | .uadd16 .. => false
  | .uqadd16 .. => false
  | .uhadd16 .. => false
  | .saddsubx .. => false
  | .qaddsubx .. => false
  | .shaddsubx .. => false
  | .uaddsubx .. => false
  | .uqaddsubx .. => false
  | .uhaddsubx .. => false
  | .ssubaddx .. => false
  | .qsubaddx .. => false
  | .shsubaddx .. => false
  | .usubaddx .. => false
  | .uqsubaddx .. => false
  | .uhsubaddx .. => false
  | .ssub16 .. => false
  | .qsub16 .. => false
  | .shsub16 .. => false
  | .usub16 .. => false
  | .uqsub16 .. => false
  | .uhsub16 .. => false
  | .sadd8 .. => false
  | .qadd8 .. => false
  | .shadd8 .. => false
  | .uadd8 .. => false
  | .uqadd8 .. => false
  | .uhadd8 .. => false
  | .ssub8 .. => false
  | .qsub8 .. => false
  | .shsub8 .. => false
  | .usub8 .. => false
  | .uqsub8 .. => false
  | .uhsub8 .. => false
  | .sel .. => false
  | .rev .. => false
  | .rev16 .. => false
  | .revsh .. => false
  | .ssat16 .. => false
  | .usat16 .. => false
  | .sxtb16 .. => false
  | .sxtab16 .. => false
  | .sxtb .. => false
  | .sxtab .. => false
  | .sxth .. => false
  | .sxtah .. => false
  | .uxtb16 .. => false
  | .uxtab16 .. => false
  | .uxtb .. => false
  | .uxtab .. => false
  | .uxth .. => false
  | .uxtah .. => false
  | .pkhbt .. => false
  | .pkhtb .. => false
  | .ssat .. => false
  | .usat .. => false
  | .smuad .. => false
  | .smlad .. => false
  | .smusd .. => false
  | .smlsd .. => false
  | .smlald .. => false
  | .smlsld .. => false
  | .smmul .. => false
  | .smmla .. => false
  | .smmls .. => false
  | .usad8 .. => false
  | .usada8 .. => false
  | .undefined8 .. => false
  | .ldrtImm .. => false
  | .ldrtReg .. => false
  | .ldrbtImm .. => false
  | .ldrbtReg .. => false
  | .strtImm .. => true
  | .strtReg .. => true
  | .strbtImm .. => true
  | .strbtReg .. => true
  | .ldrImm .. => false
  | .ldrReg .. => false
  | .ldrbImm .. => false
  | .ldrbReg .. => false
  | .strImm .. => true
  | .strReg .. => true
  | .strbImm .. => true
  | .strbReg .. => true
  | .ldm3 .. => false
  | .ldm2 .. => false
  | .ldm1 .. => false
  | .stm2 .. => true
  | .stm1 .. => true
  | .b .. => false
  | .bl .. => false
  | .mcrr .. => false
  | .mrrc .. => false
  | .undefined9 .. => false
  | .stc .. => true
  | .ldc .. => false
  | .cdp .. => false
  | .mcr .. => false
  | .mrc .. => false
  | .svc .. => false
  | .tLslImm .. => false
  | .tLsrImm .. => false
  | .tAsrImm .. => false
  | .tAddReg .. => false
  | .tSubReg .. => false
  | .tMovLow .. => false
  | .tAddImm3 .. => false
  | .tSubImm3 .. => false
  | .tMovImm .. => false
  | .tCmpImm .. => false
  | .tAddImm8 .. => false
  | .tSubImm8 .. => false
  | .tAnd .. => false
  | .tEor .. => false
  | .tLslReg .. => false
  | .tLsrReg .. => false
  | .tAsrReg .. => false
  | .tAdc .. => false
  | .tSbc .. => false
  | .tRor .. => false
  | .tTst .. => false
  | .tNeg .. => false
  | .tCmpLow .. => false
  | .tCmn .. => false
  | .tOrr .. => false
  | .tMul .. => false
  | .tBic .. => false
  | .tMvn .. => false
  | .tAddHigh .. => false
  | .tCmpHigh .. => false
  | .tMovHigh .. => false
  | .tCpy .. => false
  | .tBx .. => false
  | .tBlxReg .. => false
  | .tLdrPc .. => false
  | .tStrReg .. => true
  | .tStrhReg .. => true
  | .tStrbReg .. => true
  | .tLdrsb .. => false
  | .tLdrReg .. => false
  | .tLdrhReg .. => false
  | .tLdrbReg .. => false
  | .tLdrsh .. => false
  | .tStrImm .. => true
  | .tLdrImm .. => false
  | .tStrbImm .. => true
  | .tLdrbImm .. => false
  | .tStrhImm .. => true
  | .tLdrhImm .. => false
  | .tStrSp .. => true
  | .tLdrSp .. => false
  | .tAddPc .. => false
  | .tAddSp .. => false
  | .tAddSpImm .. => false
  | .tSubSpImm .. => false
  | .tSxth .. => false
  | .tSxtb .. => false
  | .tUxth .. => false
  | .tUxtb .. => false
  | .tPush .. => true
  | .tSetend .. => false
  | .tCps .. => false
  | .tRev .. => false
  | .tRev16 .. => false
  | .tRevsh .. => false
  | .tPop .. => false
  | .tBkpt .. => false
  | .tUndefined1 .. => false
  | .tStmia .. => true
  | .tLdmia .. => false
  | .tUndefined2 .. => false
  | .tSvc .. => false
  | .tBCond .. => false
  | .tB .. => false
  | .tBlxSecond .. => false
  | .tUndefined3 .. => false
  | .tBlFirst .. => false
  | .tBlSecond .. => false

/-- The registers an instruction may write other than R14 and R15: its destinations, and the base where the addressing mode
writes it back. R14, which a branch with link and an exception write, is not among them unless it is named. -/
def Instr.destinations : Instr → List (BitVec 4)
  | .cps .. => []
  | .setend .. => []
  | .pldImm .. => []
  | .pldReg .. => []
  | .clrex .. => []
  | .srs _ _ w _ => if w then [13] else []
  | .rfe _ _ w rn => if w then [rn] else []
  | .blxLabel .. => []
  | .mcrr2 .. => []
  | .mrrc2 .. => []
  | .undefined1 .. => []
  | .stc2 .. => []
  | .ldc2 .. => []
  | .cdp2 .. => []
  | .mcr2 .. => []
  | .mrc2 .. => []
  | .undefined2 .. => []
  | .mul _ _ rd _ _ _ => [rd]
  | .mla _ _ rd _ _ _ => [rd]
  | .umaal _ rdHi rdLo _ _ => [rdHi, rdLo]
  | .undefined3 .. => []
  | .undefined4 .. => []
  | .umull _ _ rdHi rdLo _ _ => [rdHi, rdLo]
  | .umlal _ _ rdHi rdLo _ _ => [rdHi, rdLo]
  | .smull _ _ rdHi rdLo _ _ => [rdHi, rdLo]
  | .smlal _ _ rdHi rdLo _ _ => [rdHi, rdLo]
  | .swp _ _ rd _ _ => [rd]
  | .swpb _ _ rd _ _ => [rd]
  | .undefined5 .. => []
  | .strex _ _ rd _ _ => [rd]
  | .ldrex _ _ rd _ _ => [rd]
  | .strexd _ _ rd _ _ => [rd]
  | .ldrexd _ _ rd _ _ => [rd, rd + 1]
  | .strexb _ _ rd _ _ => [rd]
  | .ldrexb _ _ rd _ _ => [rd]
  | .strexh _ _ rd _ _ => [rd]
  | .ldrexh _ _ rd _ _ => [rd]
  | .strhImm _ p _ w rn _ _ _ => if p && !w then [] else [rn]
  | .strhReg _ p _ w rn _ _ _ => if p && !w then [] else [rn]
  | .ldrhImm _ p _ w rn rd _ _ => [rd] ++ (if p && !w then [] else [rn])
  | .ldrhReg _ p _ w rn rd _ _ => [rd] ++ (if p && !w then [] else [rn])
  | .ldrdImm _ p _ w rn rd _ _ => [rd, rd + 1] ++ (if p && !w then [] else [rn])
  | .ldrdReg _ p _ w rn rd _ _ => [rd, rd + 1] ++ (if p && !w then [] else [rn])
  | .ldrsbImm _ p _ w rn rd _ _ => [rd] ++ (if p && !w then [] else [rn])
  | .ldrsbReg _ p _ w rn rd _ _ => [rd] ++ (if p && !w then [] else [rn])
  | .strdImm _ p _ w rn _ _ _ => if p && !w then [] else [rn]
  | .strdReg _ p _ w rn _ _ _ => if p && !w then [] else [rn]
  | .ldrshImm _ p _ w rn rd _ _ => [rd] ++ (if p && !w then [] else [rn])
  | .ldrshReg _ p _ w rn rd _ _ => [rd] ++ (if p && !w then [] else [rn])
  | .mrs _ _ _ rd _ _ => [rd]
  | .msrReg .. => []
  | .bx .. => []
  | .clz _ _ rd _ _ => [rd]
  | .bxj .. => []
  | .blxReg .. => []
  | .qadd _ _ rd _ _ => [rd]
  | .qsub _ _ rd _ _ => [rd]
  | .qdadd _ _ rd _ _ => [rd]
  | .qdsub _ _ rd _ _ => [rd]
  | .bkpt .. => []
  | .smc .. => []
  | .smlaxy _ rd _ _ _ _ _ => [rd]
  | .smlawy _ rd _ _ _ _ => [rd]
  | .smulwy _ rd _ _ _ _ => [rd]
  | .smlalxy _ rdHi rdLo _ _ _ _ => [rdHi, rdLo]
  | .smulxy _ rd _ _ _ _ _ => [rd]
  | .undefined6 .. => []
  | .nop .. => []
  | .yield .. => []
  | .hint .. => []
  | .msrImm .. => []
  | .undefined7 .. => []
  | .andImm _ _ _ rd _ _ => [rd]
  | .andRegImm _ _ _ rd _ _ _ => [rd]
  | .andRegReg _ _ _ rd _ _ _ => [rd]
  | .eorImm _ _ _ rd _ _ => [rd]
  | .eorRegImm _ _ _ rd _ _ _ => [rd]
  | .eorRegReg _ _ _ rd _ _ _ => [rd]
  | .subImm _ _ _ rd _ _ => [rd]
  | .subRegImm _ _ _ rd _ _ _ => [rd]
  | .subRegReg _ _ _ rd _ _ _ => [rd]
  | .rsbImm _ _ _ rd _ _ => [rd]
  | .rsbRegImm _ _ _ rd _ _ _ => [rd]
  | .rsbRegReg _ _ _ rd _ _ _ => [rd]
  | .addImm _ _ _ rd _ _ => [rd]
  | .addRegImm _ _ _ rd _ _ _ => [rd]
  | .addRegReg _ _ _ rd _ _ _ => [rd]
  | .adcImm _ _ _ rd _ _ => [rd]
  | .adcRegImm _ _ _ rd _ _ _ => [rd]
  | .adcRegReg _ _ _ rd _ _ _ => [rd]
  | .sbcImm _ _ _ rd _ _ => [rd]
  | .sbcRegImm _ _ _ rd _ _ _ => [rd]
  | .sbcRegReg _ _ _ rd _ _ _ => [rd]
  | .rscImm _ _ _ rd _ _ => [rd]
  | .rscRegImm _ _ _ rd _ _ _ => [rd]
  | .rscRegReg _ _ _ rd _ _ _ => [rd]
  | .tstImm .. => []
  | .tstRegImm .. => []
  | .tstRegReg .. => []
  | .teqImm .. => []
  | .teqRegImm .. => []
  | .teqRegReg .. => []
  | .cmpImm .. => []
  | .cmpRegImm .. => []
  | .cmpRegReg .. => []
  | .cmnImm .. => []
  | .cmnRegImm .. => []
  | .cmnRegReg .. => []
  | .orrImm _ _ _ rd _ _ => [rd]
  | .orrRegImm _ _ _ rd _ _ _ => [rd]
  | .orrRegReg _ _ _ rd _ _ _ => [rd]
  | .movImm _ _ _ rd _ _ => [rd]
  | .movRegImm _ _ _ rd _ _ _ => [rd]
  | .movRegReg _ _ _ rd _ _ _ => [rd]
  | .cpy _ rd _ => [rd]
  | .bicImm _ _ _ rd _ _ => [rd]
  | .bicRegImm _ _ _ rd _ _ _ => [rd]
  | .bicRegReg _ _ _ rd _ _ _ => [rd]
  | .mvnImm _ _ _ rd _ _ => [rd]
  | .mvnRegImm _ _ _ rd _ _ _ => [rd]
  | .mvnRegReg _ _ _ rd _ _ _ => [rd]
  | .sadd16 _ _ rd _ _ => [rd]
  | .qadd16 _ _ rd _ _ => [rd]
  | .shadd16 _ _ rd _ _ => [rd]
  | .uadd16 _ _ rd _ _ => [rd]
  | .uqadd16 _ _ rd _ _ => [rd]
  | .uhadd16 _ _ rd _ _ => [rd]
  | .saddsubx _ _ rd _ _ => [rd]
  | .qaddsubx _ _ rd _ _ => [rd]
  | .shaddsubx _ _ rd _ _ => [rd]
  | .uaddsubx _ _ rd _ _ => [rd]
  | .uqaddsubx _ _ rd _ _ => [rd]
  | .uhaddsubx _ _ rd _ _ => [rd]
  | .ssubaddx _ _ rd _ _ => [rd]
  | .qsubaddx _ _ rd _ _ => [rd]
  | .shsubaddx _ _ rd _ _ => [rd]
  | .usubaddx _ _ rd _ _ => [rd]
  | .uqsubaddx _ _ rd _ _ => [rd]
  | .uhsubaddx _ _ rd _ _ => [rd]
  | .ssub16 _ _ rd _ _ => [rd]
  | .qsub16 _ _ rd _ _ => [rd]
  | .shsub16 _ _ rd _ _ => [rd]
  | .usub16 _ _ rd _ _ => [rd]
  | .uqsub16 _ _ rd _ _ => [rd]
  | .uhsub16 _ _ rd _ _ => [rd]
  | .sadd8 _ _ rd _ _ => [rd]
  | .qadd8 _ _ rd _ _ => [rd]
  | .shadd8 _ _ rd _ _ => [rd]
  | .uadd8 _ _ rd _ _ => [rd]
  | .uqadd8 _ _ rd _ _ => [rd]
  | .uhadd8 _ _ rd _ _ => [rd]
  | .ssub8 _ _ rd _ _ => [rd]
  | .qsub8 _ _ rd _ _ => [rd]
  | .shsub8 _ _ rd _ _ => [rd]
  | .usub8 _ _ rd _ _ => [rd]
  | .uqsub8 _ _ rd _ _ => [rd]
  | .uhsub8 _ _ rd _ _ => [rd]
  | .sel _ _ rd _ _ => [rd]
  | .rev _ _ rd _ _ => [rd]
  | .rev16 _ _ rd _ _ => [rd]
  | .revsh _ _ rd _ _ => [rd]
  | .ssat16 _ _ rd _ _ => [rd]
  | .usat16 _ _ rd _ _ => [rd]
  | .sxtb16 _ rd _ _ _ => [rd]
  | .sxtab16 _ _ rd _ _ _ => [rd]
  | .sxtb _ rd _ _ _ => [rd]
  | .sxtab _ _ rd _ _ _ => [rd]
  | .sxth _ rd _ _ _ => [rd]
  | .sxtah _ _ rd _ _ _ => [rd]
  | .uxtb16 _ rd _ _ _ => [rd]
  | .uxtab16 _ _ rd _ _ _ => [rd]
  | .uxtb _ rd _ _ _ => [rd]
  | .uxtab _ _ rd _ _ _ => [rd]
  | .uxth _ rd _ _ _ => [rd]
  | .uxtah _ _ rd _ _ _ => [rd]
  | .pkhbt _ _ rd _ _ => [rd]
  | .pkhtb _ _ rd _ _ => [rd]
  | .ssat _ _ rd _ _ _ => [rd]
  | .usat _ _ rd _ _ _ => [rd]
  | .smuad _ rd _ _ _ => [rd]
  | .smlad _ rd _ _ _ _ => [rd]
  | .smusd _ rd _ _ _ => [rd]
  | .smlsd _ rd _ _ _ _ => [rd]
  | .smlald _ rdHi rdLo _ _ _ => [rdHi, rdLo]
  | .smlsld _ rdHi rdLo _ _ _ => [rdHi, rdLo]
  | .smmul _ rd _ _ _ => [rd]
  | .smmla _ rd _ _ _ _ => [rd]
  | .smmls _ rd _ _ _ _ => [rd]
  | .usad8 _ rd _ _ => [rd]
  | .usada8 _ rd _ _ _ => [rd]
  | .undefined8 .. => []
  | .ldrtImm _ _ rn rd _ => [rd, rn]
  | .ldrtReg _ _ rn rd _ _ _ => [rd, rn]
  | .ldrbtImm _ _ rn rd _ => [rd, rn]
  | .ldrbtReg _ _ rn rd _ _ _ => [rd, rn]
  | .strtImm _ _ rn _ _ => [rn]
  | .strtReg _ _ rn _ _ _ _ => [rn]
  | .strbtImm _ _ rn _ _ => [rn]
  | .strbtReg _ _ rn _ _ _ _ => [rn]
  | .ldrImm _ p _ w rn rd _ => [rd] ++ (if p && !w then [] else [rn])
  | .ldrReg _ p _ w rn rd _ _ _ => [rd] ++ (if p && !w then [] else [rn])
  | .ldrbImm _ p _ w rn rd _ => [rd] ++ (if p && !w then [] else [rn])
  | .ldrbReg _ p _ w rn rd _ _ _ => [rd] ++ (if p && !w then [] else [rn])
  | .strImm _ p _ w rn _ _ => if p && !w then [] else [rn]
  | .strReg _ p _ w rn _ _ _ _ => if p && !w then [] else [rn]
  | .strbImm _ p _ w rn _ _ => if p && !w then [] else [rn]
  | .strbReg _ p _ w rn _ _ _ _ => if p && !w then [] else [rn]
  | .ldm3 _ _ _ w rn reglist => listRegs (reglist.setWidth 16) ++ (if w then [rn] else [])
  | .ldm2 _ _ _ _ _ reglist => listRegs (reglist.setWidth 16)
  | .ldm1 _ _ _ w rn reglist => listRegs reglist ++ (if w then [rn] else [])
  | .stm2 .. => []
  | .stm1 _ _ _ w rn _ => if w then [rn] else []
  | .b .. => []
  | .bl .. => []
  | .mcrr .. => []
  | .mrrc .. => []
  | .undefined9 .. => []
  | .stc _ _ _ _ w rn _ _ _ => if w then [rn] else []
  | .ldc _ _ _ _ w rn _ _ _ => if w then [rn] else []
  | .cdp .. => []
  | .mcr .. => []
  | .mrc _ _ _ rd _ _ _ => [rd]
  | .svc .. => []
  | .tLslImm _ _ rd => [low rd]
  | .tLsrImm _ _ rd => [low rd]
  | .tAsrImm _ _ rd => [low rd]
  | .tAddReg _ _ rd => [low rd]
  | .tSubReg _ _ rd => [low rd]
  | .tMovLow _ rd => [low rd]
  | .tAddImm3 _ _ rd => [low rd]
  | .tSubImm3 _ _ rd => [low rd]
  | .tMovImm rd _ => [low rd]
  | .tCmpImm .. => []
  | .tAddImm8 rd _ => [low rd]
  | .tSubImm8 rd _ => [low rd]
  | .tAnd _ rd => [low rd]
  | .tEor _ rd => [low rd]
  | .tLslReg _ rd => [low rd]
  | .tLsrReg _ rd => [low rd]
  | .tAsrReg _ rd => [low rd]
  | .tAdc _ rd => [low rd]
  | .tSbc _ rd => [low rd]
  | .tRor _ rd => [low rd]
  | .tTst .. => []
  | .tNeg _ rd => [low rd]
  | .tCmpLow .. => []
  | .tCmn .. => []
  | .tOrr _ rd => [low rd]
  | .tMul _ rd => [low rd]
  | .tBic _ rd => [low rd]
  | .tMvn _ rd => [low rd]
  | .tAddHigh d _ _ rd => [high d rd]
  | .tCmpHigh .. => []
  | .tMovHigh d _ _ rd => [high d rd]
  | .tCpy d _ _ rd => [high d rd]
  | .tBx .. => []
  | .tBlxReg .. => []
  | .tLdrPc rd _ => [low rd]
  | .tStrReg .. => []
  | .tStrhReg .. => []
  | .tStrbReg .. => []
  | .tLdrsb _ _ rd => [low rd]
  | .tLdrReg _ _ rd => [low rd]
  | .tLdrhReg _ _ rd => [low rd]
  | .tLdrbReg _ _ rd => [low rd]
  | .tLdrsh _ _ rd => [low rd]
  | .tStrImm .. => []
  | .tLdrImm _ _ rd => [low rd]
  | .tStrbImm .. => []
  | .tLdrbImm _ _ rd => [low rd]
  | .tStrhImm .. => []
  | .tLdrhImm _ _ rd => [low rd]
  | .tStrSp .. => []
  | .tLdrSp rd _ => [low rd]
  | .tAddPc rd _ => [low rd]
  | .tAddSp rd _ => [low rd]
  | .tAddSpImm .. => [13]
  | .tSubSpImm .. => [13]
  | .tSxth _ rd => [low rd]
  | .tSxtb _ rd => [low rd]
  | .tUxth _ rd => [low rd]
  | .tUxtb _ rd => [low rd]
  | .tPush .. => [13]
  | .tSetend .. => []
  | .tCps .. => []
  | .tRev _ rd => [low rd]
  | .tRev16 _ rd => [low rd]
  | .tRevsh _ rd => [low rd]
  | .tPop _ reglist => 13 :: listRegs (reglist.setWidth 16)
  | .tBkpt .. => []
  | .tUndefined1 .. => []
  | .tStmia rn _ => [low rn]
  | .tLdmia rn reglist => low rn :: listRegs (reglist.setWidth 16)
  | .tUndefined2 .. => []
  | .tSvc .. => []
  | .tBCond .. => []
  | .tB .. => []
  | .tBlxSecond .. => []
  | .tUndefined3 .. => []
  | .tBlFirst .. => []
  | .tBlSecond .. => []

end Sys2Proof
end

