-- ==== Sys2Proof/Certificates/Slice0/Obligations.lean ====
section
/-!
DEFINITION. The statements for the provers, from the numbered rules of spec/. An equation with the next state gives the
whole of it, so that all it does not name is unchanged: registers, flags, special registers and every byte of memory.
-/

open Sys2Proof Sys2Proof.Machine

/-! ### Encoding -/

/-- Decode and encode agree: a well-formed instruction is what its word decodes to; CPY, a second name for words of MOV, is
decoded as that MOV (30_encoding.md R880, 40_dataproc.md R936, 47_thumb.md R1513). -/
def Obligations.DecodingAnEncodedInstructionGivesIt : Prop :=
  ∀ i : Instr, i.wf = true → decode (encode i) = .instr i.canonical

/-- A word that decodes is the word of its instruction, no bit dropped, and the instruction is well-formed
(30_encoding.md R880). -/
def Obligations.EncodingADecodedWordGivesIt : Prop :=
  ∀ (w : Words) (i : Instr), decode w = .instr i → encode i = w ∧ i.wf = true ∧ i.canonical = i

/-- Words written out from the encodings of spec/ decode to their instructions (30_encoding.md R880). -/
def Obligations.WrittenOutWordsDecode : Prop :=
  decode (.arm 0xE0912003) = .instr (.addRegImm .al true 1 2 0 0 3) ∧
  decode (.arm 0x13A0F0FF) = .instr (.movImm .ne false 0 15 0 0xFF) ∧
  decode (.arm 0xE5B21004) = .instr (.ldrImm .al true true true 2 1 4) ∧
  decode (.arm 0xE8BD8001) = .instr (.ldm1 .al false true true 13 0x8001) ∧
  decode (.arm 0xE1932F9F) = .instr (.ldrex .al 3 2 15 15) ∧
  decode (.arm 0xEE110F10) = .instr (.mrc .al 0 1 0 15 0 0) ∧
  decode (.arm 0xEAFFFFFE) = .instr (.b .al 0xFFFFFE) ∧
  decode (.arm 0xE6110F12) = .instr (.sadd16 .al 1 0 15 2) ∧
  decode (.arm 0xF1080080) = .instr (.cps 0b10 false 0 false true false 0) ∧
  decode (.thumb 0x1888) = .instr (.tAddReg 2 1 0) ∧
  decode (.thumb 0xBD01) = .instr (.tPop true 1) ∧
  decode (.thumb 0xDF05) = .instr (.tSvc 5)

/-! ### Invariants that every step keeps -/

/-- Main memory and the TCMs stay in canonical form (22_l1_l2.md R760, 62_platform.md R1909). -/
def Obligations.EveryStepKeepsMemoryCanonical : Prop :=
  ∀ s t : State, s.MemoryOk → step s = .next t → t.MemoryOk

/-- The mode stays one of the eight modes and the reserved bits of the CPSR stay 0 (10_state.md R50, R60). Both rest on choices
of the model: a write of an unassigned mode stops (log 21), and reserved CPSR bits are held at 0, the spec's own ruling D55
(log 37). -/
def Obligations.EveryStepKeepsTheStatusLegal : Prop :=
  ∀ s t : State, s.ModeOk → s.CpsrReservedOk → step s = .next t → t.ModeOk ∧ t.CpsrReservedOk

/-- Wherever the core fetches, the PC stays aligned for its instruction set (10_state.md R56). -/
def Obligations.EveryStepKeepsThePcAligned : Prop :=
  ∀ s t : State, s.PcOk → step s = .next t → t.PcOk

/-- The state after reset is well-formed and holds the values the spec states (70_reset_and_hazards.md R1951, R1952). That the
Non-secure copy of the Control Register resets to the one printed value too is the model's choice, ruling D14 (log 6), as
is that well-formedness takes the reserved CPSR bits to be 0 (log 37). -/
def Obligations.ResetIsWellFormedWithTheStatedValues : Prop :=
  State.reset.Wf ∧ State.reset.modeBits = 0b10011 ∧ State.reset.pc = 0 ∧ State.reset.bitA = true ∧
  State.reset.bitI = true ∧ State.reset.bitF = true ∧ State.reset.bitT = false ∧ State.reset.bitJ = false ∧
  State.reset.scrNs = false ∧ State.reset.cp15.sctlr false = 0x00050078 ∧ State.reset.cp15.sctlr true = 0x00050078 ∧
  State.reset.cp15.actlr = 0x00000007 ∧ State.reset.cp15.s.prrr = 0x00098AA4 ∧ State.reset.cp15.s.nmrr = 0x44E048E0

/-- Releasing a reset begins in Supervisor mode of the Secure world, in ARM state, at the vector VINITHI selects, with A, I
and F set, the MMU off and no lockdown entry valid, and keeps memory (70_reset_and_hazards.md R1950 to R1953). The model's
choices in it, as rulings of the spec: no lockdown entry is valid (D62; logs 46 and 47), the local monitor is open (D37;
log 36), both copies of the Control Register take the value (D14; log 6). -/
def Obligations.ReleasingResetBeginsAtTheResetVector : Prop :=
  ∀ (s : State) (k : ResetKind) (rest : List Event), s.agenda = .releaseReset :: rest → s.activity = .heldInReset k →
    ∃ t, step s = .next t ∧ t.activity = .running ∧ t.agenda = rest ∧
      t.pc = (if s.pins.vinithi then 0xFFFF0000 else 0) ∧ t.modeBits = 0b10011 ∧ t.bitA = true ∧ t.bitI = true ∧
      t.bitF = true ∧ t.bitT = false ∧ t.bitJ = false ∧ t.bitE = (s.pins.ubitinit && s.pins.bigendinit) ∧
      t.cp15.scr = 0 ∧ (∀ ns, (t.cp15.sctlr ns).getLsbD 0 = false ∧ (t.cp15.sctlr ns).getLsbD 13 = s.pins.vinithi) ∧
      (∀ k : Fin 8, t.cp15.tlb[k].valid = false) ∧ t.monitors.locl = false ∧ t.pendingAbort = none ∧
      t.mem = s.mem ∧ t.itcm0 = s.itcm0 ∧ t.itcm1 = s.itcm1 ∧ t.dtcm0 = s.dtcm0 ∧ t.dtcm1 = s.dtcm1 ∧ t.pins = s.pins

/-! ### A step of the core -/

/-- A step runs the decoded instruction: between two instructions, with no event to take, the step is the instruction's
meaning at the state after the fetch, whose PC sample and instruction interface it updates, and then the performance counters
(30_encoding.md R835, 60_exceptions.md R1640, 62_platform.md R1901, 63_dbgtap.md R1804). -/
def Obligations.StepRunsTheDecodedInstruction : Prop :=
  ∀ (s u : State) (w : Words) (i : Instr), s.Between → s.NoInterrupt → fetchInsn s = .ok (.ok w) u → u.NoEvent →
    u.bitJ = false → decode w = .instr i → step s = State.counted u.pmuEnables (exec i (u.commit w))

/-- The fetch reads four bytes in ARM state and two in Thumb state at the translated PC, the first the least significant;
with SCTLR.B a Thumb halfword lies at the address with bit 1 inverted (20_memory.md R532, R535). -/
def Obligations.FetchReadsTheInstructionAtThePc : Prop :=
  ∀ (s : State) (t : Translation),
    translate { mva := s.cp15.mva s.nonSecure s.pc, kind := .fetch, priv := s.privileged, ns := s.nonSecure } s =
      .ok (.ok t) s →
    t.attrs.isSome = true → s.busError (Access.fetch.onBus t.pa t.nsAttr s.privileged) = none →
    let byte (a : Word) : Byte := s.readByteAt (s.cp15.tcmLookup t.pa t.nsAttr .fetch) a
    let half : Word := if s.sctlr.getLsbD 7 then t.pa ^^^ 2 else t.pa
    fetchInsn s = .ok (.ok (if s.bitT then .thumb (byte (half + 1) ++ byte half)
      else .arm (byte (t.pa + 3) ++ byte (t.pa + 2) ++ byte (t.pa + 1) ++ byte t.pa))) s

/-- A fetch that aborts takes the Prefetch Abort: IFSR and IFAR of the world, R14 the address plus 4
(21_mmu.md R671, R674, R675, 60_exceptions.md R1622). The counters in use advance by a free number of cycles in such a step,
which runs no instruction (`idleStep`; D76, log 26). -/
def Obligations.StepTakesThePrefetchAbort : Prop :=
  ∀ (s u : State) (a : FetchAbort), s.Between → s.NoInterrupt → fetchInsn s = .ok (.error a) u → u.inDebug = false →
    let toMonitor := a.external && u.cp15.scr.getLsbD 3
    let w := !toMonitor && u.nonSecure
    step s = .next (({ u with cp15 := u.cp15.setBank w { u.cp15.bank w with
        ifsr := fsrValue a.status 0 false a.slverr
        ifar := u.cp15.mva u.nonSecure u.pc } }.takeException .pabt (u.pc + 4) toMonitor).idleStep s.pmuEnables)

/-- Asynchronous exceptions, between two instructions: an unmasked FIQ first, then an unmasked IRQ, which goes to IRQADDR with
the VIC port and waits for it, then, after the fetch, an unmasked imprecise Data Abort (60_exceptions.md R1631, R1633,
R1636, R1638, R1640, 62_platform.md R1862). The model's choices in it: IRQACK and the wait for IRQADDRV (D50; log 11), the
order at the boundary (log 15), the boundary that gives R14 of the imprecise abort (D58; log 16), and that the counters in use
advance by a free number of cycles in such a step, which runs no instruction (`idleStep`; D76, log 26). -/
def Obligations.StepTakesAsynchronousExceptions : Prop :=
  ∀ s : State, s.Between →
    let ends (t : State) : Result := .next (t.idleStep s.pmuEnables)
    (s.dbg.dscr.getLsbD 11 = false →
      (s.pins.nFIQ = false → s.bitF = false →
        step s = ends (s.takeException .fiq (s.pc + 4) (s.cp15.scr.getLsbD 2))) ∧
      ((s.pins.nFIQ = true ∨ s.bitF = true) → s.pins.nIRQ = false → s.bitI = false →
        (s.usesVic = false → step s = ends (s.takeException .irq (s.pc + 4) (s.cp15.scr.getLsbD 1))) ∧
        (s.usesVic = true → s.pins.irqAddrV = false → step s = ends { s with irqAck := true }) ∧
        (s.usesVic = true → s.pins.irqAddrV = true →
          ∃ t, step s = .next t ∧ t.mode = .irq ∧ t.pc = s.pins.irqAddr &&& 0xFFFFFFFC))) ∧
    (∀ (w : Words) (u : State) (a : ImpreciseAbort), s.NoInterrupt → fetchInsn s = .ok (.ok w) u → u.bitA = false →
      u.pendingAbort = some a →
      let toMonitor := u.cp15.scr.getLsbD 3
      let ns := !toMonitor && a.ns
      step s = ends ({ u with
        pendingAbort := none
        cp15 := u.cp15.setBank ns { u.cp15.bank ns with
          dfsr := 0x406 ||| (if a.write then 0x800 else 0) ||| (if a.slverr then 0x1000 else 0)
          far := 0 } }.takeException .dabt (u.pc + 8) toMonitor))

/-! ### Exceptions -/

/-- Taking an exception: R14 and the SPSR of the mode entered, the mode, T, J, I, F, A and E, the NS bit of SCR, the vector;
no other register, no flag and no byte of memory changes (60_exceptions.md R1600, R1603, R1604, R1605, R1620). -/
def Obligations.TakingAnExceptionSavesAndVectors : Prop :=
  ∀ (s : State) (kind : Exn) (ret : Word) (mon : Bool), (kind = .smc → mon = true) →
    let t := s.takeException kind ret mon
    let m := if mon then Mode.mon else kind.mode
    let ns := s.scrNs && s.mode != .mon
    let scr := s.cp15.scr
    t.modeBits = m.toBits ∧ t.regOf m 14 = ret ∧ (∀ k, spsrSlot m = some k → t.spsr[k] = s.cpsr) ∧
    t.bitT = false ∧ t.bitJ = false ∧ t.bitI = true ∧
    t.bitF = (s.bitF || mon || (kind == .fiq && (!ns || scr.getLsbD 4))) ∧
    t.bitA = (s.bitA || mon || ((kind == .pabt || kind == .dabt || kind == .irq || kind == .fiq) &&
      (!ns || scr.getLsbD 5))) ∧
    t.bitE = (s.cp15.sctlr (!mon && ns)).getLsbD 25 ∧
    t.cp15 = { s.cp15 with scr := if s.mode = .mon then setBit scr 0 false else scr } ∧
    t.pc = (if mon then (s.cp15.mvbar &&& 0xFFFFFFE0) + kind.offset
      else if kind = .irq ∧ (s.cp15.sctlr ns).getLsbD 24 = true then s.pins.irqAddr &&& 0xFFFFFFFC
      else if (s.cp15.sctlr ns).getLsbD 13 then 0xFFFF0000 + kind.offset
      else ((s.cp15.bank ns).vbar &&& 0xFFFFFFE0) + kind.offset) ∧
    t.nzcv = s.nzcv ∧ t.flagQ = s.flagQ ∧ t.ge = s.ge ∧
    (∀ k : Fin 32, k ≠ regSlot m 14 → t.regs[k] = s.regs[k]) ∧
    (∀ k : Fin 6, spsrSlot m ≠ some k → t.spsr[k] = s.spsr[k]) ∧
    t.mem = s.mem ∧ (∀ k, t.tcmCells k = s.tcmCells k) ∧ t.monitors = s.monitors ∧ t.dbg = s.dbg

/-- SVC enters Supervisor mode with R14 the next instruction; SMC enters Secure Monitor mode from a privileged mode and is
Undefined in User mode; BKPT where no debug event is taken is a Prefetch Abort with the debug status in IFSR
(60_exceptions.md R1614, R1616, R1618, 61_debug.md R1755, R1758, R1763). That such a BKPT writes IFSR = 2 and no other fault
register is the model's choice, ruling D74 (log 33). -/
def Obligations.CallsAndBreakpointsTakeTheirException : Prop :=
  ∀ (s : State) (c : Cond) (imm24 : BitVec 24) (imm12 : BitVec 12) (imm4 : BitVec 4) (imm8 : BitVec 8),
    s.inDebug = false →
    (s.condPassed c = true → exec (.svc c imm24) s = .next (s.takeException .svc s.nextInsn false)) ∧
    exec (.tSvc imm8) s = .next (s.takeException .svc s.nextInsn false) ∧
    (s.condPassed c = true → s.privileged = true →
      exec (.smc c imm12 imm4) s = .next (s.takeException .smc s.nextInsn true)) ∧
    (s.condPassed c = true → s.privileged = false → exec (.smc c imm12 imm4) s = .next s.undefinedEntry) ∧
    (s.debugPermitted = false ∨ s.dbgMode = .none →
      let t := { s with cp15 := s.cp15.setBank s.nonSecure { s.cp15.bank s.nonSecure with ifsr := 2 } }.takeException
        .pabt (s.pc + 4) false
      exec (.bkpt .al imm12 imm4) s = .next t ∧ exec (.tBkpt imm8) s = .next t)

/-- The UNDEFINED rows and the coprocessor instructions that no coprocessor answers take the Undefined Instruction exception
(30_encoding.md R860, 46_coproc_system.md R1411, R1427, R1428, R1435). That none but 14 and 15 answers is the model's
choice of a build with no external coprocessor, ruling D16 (log 7, log 39). -/
def Obligations.UndefinedWordsTakeTheUndefinedException : Prop :=
  ∀ (s : State), s.inDebug = false →
    (∀ a b, exec (.undefined1 a b) s = .next s.undefinedEntry) ∧ (∀ a, exec (.undefined2 a) s = .next s.undefinedEntry) ∧
    (∀ a, exec (.tUndefined1 a) s = .next s.undefinedEntry) ∧ (∀ a, exec (.tUndefined2 a) s = .next s.undefinedEntry) ∧
    (∀ a, exec (.tUndefined3 a) s = .next s.undefinedEntry) ∧
    (∀ a b d e f g, exec (.mcr2 a b d e f g) s = .next s.undefinedEntry ∧
      exec (.mrc2 a b d e f g) s = .next s.undefinedEntry) ∧
    (∀ a b d e f, exec (.mcrr2 a b d e f) s = .next s.undefinedEntry ∧
      exec (.mrrc2 a b d e f) s = .next s.undefinedEntry) ∧
    (∀ a b d e f g, exec (.cdp2 a b d e f g) s = .next s.undefinedEntry) ∧
    (∀ a b d e f g h j, exec (.ldc2 a b d e f g h j) s = .next s.undefinedEntry ∧
      exec (.stc2 a b d e f g h j) s = .next s.undefinedEntry) ∧
    (∀ c, s.condPassed c = true →
      (∀ a b, exec (.undefined3 c a b) s = .next s.undefinedEntry) ∧
      (∀ a b d, exec (.undefined4 c a b d) s = .next s.undefinedEntry) ∧
      (∀ a b d, exec (.undefined5 c a b d) s = .next s.undefinedEntry) ∧
      (∀ a b d e, exec (.undefined6 c a b d e) s = .next s.undefinedEntry) ∧
      (∀ a b, exec (.undefined7 c a b) s = .next s.undefinedEntry) ∧
      (∀ a b, exec (.undefined8 c a b) s = .next s.undefinedEntry) ∧
      (∀ a b, exec (.undefined9 c a b) s = .next s.undefinedEntry) ∧
      (∀ a b d e f, exec (.mrrc c a b d e f) s = .next s.undefinedEntry) ∧
      (∀ a b d e f g, exec (.cdp c a b d e f g) s = .next s.undefinedEntry) ∧
      (∀ a b d cp e f, cp ≠ 14 → cp ≠ 15 → exec (.mcr c a b d cp e f) s = .next s.undefinedEntry ∧
        exec (.mrc c a b d cp e f) s = .next s.undefinedEntry) ∧
      (∀ a b cp d e, cp ≠ 15 → exec (.mcrr c a b cp d e) s = .next s.undefinedEntry) ∧
      (∀ p u n w rn crd cp imm8, cp ≠ 14 → exec (.ldc c p u n w rn crd cp imm8) s = .next s.undefinedEntry ∧
        exec (.stc c p u n w rn crd cp imm8) s = .next s.undefinedEntry))

/-! ### Rules of the whole machine -/

/-- An instruction whose condition fails only moves the PC on (30_encoding.md R835). -/
def Obligations.AFailedConditionOnlyMovesThePc : Prop :=
  ∀ (i : Instr) (c : Cond) (s : State), i.condition = some c → s.condPassed c = false → s.inDebug = false →
    exec i s = .next (s.goto s.nextInsn)

/-- Only the store instructions change main memory or a TCM (44_loadstore.md R1260, 45_ldm_excl_swp.md R1360). -/
def Obligations.OnlyStoresWriteMemory : Prop :=
  ∀ (i : Instr) (s t : State), i.stores = false → exec i s = .next t → t.mem = s.mem ∧ ∀ k, t.tcmCells k = s.tcmCells k

/-- Where the mode stays, an instruction writes no register but its destinations, R14 and the PC apart, whether it completes,
aborts or takes another exception (10_state.md R52, R53). -/
def Obligations.OnlyDestinationsAreWritten : Prop :=
  ∀ (i : Instr) (s t : State) (n : BitVec 4), exec i s = .next t → t.mode = s.mode → n ≠ 14 → n ≠ 15 →
    n ∉ i.destinations → t.reg n = s.reg n

/-- Non-secure code changes no configuration of the Secure world, and reaches Secure Monitor mode only through the SMC vector
or, where SCR.EA sends them there, the Data Abort vector (10_state.md R70, 11_cp15_overview_id.md R132, R134, 60_exceptions.md R1604, R1616). -/
def Obligations.NonSecureCodeCannotChangeTheSecureWorld : Prop :=
  ∀ (i : Instr) (s t : State), s.inDebug = false → s.nonSecure = true → exec i s = .next t →
    t.cp15.scr = s.cp15.scr ∧ t.cp15.sder = s.cp15.sder ∧ t.cp15.nsacr = s.cp15.nsacr ∧ t.cp15.mvbar = s.cp15.mvbar ∧
    t.cp15.sctlrCommon = s.cp15.sctlrCommon ∧ t.cp15.actlr = s.cp15.actlr ∧ t.cp15.valV = s.cp15.valV ∧
    t.cp15.dtcmNs = s.cp15.dtcmNs ∧ t.cp15.itcmNs = s.cp15.itcmNs ∧
    (∃ dfsr ifsr far ifar, t.cp15.s = { s.cp15.s with dfsr := dfsr, ifsr := ifsr, far := far, ifar := ifar }) ∧
    (t.mode = .mon → t.pc = (s.cp15.mvbar &&& 0xFFFFFFE0) + 0x08 ∨
      (t.pc = (s.cp15.mvbar &&& 0xFFFFFFE0) + 0x10 ∧ s.cp15.scr.getLsbD 3 = true))

/-- User code changes no control register, and leaves User mode only through an exception vector (10_state.md R51, R70,
11_cp15_overview_id.md R132, 60_exceptions.md R1604). -/
def Obligations.UserCodeCannotChangeTheSystem : Prop :=
  ∀ (i : Instr) (s t : State), s.inDebug = false → s.mode = .usr → exec i s = .next t →
    (∃ (a b : Banked) (tlb : Vector TlbEntry 8) (lockdown : Word), t.cp15 = { s.cp15 with
        s := { s.cp15.s with dfsr := a.dfsr, ifsr := a.ifsr, far := a.far, ifar := a.ifar, tidUrw := a.tidUrw }
        ns := { s.cp15.ns with dfsr := b.dfsr, ifsr := b.ifsr, far := b.far, ifar := b.ifar, tidUrw := b.tidUrw }
        tlb := tlb, tlbLockdown := lockdown }) ∧
    ((t.mode = .usr ∧ t.bitA = s.bitA ∧ t.bitI = s.bitI ∧ t.bitF = s.bitF) ∨
      ∃ off ∈ ([0x04, 0x08, 0x0C, 0x10] : List Word),
        t.pc = s.cp15.vector s.nonSecure off ∨ t.pc = s.cp15.monVector off)

/-! ### Data processing -/

/-- The twelve opcodes in their three operand forms, with a destination other than R15: the result, with S the flags, and the
next instruction (40_dataproc.md R901, R902, R910 to R935). -/
def Obligations.DataProcessingWritesResultAndFlags : Prop :=
  ∀ (s : State) (op : AluOp) (c : Cond) (sBit : Bool) (rn rd : BitVec 4) (o : Operand2), s.Passes c → rd ≠ 15 →
    o.regShiftPc rn rd = false →
    exec (aluInstr op c sBit rn rd o) s = .next
      ((if sBit then (s.setReg rd (s.aluResult op rn o).1).setNzcv (s.aluResult op rn o).2
        else s.setReg rd (s.aluResult op rn o).1).goto s.nextInsn)

/-- The twelve opcodes to R15: without S a branch that keeps the instruction set, with S an exception return, which stops in
the modes that have no SPSR (40_dataproc.md R901, 43_branch_status.md R1204, R1205). The stops are the model's choices: no
SPSR and an unassigned mode (log 21), a return to Jazelle state (log 20); that reserved CPSR bits stay 0 is log 37. -/
def Obligations.DataProcessingToThePcBranchesOrReturns : Prop :=
  ∀ (s : State) (op : AluOp) (c : Cond) (rn : BitVec 4) (o : Operand2), s.Passes c → o.regShiftPc rn 15 = false →
    let v := (s.aluResult op rn o).1
    exec (aluInstr op c false rn 15 o) s = .next (s.goto (if s.bitT then v &&& 0xFFFFFFFE else v &&& 0xFFFFFFFC)) ∧
    exec (aluInstr op c true rn 15 o) s =
      (match spsrSlot s.mode with
       | some k => s.returnOutcome v s.spsr[k]
       | none => .refused .spsrAbsent)

/-- TST, TEQ, CMP and CMN only set the flags (40_dataproc.md R901, R920 to R923). -/
def Obligations.ComparisonsOnlySetTheFlags : Prop :=
  ∀ (s : State) (op : CompareOp) (c : Cond) (rn : BitVec 4) (o : Operand2), s.Passes c → o.regShiftPc rn 0 = false →
    exec (compareInstr op c rn o) s = .next ((s.setNzcv (s.aluResult op.alu rn o).2).goto s.nextInsn)

/-- The shifts as arithmetic: LSL multiplies, LSR and ASR divide and round down, ROR rotates, RRX shifts C in; the carry out
is the last bit shifted out, and an amount of 0 keeps the value and the carry (30_encoding.md R836, R837). -/
def Obligations.ShiftsGiveTheValueAndTheCarryOut : Prop :=
  ∀ (x : Word) (n : Nat) (c : Bool),
    (∀ t, shiftC t x 0 c = (x, c)) ∧
    (0 < n →
      (shiftC 0b00 x n c).1.toNat = x.toNat * 2 ^ n % 2 ^ 32 ∧
      (shiftC 0b00 x n c).2 = decide (x.toNat * 2 ^ n / 2 ^ 32 % 2 = 1) ∧
      (shiftC 0b01 x n c).1.toNat = x.toNat / 2 ^ n ∧
      (shiftC 0b01 x n c).2 = decide (x.toNat / 2 ^ (n - 1) % 2 = 1) ∧
      (shiftC 0b10 x n c).1.toInt = x.toInt / 2 ^ n ∧
      (shiftC 0b10 x n c).2 = decide (x.toInt / 2 ^ (n - 1) % 2 = 1) ∧
      (∀ k < 32, (shiftC 0b11 x n c).1.getLsbD k = x.getLsbD ((k + n) % 32)) ∧
      (shiftC 0b11 x n c).2 = (shiftC 0b11 x n c).1.getLsbD 31) ∧
    (immShiftC 0b00 x 0 c = (x, c) ∧ immShiftC 0b01 x 0 c = shiftC 0b01 x 32 c ∧
      immShiftC 0b10 x 0 c = shiftC 0b10 x 32 c ∧
      (immShiftC 0b11 x 0 c).1.toNat = x.toNat / 2 + (if c then 2 ^ 31 else 0) ∧
      (immShiftC 0b11 x 0 c).2 = decide (x.toNat % 2 = 1))

/-! ### Multiplies and saturation -/

/-- The 32-bit and 64-bit multiplies: the product of the operands and the addends, the low 32 or 64 bits of it, and with S
the flags N and Z (41_multiply_dsp.md R1003, R1004, R1010 to R1016). -/
def Obligations.MultipliesWriteTheProduct : Prop :=
  ∀ (s : State) (c : Cond) (sBit : Bool) (rd rn rs rm : BitVec 4), s.Passes c → rd ≠ 15 → rn ≠ 15 → rs ≠ 15 → rm ≠ 15 →
    let nz (t : State) (w : Word) : State := if sBit then t.withNz w else t
    let long (d : DWord) : State := (s.setReg rd (d.extractLsb' 32 32)).setReg rn (d.extractLsb' 0 32)
    let nzLong (d : DWord) : State :=
      if sBit then (long d).setNzcv { s.nzcv with n := d.msb, z := d == 0 } else long d
    let u (w : Word) : DWord := w.setWidth 64
    let i (w : Word) : DWord := w.signExtend 64
    let a := s.reg rm
    let b := s.reg rs
    let acc : DWord := s.reg rd ++ s.reg rn
    exec (.mul c sBit rd 0 rs rm) s = .next ((nz (s.setReg rd (a * b)) (a * b)).goto s.nextInsn) ∧
    exec (.mla c sBit rd rn rs rm) s =
      .next ((nz (s.setReg rd (a * b + s.reg rn)) (a * b + s.reg rn)).goto s.nextInsn) ∧
    (rd ≠ rn →
      exec (.umull c sBit rd rn rs rm) s = .next ((nzLong (u a * u b)).goto s.nextInsn) ∧
      exec (.umlal c sBit rd rn rs rm) s = .next ((nzLong (u a * u b + acc)).goto s.nextInsn) ∧
      exec (.smull c sBit rd rn rs rm) s = .next ((nzLong (i a * i b)).goto s.nextInsn) ∧
      exec (.smlal c sBit rd rn rs rm) s = .next ((nzLong (i a * i b + acc)).goto s.nextInsn) ∧
      exec (.umaal c rd rn rs rm) s = .next ((long (u a * u b + u (s.reg rn) + u (s.reg rd))).goto s.nextInsn))

/-- The saturating instructions hold the exact result to the range of their width and set Q where it did not fit, and leave
Q as it is otherwise (41_multiply_dsp.md R1020 to R1023, 42_media_simd.md R1180 to R1183, 10_state.md R62). -/
def Obligations.SaturationHoldsTheResultAndSetsQ : Prop :=
  ∀ (s : State) (c : Cond) (rn rd rm : BitVec 4), s.Passes c → rn ≠ 15 → rd ≠ 15 → rm ≠ 15 →
    let m := (s.reg rm).toInt
    let n := (s.reg rn).toInt
    let twice := clampSigned 32 (2 * n)
    let goesTo (e : Int) (q : Bool) : State := (s.setReg rd (BitVec.ofInt 32 (clampSigned 32 e))).orQ (q || clampSigned 32 e != e)
    let lo := (s.reg rm).extractLsb' 0 16
    let hi := (s.reg rm).extractLsb' 16 16
    let shifted (imm5 : BitVec 5) (asr : Bool) : Int :=
      if asr then m / 2 ^ (if imm5 = 0 then 32 else imm5.toNat) else (s.reg rm <<< imm5.toNat).toInt
    exec (.qadd c rn rd 0 rm) s = .next ((goesTo (m + n) false).goto s.nextInsn) ∧
    exec (.qsub c rn rd 0 rm) s = .next ((goesTo (m - n) false).goto s.nextInsn) ∧
    exec (.qdadd c rn rd 0 rm) s = .next ((goesTo (m + twice) (twice != 2 * n)).goto s.nextInsn) ∧
    exec (.qdsub c rn rd 0 rm) s = .next ((goesTo (m - twice) (twice != 2 * n)).goto s.nextInsn) ∧
    (∀ (sat imm5 : BitVec 5) (asr : Bool),
      (let v := clampSigned (sat.toNat + 1) (shifted imm5 asr)
       exec (.ssat c sat rd imm5 asr rm) s =
        .next (((s.setReg rd (BitVec.ofInt 32 v)).orQ (v != shifted imm5 asr)).goto s.nextInsn)) ∧
      (let v := clampUnsigned sat.toNat (shifted imm5 asr)
       exec (.usat c sat rd imm5 asr rm) s =
        .next (((s.setReg rd (BitVec.ofInt 32 v)).orQ (v != shifted imm5 asr)).goto s.nextInsn))) ∧
    (∀ sat : BitVec 4,
      (let l := clampSigned (sat.toNat + 1) lo.toInt
       let h := clampSigned (sat.toNat + 1) hi.toInt
       exec (.ssat16 c sat rd 15 rm) s = .next (((s.setReg rd (BitVec.ofInt 16 h ++ BitVec.ofInt 16 l)).orQ
        (l != lo.toInt || h != hi.toInt)).goto s.nextInsn)) ∧
      (let l := clampUnsigned sat.toNat lo.toInt
       let h := clampUnsigned sat.toNat hi.toInt
       exec (.usat16 c sat rd 15 rm) s = .next (((s.setReg rd (BitVec.ofInt 16 h ++ BitVec.ofInt 16 l)).orQ
        (l != lo.toInt || h != hi.toInt)).goto s.nextInsn)))

/-- The signed halfword, dual and most-significant-word multiplies: the exact sum of the products and the addend, narrowed at
the end; an accumulation that does not fit 32 bits sets Q (41_multiply_dsp.md R1001, R1030 to R1052). -/
def Obligations.SignedMultipliesNarrowTheExactResult : Prop :=
  ∀ (s : State) (c : Cond) (rd rn rs rm : BitVec 4), s.Passes c → rd ≠ 15 → rn ≠ 15 → rs ≠ 15 → rm ≠ 15 →
    let half (top : Bool) (w : Word) : Int := if top then (w.extractLsb' 16 16).toInt else (w.extractLsb' 0 16).toInt
    let m := s.reg rm
    let r := s.reg rs
    let n := (s.reg rn).toInt
    let goesTo (e : Int) : State := (s.setReg rd (BitVec.ofInt 32 e)).goto s.nextInsn
    let toQ (e : Int) : State :=
      ((s.setReg rd (BitVec.ofInt 32 e)).orQ (decide (e < -2 ^ 31) || decide (2 ^ 31 ≤ e))).goto s.nextInsn
    let acc := (s.reg rd ++ s.reg rn : DWord).toInt
    let long (e : Int) : State :=
      ((s.setReg rd ((BitVec.ofInt 64 e).extractLsb' 32 32)).setReg rn ((BitVec.ofInt 64 e).extractLsb' 0 32)).goto s.nextInsn
    let round (b : Bool) : Int := if b then 2 ^ 31 else 0
    (∀ x y : Bool,
      exec (.smulxy c rd 0 rs y x rm) s = .next (goesTo (half x m * half y r)) ∧
      exec (.smlaxy c rd rn rs y x rm) s = .next (toQ (half x m * half y r + n)) ∧
      exec (.smulwy c rd 0 rs y rm) s = .next (goesTo (m.toInt * half y r / 2 ^ 16)) ∧
      exec (.smlawy c rd rn rs y rm) s = .next (toQ (m.toInt * half y r / 2 ^ 16 + n)) ∧
      (rd ≠ rn → exec (.smlalxy c rd rn rs y x rm) s = .next (long (half x m * half y r + acc)))) ∧
    (∀ x : Bool,
      let p1 := half false m * half x r
      let p2 := half true m * half (!x) r
      exec (.smuad c rd rs x rm) s = .next (toQ (p1 + p2)) ∧
      exec (.smlad c rd rn rs x rm) s = .next (toQ (p1 + p2 + n)) ∧
      exec (.smusd c rd rs x rm) s = .next (goesTo (p1 - p2)) ∧
      exec (.smlsd c rd rn rs x rm) s = .next (toQ (p1 - p2 + n)) ∧
      (rd ≠ rn →
        exec (.smlald c rd rn rs x rm) s = .next (long (p1 + p2 + acc)) ∧
        exec (.smlsld c rd rn rs x rm) s = .next (long (p1 - p2 + acc)))) ∧
    (∀ b : Bool,
      exec (.smmul c rd rs b rm) s = .next (goesTo ((m.toInt * r.toInt + round b) / 2 ^ 32)) ∧
      exec (.smmla c rd rn rs b rm) s = .next (goesTo ((n * 2 ^ 32 + m.toInt * r.toInt + round b) / 2 ^ 32)) ∧
      exec (.smmls c rd rn rs b rm) s = .next (goesTo ((n * 2 ^ 32 - m.toInt * r.toInt + round b) / 2 ^ 32)))

/-! ### Media -/

/-- The 36 parallel additions and subtractions, lane by lane: the exact sum or difference of the lanes, wrapped, saturated or
halved, and for the S and U prefixes the GE bits (42_media_simd.md R1102, R1103, R1110 to R1145). -/
def Obligations.ParallelInstructionsWorkLaneByLane : Prop :=
  ∀ (s : State) (p : ParPrefix) (op : ParOp) (c : Cond) (rn rd rm : BitVec 4), s.Passes c → rn ≠ 15 → rd ≠ 15 →
    rm ≠ 15 → ∃ (r : Word) (g : BitVec 4),
      exec (parallelInstr p op c rn rd rm) s = .next
        ((if p = .s ∨ p = .u then (s.setReg rd r).setGe g else s.setReg rd r).goto s.nextInsn) ∧
      ∀ k, op.width * k < 32 →
        let e := laneExact p (op.subtracts k) op.width (s.reg rn) (s.reg rm) k (op.partner k)
        r.extractLsb' (op.width * k) op.width = laneValue p op.width e ∧
        ∀ j < op.width / 8, g.getLsbD (op.width / 8 * k + j) = laneGe p (op.subtracts k) op.width e

/-- The twelve extends: a byte, a halfword or two bytes of the rotated register, extended, added to Rn in the forms with an
addition, the two halves apart (42_media_simd.md R1160 to R1172). -/
def Obligations.ExtendsRotateExtendAndAdd : Prop :=
  ∀ (s : State) (e : Extend) (signed : Bool) (c : Cond) (rn rd rm : BitVec 4) (rotate : BitVec 2), s.Passes c →
    rn ≠ 15 → rd ≠ 15 → rm ≠ 15 →
    let v := extendedWord e signed ((s.reg rm).rotateRight (8 * rotate.toNat))
    let n := s.reg rn
    let sum : Word := if e = .twoBytes then
      (n.extractLsb' 16 16 + v.extractLsb' 16 16 : Half) ++ (n.extractLsb' 0 16 + v.extractLsb' 0 16 : Half) else n + v
    exec (extendInstr e signed c rd rotate rm) s = .next ((s.setReg rd v).goto s.nextInsn) ∧
    exec (extendAddInstr e signed c rn rd rotate rm) s = .next ((s.setReg rd sum).goto s.nextInsn)

/-- The instructions that move bytes and count: REV, REV16, REVSH, SEL, PKHBT, PKHTB, USAD8, USADA8, CLZ, CPY
(40_dataproc.md R936, R940, 42_media_simd.md R1150, R1151, R1184 to R1192). -/
def Obligations.ByteInstructionsSelectAndCount : Prop :=
  ∀ (s : State) (c : Cond) (rn rd rs rm : BitVec 4) (imm5 : BitVec 5), s.Passes c → rn ≠ 15 → rd ≠ 15 → rs ≠ 15 →
    rm ≠ 15 →
    let n := s.reg rn
    let m := s.reg rm
    let r := s.reg rs
    let b (w : Word) (k : Nat) : Byte := w.extractLsb' (8 * k) 8
    let h (w : Word) (k : Nat) : Half := w.extractLsb' (16 * k) 16
    let goesTo (w : Word) : Result := .next ((s.setReg rd w).goto s.nextInsn)
    let pick (k : Nat) : Byte := if s.ge.getLsbD k then b n k else b m k
    let diff (k : Nat) : Nat := (((b m k).toNat : Int) - (b r k).toNat).natAbs
    exec (.rev c 15 rd 15 rm) s = goesTo (b m 0 ++ b m 1 ++ b m 2 ++ b m 3) ∧
    exec (.rev16 c 15 rd 15 rm) s = goesTo (b m 2 ++ b m 3 ++ b m 0 ++ b m 1) ∧
    exec (.revsh c 15 rd 15 rm) s = goesTo ((b m 0 ++ b m 1 : Half).signExtend 32) ∧
    exec (.sel c rn rd 15 rm) s = goesTo (pick 3 ++ pick 2 ++ pick 1 ++ pick 0) ∧
    exec (.pkhbt c rn rd imm5 rm) s = goesTo (h (m <<< imm5.toNat) 1 ++ h n 0) ∧
    exec (.pkhtb c rn rd imm5 rm) s =
      goesTo (h n 1 ++ BitVec.ofInt 16 (m.toInt / 2 ^ (if imm5 = 0 then 32 else imm5.toNat))) ∧
    exec (.usad8 c rd rs rm) s = goesTo (BitVec.ofNat 32 (diff 0 + diff 1 + diff 2 + diff 3)) ∧
    exec (.usada8 c rd rn rs rm) s = goesTo (BitVec.ofNat 32 (n.toNat + (diff 0 + diff 1 + diff 2 + diff 3))) ∧
    (∃ k ≤ 32, exec (.clz c 15 rd 15 rm) s = goesTo (BitVec.ofNat 32 k) ∧ m.toNat < 2 ^ (32 - k) ∧
      (k < 32 → 2 ^ (31 - k) ≤ m.toNat)) ∧
    (∀ q, exec (.cpy c rd q) s = goesTo (s.operand q)) ∧
    (∀ q, exec (.cpy c 15 q) s =
      .next (s.goto (if s.bitT then s.operand q &&& 0xFFFFFFFE else s.operand q &&& 0xFFFFFFFC)))

/-! ### Branches and status -/

/-- B, BL and BLX (label) go to the address of the instruction plus 8 and the offset; BX, BLX (register) and BXJ go to the
register's address and instruction set; the linking forms put the next address into R14 (43_branch_status.md R1202, R1210 to
R1215). The model's choices: BXJ acts as BX (ruling D54; log 20), and a halfword address in ARM state stops by name
(treatment U64; log 18). -/
def Obligations.BranchesGoToTheirTarget : Prop :=
  ∀ (s : State) (c : Cond) (imm24 : BitVec 24) (h : Bool) (rm : BitVec 4), s.Passes c → s.bitT = false →
    let target := s.pc + 8 + BitVec.ofInt 32 (4 * imm24.toInt)
    let linked := s.setReg 14 (s.pc + 4)
    let into (t : State) (v : Word) : State := { t with cpsr := setBit t.cpsr 5 (v.getLsbD 0) }.goto (v &&& 0xFFFFFFFE)
    exec (.b c imm24) s = .next (s.goto target) ∧
    exec (.bl c imm24) s = .next (linked.goto target) ∧
    exec (.blxLabel h imm24) s =
      .next ({ linked with cpsr := setBit s.cpsr 5 true }.goto (target + if h then 2 else 0)) ∧
    ((s.operand rm).extractLsb' 0 2 ≠ 0b10#2 → exec (.bx c 15 15 15 rm) s = .next (into s (s.operand rm)) ∧
      (rm ≠ 15 → exec (.blxReg c 15 15 15 rm) s = .next (into linked (s.reg rm)) ∧
        exec (.bxj c 15 15 15 rm) s = .next (into s (s.reg rm)))) ∧
    ((s.operand rm).extractLsb' 0 2 = 0b10#2 → rm ≠ 15 → ∀ i ∈ [Instr.bx c 15 15 15 rm, .blxReg c 15 15 15 rm, .bxj c 15 15 15 rm],
      exec i s = .refused .branchAddress)

/-- MRS reads the CPSR or the SPSR; MSR writes the selected bytes of the SPSR, or of the CPSR the bits that the mode and the
world may write: the mode only to an assigned value, and not to Secure Monitor mode from the Non-secure world
(10_state.md R50, R54, R70, 43_branch_status.md R1220, R1221). The model's choices: the stops spsrAbsent and unassignedMode
(log 21), the reserved bits that read 0 and keep 0, and the mode kept out of Secure Monitor (rulings D55, D56; log 37). -/
def Obligations.StatusRegistersAreReadAndWritten : Prop :=
  ∀ (s : State) (c : Cond) (rd rm rot mask : BitVec 4) (imm8 : BitVec 8), s.Passes c → rd ≠ 15 → rm ≠ 15 →
    let bytes : Word := (if mask.getLsbD 0 then 0xFF else 0) ||| (if mask.getLsbD 1 then 0xFF00 else 0) |||
      (if mask.getLsbD 2 then 0xFF0000 else 0) ||| (if mask.getLsbD 3 then 0xFF000000 else 0)
    let stops (v : Word) : Bool := s.privileged && mask.getLsbD 0 && (Mode.ofBits (v.extractLsb' 0 5)).isNone
    let toCpsr (v : Word) : State := { s with cpsr := merge s.cpsr v (bytes &&& s.returnMask v &&& 0xFEFFFFDF) }.goto s.nextInsn
    let toSpsr (v : Word) : Result :=
      match spsrSlot s.mode with
      | some k => .next ({ s with spsr := s.spsr.set k (merge s.spsr[k] v (bytes &&& 0xF90F03FF)) }.goto s.nextInsn)
      | none => .refused .spsrAbsent
    exec (.mrs c false 15 rd 0 0) s = .next ((s.setReg rd (s.cpsr &&& 0xF90F03FF)).goto s.nextInsn) ∧
    exec (.mrs c true 15 rd 0 0) s =
      (match spsrSlot s.mode with
       | some k => .next ((s.setReg rd (s.spsr[k] &&& 0xF90F03FF)).goto s.nextInsn)
       | none => .refused .spsrAbsent) ∧
    (∀ i v, (i, v) ∈ [(Instr.msrReg c false mask 15 0 rm, s.reg rm), (.msrImm c false mask 15 rot imm8, rotatedImm rot imm8)] →
      (stops v = false → exec i s = .next (toCpsr v)) ∧ (stops v = true → exec i s = .refused .unassignedMode)) ∧
    exec (.msrReg c true mask 15 0 rm) s = toSpsr (s.reg rm) ∧
    exec (.msrImm c true mask 15 rot imm8) s = toSpsr (rotatedImm rot imm8)

/-- CPS sets or clears the interrupt masks it names, those the world may write, and writes an assigned mode; in User mode it
has no effect; SETEND writes the E bit (10_state.md R70, 43_branch_status.md R1230, R1231, 47_thumb.md R1575, R1576). -/
def Obligations.CpsAndSetendWriteTheStatus : Prop :=
  ∀ (s : State) (a i f e : Bool) (mode : BitVec 5) (m : Mode), s.inDebug = false → Mode.ofBits mode = some m →
    let may (k : Nat) : Bool := s.secure || s.cp15.scr.getLsbD k
    let masks (off : Bool) : Word :=
      let w := if a && may 5 then setBit s.cpsr 8 off else s.cpsr
      let w := if i then setBit w 7 off else w
      if f && may 4 then setBit w 6 off else w
    let moved (w : Word) : Word := if m = .mon ∧ s.secure = false then w else setField w 0 mode
    let goesTo (w : Word) : Result := .next ({ s with cpsr := if s.privileged then w else s.cpsr }.goto s.nextInsn)
    (∀ off : Bool,
      exec (.cps (if off then 0b11 else 0b10) false 0 a i f 0) s = goesTo (masks off) ∧
      exec (.cps (if off then 0b11 else 0b10) true 0 a i f mode) s = goesTo (moved (masks off)) ∧
      ((a || i || f) = true → exec (.tCps off false a i f) s = goesTo (masks off))) ∧
    exec (.cps 0b00 true 0 false false false mode) s = goesTo (moved s.cpsr) ∧
    exec (.setend 0 0 e false 0) s = .next ({ s with cpsr := setBit s.cpsr 9 e }.goto s.nextInsn) ∧
    exec (.tSetend e 0) s = .next ({ s with cpsr := setBit s.cpsr 9 e }.goto s.nextInsn)

/-! ### Loads and stores -/

/-- LDR, LDRT, LDRB, LDRBT, LDRSB, LDRH and LDRSH in every addressing form, to a register other than R15: the item memory holds
at the address, extended, goes to Rd, and the base is written back where the form does so
(44_loadstore.md R1261 to R1265, R1271 to R1277). The rows of Table 4-3 that the spec calls Unpredictable (A = U = 0) are done as its
Note column says, which is the model's choice (log 24). -/
def Obligations.LoadsWriteTheItemAndTheBase : Prop :=
  ∀ (s : State) (op : LoadOp) (c : Cond) (x : Index) (rn rd : BitVec 4) (f : OffsetForm) (i : Instr) (w : Word),
    op.instr c x rn rd f = some i → s.Passes c → badTransfer x rn rd f.offset = false → rd ≠ 15 →
    s.Holds op.type op.bytes (s.privileged && !op.user) (s.address x rn f.offset) w →
    exec i s = .next (((s.withBase x rn (s.moved x rn f.offset)).setReg rd (op.extend w)).goto s.nextInsn)

/-- LDR to the PC is an interworking branch to the word it loads, or with L4 a plain one; at an unaligned address it takes the
Alignment fault where U or A is 1 (43_branch_status.md R1202, R1203, 44_loadstore.md R1270, 20_memory.md R543, R546). The
model's choices: with A = U = 0, where the spec calls the load Unpredictable, an unaligned address loads the rotated word of
the Note column (log 24), and a branch to a word with bits [1:0] = 0b10 stops by name (log 18). -/
def Obligations.LoadingThePcBranches : Prop :=
  ∀ (s : State) (c : Cond) (x : Index) (rn : BitVec 4) (f : OffsetForm) (i : Instr) (w : Word),
    LoadOp.instr .ldr c x rn 15 f = some i → s.Passes c → badTransfer x rn 15 f.offset = false →
    let va := s.address x rn f.offset
    (s.alignment .wordLoad va ≠ .unaligned → s.Holds .wordLoad 4 s.privileged va w →
      exec i s = (s.withBase x rn (s.moved x rn f.offset)).loadedPc w) ∧
    (s.alignment .wordLoad va = .unaligned ∨ s.alignment .wordLoad va = .fault → s.reservedEndian = false →
      exec i s = .next (s.abortEntry (alignmentAbort (s.cp15.mva s.nonSecure va) false)))

/-- STR, STRT, STRB, STRBT and STRH in every addressing form: the register's value, for STR of R15 the address of the
instruction plus the fixed offset, is stored at the address, and the base is written back where the form does so
(44_loadstore.md R1261 to R1265, R1290 to R1294). The rows of Table 4-3 that the spec calls Unpredictable (A = U = 0) are done as its
Note column says, which is the model's choice (log 24). -/
def Obligations.StoresWriteTheItemAndTheBase : Prop :=
  ∀ (s u : State) (op : StoreOp) (c : Cond) (x : Index) (rn rd : BitVec 4) (f : OffsetForm) (i : Instr),
    op.instr c x rn rd f = some i → s.Passes c → badTransfer x rn rd f.offset = false → (rd = 15 → op = .str) →
    s.StoredAs op.type op.bytes (s.privileged && !op.user) (s.address x rn f.offset) (s.storeValue rd) u →
    exec i s = .next ((u.withBase x rn (s.moved x rn f.offset)).goto s.nextInsn)

/-- LDRD and STRD transfer Rd and Rd+1 with two words at ascending addresses; an odd Rd is Undefined
(44_loadstore.md R1265, R1278, R1295). The rows of Table 4-3 that the spec calls Unpredictable (A = U = 0) are done as its
Note column says, which is the model's choice (log 24). -/
def Obligations.DoubleTransfersMoveTwoWords : Prop :=
  ∀ (s u : State) (load : Bool) (c : Cond) (x : Index) (rn rd : BitVec 4) (f : OffsetForm) (i : Instr) (w0 w1 : Word),
    doubleInstr load c x rn rd f = some i → s.Passes c →
    (rd.getLsbD 0 = true → exec i s = .next s.undefinedEntry) ∧
    (rd.getLsbD 0 = false → badDouble load x rn rd f.offset = false →
      (load = true → s.HoldsBlock .twoWord (s.address x rn f.offset) [w0, w1] →
        exec i s = .next ((((s.withBase x rn (s.moved x rn f.offset)).setReg rd w0).setReg (rd + 1) w1).goto s.nextInsn)) ∧
      (load = false → s.StoredBlock .twoWord (s.address x rn f.offset) [s.reg rd, s.reg (rd + 1)] u →
        exec i s = .next ((u.withBase x rn (s.moved x rn f.offset)).goto s.nextInsn)))

/-- PLD and the hints, whether their condition passes or fails, only move the PC on (44_loadstore.md R1300,
46_coproc_system.md R1420). -/
def Obligations.HintsOnlyMoveThePc : Prop :=
  ∀ (s : State) (c : Cond) (u : Bool) (rn rm : BitVec 4) (imm12 : BitVec 12) (imm5 : BitVec 5) (t : BitVec 2)
    (num : BitVec 8), s.inDebug = false →
    exec (.nop c 15 0) s = .next (s.goto s.nextInsn) ∧ exec (.yield c 15 0) s = .next (s.goto s.nextInsn) ∧
    exec (.hint c 15 0 num) s = .next (s.goto s.nextInsn) ∧ exec (.pldImm u rn imm12) s = .next (s.goto s.nextInsn) ∧
    (rm ≠ 15 → exec (.pldReg u rn imm5 t rm) s = .next (s.goto s.nextInsn))

/-- LDM (1) loads the listed registers from ascending words and with W writes the base; R15 in the list is a branch, as LDR
to the PC is. LDM (2) loads User registers from a privileged mode with an SPSR
(45_ldm_excl_swp.md R1360 to R1363, 43_branch_status.md R1203). That such a branch to a
word with bits [1:0] = 0b10 stops by name is the model's choice (log 18). -/
def Obligations.LoadMultipleFillsTheList : Prop :=
  ∀ (s : State) (c : Cond) (p u w : Bool) (rn : BitVec 4) (l : BitVec 16) (l15 : BitVec 15) (ws : List Word),
    s.Passes c → rn ≠ 15 →
    (l ≠ 0 → (w = true → l.getLsbD rn.toNat = false) → ws.length = (listRegs l).length →
      s.HoldsBlock .multi (blockStart p u ws.length (s.reg rn)) ws →
      let t := s.setRegs (listed l ws)
      let t := if w then t.setReg rn (blockBase u ws.length (s.reg rn)) else t
      exec (.ldm1 c p u w rn l) s = if l.getLsbD 15 then t.loadedPc (ws.getLastD 0) else .next (t.goto s.nextInsn)) ∧
    (l15 ≠ 0 → s.mode ≠ .usr → s.mode ≠ .sys → ws.length = (listRegs (l15.setWidth 16)).length →
      s.HoldsBlock .multi (blockStart p u ws.length (s.reg rn)) ws →
      exec (.ldm2 c p u false rn l15) s =
        .next ((s.setUserRegs (listed (l15.setWidth 16) ws)).goto s.nextInsn))

/-- LDM (3) and RFE return from an exception: the CPSR from the SPSR or from the second word, the PC from the last or the first
word (45_ldm_excl_swp.md R1364, R1370, 43_branch_status.md R1205). RFE in User mode, which the spec calls Unpredictable, goes
on with the User mask, the model's choice (log 18), as are the stops of a return: an unassigned mode (log 21), Jazelle
state (log 20); that reserved CPSR bits stay 0 is log 37. -/
def Obligations.LoadsReturnFromAnException : Prop :=
  ∀ (s : State) (c : Cond) (p u w : Bool) (rn : BitVec 4), s.inDebug = false → rn ≠ 15 →
    (∀ (l15 : BitVec 15) (ws : List Word) (k : Fin 6), s.condPassed c = true → spsrSlot s.mode = some k →
      (w = true → (1#1 ++ l15 : BitVec 16).getLsbD rn.toNat = false) →
      ws.length = (listRegs (1#1 ++ l15)).length → s.HoldsBlock .multi (blockStart p u ws.length (s.reg rn)) ws →
      let t := s.setRegs (listed (1#1 ++ l15) ws)
      let t := if w then t.setReg rn (blockBase u ws.length (s.reg rn)) else t
      exec (.ldm3 c p u w rn l15) s = t.returnOutcome (ws.getLastD 0) s.spsr[k] ∧
      (t.mayReturn s.spsr[k] = true → exec (.ldm3 c p u w rn l15) s = .next (t.returnTo (ws.getLastD 0) s.spsr[k]))) ∧
    (∀ pc psr : Word, s.HoldsBlock .multi (blockStart p u 2 (s.reg rn)) [pc, psr] →
      let t := if w then s.setReg rn (blockBase u 2 (s.reg rn)) else s
      exec (.rfe p u w rn) s = t.returnOutcome pc psr ∧
      (t.mayReturn psr = true → exec (.rfe p u w rn) s = .next (t.returnTo pc psr)))

/-- STM (1) stores the listed registers to ascending words and with W writes the base, STM (2) stores User registers, SRS
stores R14 and the SPSR on the stack of a mode (45_ldm_excl_swp.md R1360, R1361, R1365, R1366, R1371). -/
def Obligations.StoreMultipleStoresTheList : Prop :=
  ∀ (s t : State) (c : Cond) (p u w : Bool) (rn : BitVec 4) (l : BitVec 16) (mode : BitVec 5) (m : Mode),
    s.inDebug = false →
    (s.condPassed c = true → l ≠ 0 → rn ≠ 15 →
      (w = true → l.getLsbD rn.toNat = true → (listRegs l).head? = some rn) →
      s.StoredBlock .multi (blockStart p u (listRegs l).length (s.reg rn)) ((listRegs l).map s.storeValue) t →
      exec (.stm1 c p u w rn l) s =
        .next ((if w then t.setReg rn (blockBase u (listRegs l).length (s.reg rn)) else t).goto s.nextInsn)) ∧
    (s.condPassed c = true → l ≠ 0 → rn ≠ 15 → s.mode ≠ .usr → s.mode ≠ .sys →
      s.StoredBlock .multi (blockStart p u (listRegs l).length (s.reg rn))
        ((listRegs l).map fun n => if n = 15 then s.storeValue 15 else s.regOf .usr n) t →
      exec (.stm2 c p u false rn l) s = .next (t.goto s.nextInsn)) ∧
    (∀ k, spsrSlot s.mode = some k → Mode.ofBits mode = some m → ¬(s.nonSecure = true ∧ m = .mon) →
      s.StoredBlock .multi (blockStart p u 2 (s.regOf m 13)) [s.reg 14, s.spsr[k]] t →
      exec (.srs p u w mode) s =
        .next ((if w then t.setRegOf m 13 (blockBase u 2 (s.regOf m 13)) else t).goto s.nextInsn))

/-- SWP and SWPB load Rd and store Rm at one address (45_ldm_excl_swp.md R1380, R1381, 20_memory.md R611). -/
def Obligations.SwapsLoadThenStore : Prop :=
  ∀ (s u : State) (c : Cond) (rn rd rm : BitVec 4) (w : Word), s.Passes c → rd ≠ 15 → rm ≠ 15 → rn ≠ 15 → rn ≠ rm →
    rn ≠ rd →
    let tl := if s.sctlr.getLsbD 22 then AccessType.wordSync else .wordLoad
    let ts := if s.sctlr.getLsbD 22 then AccessType.wordSync else .wordStore
    (s.Holds tl 4 s.privileged (s.reg rn) w → s.StoredAs ts 4 s.privileged (s.reg rn) (s.reg rm) u →
      exec (.swp c rn rd 0 rm) s = .next ((u.setReg rd w).goto s.nextInsn)) ∧
    (s.Holds .byte 1 s.privileged (s.reg rn) w → s.StoredAs .byte 1 s.privileged (s.reg rn) (s.reg rm) u →
      exec (.swpb c rn rd 0 rm) s = .next ((u.setReg rd w).goto s.nextInsn))

/-- LDREX, LDREXB, LDREXH and LDREXD load and mark: the local monitor becomes Exclusive, and for Shared memory the global one
takes the physical address (20_memory.md R601, R607, 45_ldm_excl_swp.md R1390, R1391, R1393, R1395, R1397). An address
the alignment check forces is a row of Table 4-3 the spec calls Unpredictable, done as its Note says (log 24). -/
def Obligations.LoadExclusiveLoadsAndMarks : Prop :=
  ∀ (s : State) (c : Cond) (rn rd : BitVec 4) (a : Word) (p : Place), s.Passes c → rn ≠ 15 → rd ≠ 15 →
    s.reservedEndian = false → s.NoWatch →
    (∀ z : ExclusiveSize, s.AccessAddress z.type (s.reg rn) a → s.Exclusive a .read z.bytes p →
      exec (z.load c rn rd) s = .next
        (((s.marked p z.bytes).setReg rd (s.assemble (s.partBytes p 0 z.bytes))).goto s.nextInsn)) ∧
    (∀ w0 w1, rd.getLsbD 0 = false → rd ≠ 14 → s.AccessAddress .doubleSync (s.reg rn) a → s.Exclusive a .read 8 p →
      s.HoldsWords s.privileged a [w0, w1] →
      exec (.ldrexd c rn rd 15 15) s = .next
        ((((s.marked p 8).setReg rd w0).setReg (rd + 1) w1).goto s.nextInsn))

/-- STREX, STREXB, STREXH and STREXD: with the local monitor Exclusive, and for Shared memory the global tag the address, the
store is made and the status is 0; otherwise nothing is stored and the status is 1, even where the access would not be
permitted; an abort is taken where the address is not aligned and, with the reservation held, where the access is not
permitted. Whatever the outcome the local monitor is open after. CLREX opens it (20_memory.md R602, R603,
45_ldm_excl_swp.md R1390, R1392, R1394, R1396, R1398, R1399). The model's choices: the tag is the exact address and size,
the default platform's monitor (ruling D37; log 36); an address the alignment check forces (log 24); that a store-exclusive
with no reservation gives status 1 in Device and Strongly Ordered memory too, where 20_memory.md R607 defines none (log 58);
and that no Data Abort is taken where 1 is returned, which R602 marks as derived (log 58). -/
def Obligations.StoreExclusiveStoresWhereMarked : Prop :=
  ∀ (s : State) (c : Cond) (rn rd rm : BitVec 4) (a : Word), s.Passes c → rn ≠ 15 → rd ≠ 15 → rm ≠ 15 → rd ≠ rn →
    rd ≠ rm → s.reservedEndian = false → s.NoWatch →
    let failed : Result := .next ((s.opened.setReg rd 1).goto s.nextInsn)
    let mva (v : Word) : Word := s.cp15.mva s.nonSecure v
    (∀ z : ExclusiveSize,
      (s.alignment z.type (s.reg rn) = .fault →
        exec (z.store c rn rd rm) s = .next (s.opened.abortEntry (alignmentAbort (mva (s.reg rn)) true))) ∧
      (s.AccessAddress z.type (s.reg rn) a →
        (s.monitors.locl = false → exec (z.store c rn rd rm) s = failed) ∧
        (∀ p, s.monitors.locl = true → s.Exclusive a .write z.bytes p →
          exec (z.store c rn rd rm) s =
            if p.shared = false ∨ s.monitors.globl = some (p.pa, z.bytes) then
              .next ((((s.writePart p 0 (s.scatter (s.reg rm) z.bytes)).cleared p).setReg rd 0).goto s.nextInsn)
            else failed) ∧
        (∀ t p f, s.monitors.locl = true →
          s.translateDeferred (s.request a .write s.privileged) = (.ok (t, some f), s) →
          s.placeOf s.nonSecure .write t = some p →
          exec (z.store c rn rd rm) s =
            if p.shared = false ∨ s.monitors.globl = some (p.pa, z.bytes) then
              .next (s.opened.abortEntry (f.dataAbort (mva a) true))
            else failed))) ∧
    (rm.getLsbD 0 = false → rm ≠ 14 → rd ≠ rm + 1 → s.AccessAddress .doubleSync (s.reg rn) a →
      (s.monitors.locl = false → exec (.strexd c rn rd 15 rm) s = failed) ∧
      (∀ p u, s.monitors.locl = true → s.Exclusive a .write 8 p →
        (p.shared = false ∨ s.monitors.globl = some (p.pa, 8) →
          s.StoredWords s.privileged a [s.reg rm, s.reg (rm + 1)] u →
          exec (.strexd c rn rd 15 rm) s = .next (((u.cleared p).setReg rd 0).goto s.nextInsn)) ∧
        (p.shared = true → s.monitors.globl ≠ some (p.pa, 8) → exec (.strexd c rn rd 15 rm) s = failed))) ∧
    exec (.clrex 15 15 0 15) s = .next (s.opened.goto s.nextInsn)

/-- What a part of a store writes and what it leaves: the bytes at its addresses read back, every other byte of memory and of
every TCM reads as before (20_memory.md R552, R553, R620). -/
def Obligations.StoredBytesReadBack : Prop :=
  ∀ (s : State) (p : Place) (bytes : List Byte), s.MemoryOk → bytes.length ≤ 4 →
    (p.pa.extractLsb' 0 2).toNat + bytes.length ≤ 4 →
    let t := s.writePart p 0 bytes
    t.MemoryOk ∧
    (∀ k (h : k < bytes.length), t.readByteAt p.tcm (s.byteAddr p.pa k) = bytes[k]) ∧
    (∀ a, (∀ k < bytes.length, s.byteAddr p.pa k ≠ a) → p.tcm = none → t.readByteAt none a = s.readByteAt none a) ∧
    (∀ m a, p.tcm = some m → (∀ k < bytes.length, m.offset (s.byteAddr p.pa k) ≠ m.offset a) →
      t.readByteAt (some m) a = s.readByteAt (some m) a) ∧
    (∀ q a, q ≠ p.tcm → t.readByteAt q a = s.readByteAt q a)

/-- Loads and stores that abort: a misaligned access where the alignment check gives a fault, and an address whose translation
faults, take the Data Abort with the status, the domain and the address, and write neither the register nor the base
(20_memory.md R546, R549, 21_mmu.md R671, R675, 60_exceptions.md R1624, R1641). The model's choices: the domain field of an
alignment fault, or of a fault whose domain is invalid, is 0 (treatment U38; log 43), and an address the alignment check
forces (log 24). -/
def Obligations.FaultingTransfersTakeTheDataAbort : Prop :=
  ∀ (s : State) (c : Cond) (x : Index) (rn rd : BitVec 4) (f : OffsetForm) (i : Instr) (a : Word) (e : MmuFault),
    s.Passes c → badTransfer x rn rd f.offset = false → rd ≠ 15 → s.reservedEndian = false →
    let va := s.address x rn f.offset
    let mva (v : Word) : Word := s.cp15.mva s.nonSecure v
    (∀ op : LoadOp, op.instr c x rn rd f = some i →
      (s.alignment op.type va = .fault → exec i s = .next (s.abortEntry (alignmentAbort (mva va) false))) ∧
      (s.AccessAddress op.type va a → locate a .read (s.privileged && !op.user) s = .ok (.error e) s →
        exec i s = .next (s.abortEntry (e.dataAbort (mva a) false)))) ∧
    (∀ op : StoreOp, op.instr c x rn rd f = some i →
      (s.alignment op.type va = .fault → exec i s = .next (s.abortEntry (alignmentAbort (mva va) true))) ∧
      (s.AccessAddress op.type va a → locate a .write (s.privileged && !op.user) s = .ok (.error e) s →
        exec i s = .next (s.abortEntry (e.dataAbort (mva a) true))))

/-! ### Coprocessors 14 and 15 -/

/-- MCR to CP15 and MRC from it in a Secure privileged mode: a control register holds the bits it has of what was written, a
register of two copies changes only the copy SCR.NS selects, no other CP15 register changes, and no general register, flag
or byte of memory. The registers are the Control, the Auxiliary Control, the Secure Configuration and the Coprocessor Access
Control Register, which keeps its value where no coprocessor exists, and those of `bankedRows` and `secureRows`
(11_cp15_overview_id.md R132, R134, R136, 12_cp15_control.md R231, R236, R240, R242, 46_coproc_system.md R1424, R1425). The
model's choices: the reserved bits ignore writes and read 0 (log 19), bit 2 of the Translation Table Base Registers is one
of them (ruling D17; log 47), no coprocessor exists (ruling D16; log 39), and MRC to R15 sets the flags as it does for CP14
(log 35). -/
def Obligations.Cp15RegistersHoldWhatIsWritten : Prop :=
  ∀ (s : State) (c : Cond) (rd rn : BitVec 4), s.Passes c → s.secure = true → s.privileged = true →
    s.pins.cp15sdisable = false → rd ≠ 15 → rn ≠ 15 →
    (∀ r ∈ bankedRows ++ secureRows, s.HoldsWritten c rd rn r 0) ∧
    s.HoldsWritten c rd rn controlRow 0x00050078 ∧
    exec (.mcr c 0 1 rd 15 0 1) s =
      .next ({ s with cp15 := { s.cp15 with scr := s.reg rd &&& 0x3F } }.goto s.nextInsn) ∧
    exec (.mrc c 0 1 rn 15 0 1) s = .next ((s.setReg rn s.cp15.scr).goto s.nextInsn) ∧
    exec (.mcr c 0 1 rd 15 2 0) s = .next (s.goto s.nextInsn) ∧
    exec (.mrc c 0 1 rn 15 2 0) s = .next ((s.setReg rn s.cp15.cpacr).goto s.nextInsn)

/-- In User mode, where no access has been granted, every CP15 register access is Undefined but for the Flush Prefetch Buffer
and barrier operations and the User Thread and Process ID registers (11_cp15_overview_id.md R132, 14_cp15_dma_misc.md R433,
R463, R470). The model's choices: the encodings of c7 that have no effect are privileged (ruling D21), and reserved
encodings are Undefined (ruling D33; log 47). -/
def Obligations.UserAccessToCp15IsUndefined : Prop :=
  ∀ (s : State) (c : Cond) (op1 op2 : BitVec 3) (crn crm rd : BitVec 4), s.Passes c → s.mode = .usr →
    s.cp15.valV = false → s.dma.user = 0 →
    ((op1, crn, crm, op2) ∉ [(0, 13, 0, 2), (0, 13, 0, 3)] →
      exec (.mrc c op1 crn rd 15 op2 crm) s = .next s.undefinedEntry) ∧
    ((op1, crn, crm, op2) ∉ [(0, 13, 0, 2), (0, 7, 5, 4), (0, 7, 10, 4), (0, 7, 10, 5)] →
      exec (.mcr c op1 crn rd 15 op2 crm) s = .next s.undefinedEntry)

/-- MCRR: the cache range operations of c5, c6, c12 and c14 from a privileged mode, that of c12 from User mode too, are
Undefined elsewhere or with the RV bit; with the MMU off no line can abort. Wait For Interrupt stops the core until a
wake-up event (11_cp15_overview_id.md R161, 12_cp15_control.md R237, 13_cp15_cache_tlb.md R343, 62_platform.md R1880). The
model's choices: the RV bit makes the operations Undefined (ruling D15; log 47), they change nothing, since caches have
no contents (ruling D20; log 12), and the stop is Standby (log 34), in which a counter in use may count (log 26). -/
def Obligations.RangeOperationsAndStandby : Prop :=
  ∀ (s : State) (c : Cond) (op crm rd rn : BitVec 4), s.Passes c →
    (op = 0 → s.cp15.actlr.getLsbD 5 = false → (crm = 12 ∨ (s.privileged = true ∧ (crm = 5 ∨ crm = 6 ∨ crm = 14))) →
      rd ≠ 15 → rn ≠ 15 → s.sctlr.getLsbD 0 = false →
      exec (.mcrr c rn rd 15 op crm) s = .next (s.goto s.nextInsn)) ∧
    ((op ≠ 0 ∨ s.cp15.actlr.getLsbD 5 = true ∨ (crm ≠ 12 ∧ (s.privileged = false ∨ (crm ≠ 5 ∧ crm ≠ 6 ∧ crm ≠ 14)))) →
      exec (.mcrr c rn rd 15 op crm) s = .next s.undefinedEntry) ∧
    (s.privileged = true → rd ≠ 15 → s.wakeUp = false →
      exec (.mcr c 0 7 rd 15 4 0) s = .next ({ s with activity := .standby }.goto s.nextInsn)) ∧
    (s.agenda = [] → s.dma.ch0.state ≠ .running → s.dma.ch1.state ≠ .running → s.activity = .standby →
      step s = if s.wakeUp then { s with activity := .running }.boundary else .next (s.idleStep s.pmuEnables))

/-- The debug communication channel: MCR and LDC fill the wDTR and set DSCR[29], MRC and STC empty the rDTR and clear DSCR[30];
the DBGTAP fills the rDTR through scan chain 5 where DSCR[30] is clear and empties the wDTR; an MRC of the DSCR to R15 sets
the flags (61_debug.md R1724, R1726, R1730, R1732, 46_coproc_system.md R1430, 63_dbgtap.md R1800). -/
def Obligations.DebugCommunicationChannelHandshakes : Prop :=
  ∀ (s : State) (c : Cond) (rd rn : BitVec 4) (p u n w : Bool) (imm8 : BitVec 8), s.Passes c → s.privileged = true →
    let bit (t : State) (k : Nat) (b : Bool) : State := { t with dbg := { t.dbg with dscr := setBit t.dbg.dscr k b } }
    let o : Word := BitVec.ofNat 32 (4 * imm8.toNat)
    let base := s.operand rn
    let offaddr := if u then base + o else base - o
    let addr := if p then offaddr else base
    let wb (t : State) : State := if w then t.setReg rn offaddr else t
    (rd ≠ 15 →
      exec (.mcr c 0 0 rd 14 0 5) s = .next ((bit { s with dbg := { s.dbg with wdtr := s.reg rd } } 29 true).goto s.nextInsn) ∧
      exec (.mrc c 0 0 rd 14 0 5) s = .next (((bit s 30 false).setReg rd s.dbg.rdtr).goto s.nextInsn) ∧
      exec (.mrc c 0 0 rd 14 0 1) s = .next ((s.setReg rd s.dscrValue).goto s.nextInsn)) ∧
    exec (.mrc c 0 0 15 14 0 1) s = .next ((s.setNzcv (flagsOfWord s.dscrValue)).goto s.nextInsn) ∧
    ((rn = 15 → w = false) →
      (∀ v, s.Holds .multi 4 true addr v →
        exec (.ldc c p u n w rn 5 14 imm8) s =
          .next ((wb (bit { s with dbg := { s.dbg with wdtr := v } } 29 true)).goto s.nextInsn)) ∧
      (∀ t, s.StoredAs .multi 4 true addr s.dbg.rdtr t →
        exec (.stc c p u n w rn 5 14 imm8) s = .next ((wb (bit t 30 false)).goto s.nextInsn))) ∧
    (∀ (v : BitVec 40) (t : State), s.tap.screg = 5 → s.dbg.dscr.getLsbD 13 = false → t = s.scanDr v →
      (s.tap.ir = 0b00000 → t.dbg.wdtr = s.dbg.wdtr ∧ t.dbg.dscr.getLsbD 30 = true ∧
        t.dbg.rdtr = if s.dbg.dscr.getLsbD 30 then s.dbg.rdtr else v.extractLsb' 0 32) ∧
      (s.tap.ir = 0b01100 → t.tap.out.extractLsb' 0 32 = s.dbg.wdtr ∧ t.tap.out.getLsbD 33 = s.dbg.dscr.getLsbD 29 ∧
        t.dbg.dscr.getLsbD 29 = false ∧ t.dbg.rdtr = s.dbg.rdtr))

/-! ### Thumb -/

/-- The Thumb data-processing instructions and shifts on low registers: the result, the flags, the next instruction
(47_thumb.md R1500, R1510, R1512, R1514 to R1516, R1521 to R1524, R1526 to R1530, R1532 to R1545). -/
def Obligations.ThumbDataProcessingWritesResultAndFlags : Prop :=
  ∀ (s : State) (rm rn rd i3 : BitVec 3) (i5 : BitVec 5) (i8 : BitVec 8), s.inDebug = false →
    let m := s.reg (low rm)
    let n := s.reg (low rn)
    let d := s.reg (low rd)
    let goesTo (op : AluOp) (a b : Word) : Result := .next (s.thumbResult op (low rd) a b)
    let flags (op : AluOp) (a b : Word) : Result := .next ((s.setNzcv (aluFlags op a b s.flagC s.nzcv)).goto s.nextInsn)
    let shifted (r : Word × Bool) : Result := .next (s.thumbShifted (low rd) r)
    let amount := (m.extractLsb' 0 8).toNat
    (exec (.tAddReg rm rn rd) s = goesTo .add n m ∧ exec (.tSubReg rm rn rd) s = goesTo .sub n m ∧
      exec (.tMovLow rn rd) s = goesTo .add n 0 ∧ exec (.tAddImm3 i3 rn rd) s = goesTo .add n (i3.setWidth 32) ∧
      exec (.tSubImm3 i3 rn rd) s = goesTo .sub n (i3.setWidth 32) ∧ exec (.tMovImm rd i8) s = goesTo .mov 0 (i8.setWidth 32) ∧
      exec (.tAddImm8 rd i8) s = goesTo .add d (i8.setWidth 32) ∧ exec (.tSubImm8 rd i8) s = goesTo .sub d (i8.setWidth 32)) ∧
    (exec (.tAnd rm rd) s = goesTo .and d m ∧ exec (.tEor rm rd) s = goesTo .eor d m ∧ exec (.tAdc rm rd) s = goesTo .adc d m ∧
      exec (.tSbc rm rd) s = goesTo .sbc d m ∧ exec (.tOrr rm rd) s = goesTo .orr d m ∧ exec (.tBic rm rd) s = goesTo .bic d m ∧
      exec (.tMvn rm rd) s = goesTo .mvn d m ∧ exec (.tNeg rm rd) s = goesTo .sub 0 m) ∧
    (exec (.tCmpImm rn i8) s = flags .sub n (i8.setWidth 32) ∧ exec (.tCmpLow rm rd) s = flags .sub d m ∧
      exec (.tCmn rm rd) s = flags .add d m ∧ exec (.tTst rm rd) s = flags .and d m) ∧
    exec (.tMul rm rd) s = .next (((s.setReg (low rd) (m * d)).withNz (m * d)).goto s.nextInsn) ∧
    (exec (.tLslImm i5 rm rd) s = shifted (immShiftC 0b00 m i5 s.flagC) ∧
      exec (.tLsrImm i5 rm rd) s = shifted (immShiftC 0b01 m i5 s.flagC) ∧
      exec (.tAsrImm i5 rm rd) s = shifted (immShiftC 0b10 m i5 s.flagC) ∧
      exec (.tLslReg rm rd) s = shifted (shiftC 0b00 d amount s.flagC) ∧
      exec (.tLsrReg rm rd) s = shifted (shiftC 0b01 d amount s.flagC) ∧
      exec (.tAsrReg rm rd) s = shifted (shiftC 0b10 d amount s.flagC) ∧
      exec (.tRor rm rd) s = shifted (shiftC 0b11 d amount s.flagC))

/-- The Thumb instructions on high registers, the SP and the PC, the extends and the byte reversals set no flags but for CMP,
and a write of R15 branches (47_thumb.md R1502, R1511, R1513, R1517 to R1520, R1525, R1531, R1577 to R1579,
R1582 to R1585). -/
def Obligations.ThumbHighRegistersStackAndExtends : Prop :=
  ∀ (s : State) (dh mh : Bool) (rm rd : BitVec 3) (i8 : BitVec 8) (i7 : BitVec 7), s.inDebug = false →
    let m := s.operand (high mh rm)
    let d := s.operand (high dh rd)
    let l := s.reg (low rm)
    let b (k : Nat) : Byte := l.extractLsb' (8 * k) 8
    let goesTo (w : Word) : Result := .next ((s.setReg (low rd) w).goto s.nextInsn)
    let sp (w : Word) : Result := .next ((s.setReg 13 w).goto s.nextInsn)
    ((dh || mh) = true → exec (.tAddHigh dh mh rm rd) s = .next (s.toHigh (high dh rd) (d + m))) ∧
    exec (.tMovHigh dh mh rm rd) s = .next (s.toHigh (high dh rd) m) ∧
    exec (.tCpy dh mh rm rd) s = .next (s.toHigh (high dh rd) m) ∧
    ((dh || mh) = true → high dh rd ≠ 15 →
      exec (.tCmpHigh dh mh rm rd) s = .next ((s.setNzcv (aluFlags .sub d m s.flagC s.nzcv)).goto s.nextInsn)) ∧
    exec (.tAddPc rd i8) s = goesTo ((s.operand 15 &&& 0xFFFFFFFC) + BitVec.ofNat 32 (4 * i8.toNat)) ∧
    exec (.tAddSp rd i8) s = goesTo (s.reg 13 + BitVec.ofNat 32 (4 * i8.toNat)) ∧
    exec (.tAddSpImm i7) s = sp (s.reg 13 + BitVec.ofNat 32 (4 * i7.toNat)) ∧
    exec (.tSubSpImm i7) s = sp (s.reg 13 - BitVec.ofNat 32 (4 * i7.toNat)) ∧
    exec (.tSxth rm rd) s = goesTo ((l.extractLsb' 0 16).signExtend 32) ∧ exec (.tSxtb rm rd) s = goesTo ((b 0).signExtend 32) ∧
    exec (.tUxth rm rd) s = goesTo ((l.extractLsb' 0 16).setWidth 32) ∧ exec (.tUxtb rm rd) s = goesTo ((b 0).setWidth 32) ∧
    exec (.tRev rm rd) s = goesTo (b 0 ++ b 1 ++ b 2 ++ b 3) ∧ exec (.tRev16 rm rd) s = goesTo (b 2 ++ b 3 ++ b 0 ++ b 1) ∧
    exec (.tRevsh rm rd) s = goesTo ((b 0 ++ b 1 : Half).signExtend 32)

/-- The Thumb loads and stores of one register (47_thumb.md R1502, R1503, R1546 to R1563). The rows of Table 4-3 that the spec calls Unpredictable (A = U = 0) are done as its
Note column says, which is the model's choice (log 24). -/
def Obligations.ThumbTransfersMoveTheItem : Prop :=
  ∀ (s u : State) (a : ThumbAddress) (rd : BitVec 3) (i : Instr) (w : Word), s.inDebug = false →
    (∀ op : LoadOp, op.thumb a rd = some i → s.Holds op.type op.bytes s.privileged (a.value s op.bytes) w →
      exec i s = .next ((s.setReg (low rd) (op.extend w)).goto s.nextInsn)) ∧
    (∀ op : StoreOp, op.thumb a rd = some i →
      s.StoredAs op.type op.bytes s.privileged (a.value s op.bytes) (s.reg (low rd)) u →
      exec i s = .next (u.goto s.nextInsn))

/-- PUSH stores and POP loads at the stack, POP of R15 branching; STMIA and LDMIA move the base on, but for LDMIA of its own
base, which keeps the loaded value (47_thumb.md R1556, R1564 to R1566). That such a branch to a
word with bits [1:0] = 0b10 stops by name is the model's choice (log 18). -/
def Obligations.ThumbBlocksUseTheStackOrTheBase : Prop :=
  ∀ (s t : State) (r : Bool) (l : BitVec 8) (rn : BitVec 3) (ws : List Word), s.inDebug = false →
    let push : BitVec 16 := BitVec.ofBool false ++ BitVec.ofBool r ++ 0#6 ++ l
    let pop : BitVec 16 := BitVec.ofBool r ++ 0#7 ++ l
    let list : BitVec 16 := l.setWidth 16
    let base := s.reg (low rn)
    (push ≠ 0 → s.StoredBlock .multi (s.reg 13 - BitVec.ofNat 32 (4 * (listRegs push).length))
        ((listRegs push).map s.reg) t →
      exec (.tPush r l) s =
        .next ((t.setReg 13 (s.reg 13 - BitVec.ofNat 32 (4 * (listRegs push).length))).goto s.nextInsn)) ∧
    (pop ≠ 0 → ws.length = (listRegs pop).length → s.HoldsBlock .multi (s.reg 13) ws →
      let v := (s.setRegs (listed pop ws)).setReg 13 (s.reg 13 + BitVec.ofNat 32 (4 * ws.length))
      exec (.tPop r l) s = if r then v.loadedPc (ws.getLastD 0) else .next (v.goto s.nextInsn)) ∧
    (l ≠ 0 → (l.getLsbD rn.toNat = true → (listRegs list).head? = some (low rn)) →
      s.StoredBlock .multi base ((listRegs list).map s.reg) t →
      exec (.tStmia rn l) s =
        .next ((t.setReg (low rn) (base + BitVec.ofNat 32 (4 * (listRegs list).length))).goto s.nextInsn)) ∧
    (l ≠ 0 → ws.length = (listRegs list).length → s.HoldsBlock .multi base ws →
      let v := s.setRegs (listed list ws)
      exec (.tLdmia rn l) s = .next ((if l.getLsbD rn.toNat then v
        else v.setReg (low rn) (base + BitVec.ofNat 32 (4 * ws.length))).goto s.nextInsn))

/-- The Thumb branches; the two halves of BL, run one after the other, go to the address after the first half plus 2 and the
22-bit offset, with R14 the address after the second half in Thumb state (47_thumb.md R1567, R1568, R1570 to R1574). The
model's choices: the second half of BL clears bit 0 of its target (log 41), and a halfword address in ARM state stops by
name (log 18). -/
def Obligations.ThumbBranchesGoToTheirTarget : Prop :=
  ∀ (s : State) (c : Cond) (m : Bool) (rm : BitVec 3) (i8 : BitVec 8) (i10 : BitVec 10) (i11 hi lo : BitVec 11),
    s.inDebug = false → s.bitT = true →
    let v := s.operand (high m rm)
    let back : Word := (s.pc + 2) ||| 1
    let into (t : State) : State := { t with cpsr := setBit t.cpsr 5 (v.getLsbD 0) }.goto (v &&& 0xFFFFFFFE)
    (s.condPassed c = true →
      exec (.tBCond c.toBits i8) s = .next (s.goto (s.pc + 4 + BitVec.ofInt 32 (2 * i8.toInt)))) ∧
    exec (.tB i11) s = .next (s.goto (s.pc + 4 + BitVec.ofInt 32 (2 * i11.toInt))) ∧
    (v.extractLsb' 0 2 ≠ 0b10#2 → exec (.tBx m rm 0) s = .next (into s) ∧
      (high m rm ≠ 15 → exec (.tBlxReg m rm 0) s = .next (into (s.setReg 14 back)))) ∧
    (v.extractLsb' 0 2 = 0b10#2 → exec (.tBx m rm 0) s = .refused .branchAddress ∧
      (high m rm ≠ 15 → exec (.tBlxReg m rm 0) s = .refused .branchAddress)) ∧
    exec (.tBlFirst i11) s = .next ((s.setReg 14 (s.pc + 4 + BitVec.ofInt 32 (4096 * i11.toInt))).goto s.nextInsn) ∧
    exec (.tBlSecond i11) s =
      .next ((s.setReg 14 back).goto ((s.reg 14 + BitVec.ofNat 32 (2 * i11.toNat)) &&& 0xFFFFFFFE)) ∧
    exec (.tBlxSecond i10) s = .next ({ s.setReg 14 back with cpsr := setBit s.cpsr 5 false }.goto
      ((s.reg 14 + BitVec.ofNat 32 (4 * i10.toNat)) &&& 0xFFFFFFFC)) ∧
    (s.pc.getLsbD 0 = false → ∃ t, exec (.tBlFirst hi) s = .next t ∧
      exec (.tBlSecond lo) t = .next ((s.setReg 14 ((s.pc + 4) ||| 1)).goto
        (s.pc + 4 + BitVec.ofInt 32 (2 * (hi ++ lo).toInt))))

/-! ### Stops by name -/

/-- The operand combinations the architecture calls Unpredictable and the should-be bits that are violated stop by name, after
the condition (30_encoding.md R861, 40_dataproc.md R903, 41_multiply_dsp.md R1003, 44_loadstore.md R1264, R1265,
45_ldm_excl_swp.md R1360, U64 of 93_implementation_defined.md; log 18, log 19). -/
def Obligations.UnpredictableFormsStopByName : Prop :=
  ∀ (s : State) (c : Cond), s.Passes c →
    (∀ op sBit rn rd o, o.regShiftPc rn rd = true → op ≠ .mov → op ≠ .mvn →
      exec (aluInstr op c sBit rn rd o) s = .refused .unpredictableOperands) ∧
    (∀ sBit rd rs rm, rd = 15 ∨ rs = 15 ∨ rm = 15 →
      exec (.mul c sBit rd 0 rs rm) s = .refused .unpredictableOperands) ∧
    (∀ sBit rdHi rdLo rs rm, rdHi = 15 ∨ rdLo = 15 ∨ rs = 15 ∨ rm = 15 ∨ rdHi = rdLo →
      exec (.umull c sBit rdHi rdLo rs rm) s = .refused .unpredictableOperands ∧
      exec (.smlal c sBit rdHi rdLo rs rm) s = .refused .unpredictableOperands) ∧
    (∀ p op rn rd rm, rn = 15 ∨ rd = 15 ∨ rm = 15 →
      exec (parallelInstr p op c rn rd rm) s = .refused .unpredictableOperands) ∧
    (∀ (op : LoadOp) x rn rd f i, op.instr c x rn rd f = some i →
      badTransfer x rn rd f.offset = true ∨ (rd = 15 ∧ op ≠ .ldr) → exec i s = .refused .unpredictableOperands) ∧
    (∀ (op : StoreOp) x rn rd f i, op.instr c x rn rd f = some i →
      badTransfer x rn rd f.offset = true ∨ (rd = 15 ∧ op ≠ .str) → exec i s = .refused .unpredictableOperands) ∧
    (∀ p u w rn l, l = 0 ∨ rn = 15 ∨ (w = true ∧ l.getLsbD rn.toNat = true) →
      exec (.ldm1 c p u w rn l) s = .refused .unpredictableOperands) ∧
    (∀ sBit rd sbz rs rm, sbz ≠ 0 → exec (.mul c sBit rd sbz rs rm) s = .refused .shouldBeBits) ∧
    (∀ rn rd sbo rm, sbo ≠ 15 → exec (.sel c rn rd sbo rm) s = .refused .shouldBeBits) ∧
    (∀ a b d rm, a ≠ 15 ∨ b ≠ 15 ∨ d ≠ 15 → exec (.bx c a b d rm) s = .refused .shouldBeBits)

/-! ### The MMU, the DMA, debug, the counters -/

/-- Translation. With the MMU off an address is its own physical address, with the attributes of that case. With it on, a
lockdown entry that matches answers; else a walk of the tables at TTBR0, TTBCR.N = 0: sections and supersections, coarse
tables with large, small and extended small pages, in both descriptor formats, with every fault: disabled walks, error
responses, descriptors that map nothing, the Access bit, the domain, the permission bits with S and R, XN. The walk
changes at most the lockdown region (21_mmu.md R634 to R649, R651 to R655, R661 to R664, R676, R685, R705). The model's
choices: reserved permission encodings give no access and reserved attributes none (log 25), APX:AP = 000 with S and R
opposite has no Access bit, by the exception of R653 against the formula of R655 (log 48), the walk has the privilege of the request (log 49), the first of several matching
lockdown entries answers (log 14), and the domain field of a first-level fault is 0 (log 43). -/
def Obligations.SectionsTranslateAndCheckPermission : Prop :=
  ∀ (s : State) (r : Request),
    let ctl := s.cp15.sctlr r.ns
    (ctl.getLsbD 0 = false →
      let attrs : Attrs := if ctl.getLsbD 28 then (s.cp15.bank r.ns).remapAttrs 0 true
        else if r.kind = .fetch ∧ ctl.getLsbD 12 = true then { type := .normal, shared := false, inner := 0b10, outer := 0b10 }
        else { type := .stronglyOrdered, shared := true, inner := 0, outer := 0 }
      translate r s = .ok (.ok { pa := r.mva, nsAttr := r.ns, attrs := some attrs, domain := 0 }) s) ∧
    (ctl.getLsbD 0 = true →
      (∀ e, s.tlbLookup r = some e → translate r s = .ok (s.mappingOutcome r
        { isSection := e.isSection, pa := e.paAt r.mva, ns := r.ns || e.nsa, domain := e.domain, apx := e.apx,
          ap := e.apAt r.mva, xn := e.xn, attrs := s.descriptorAttrs r.ns e.tex e.c e.b e.s }) s) ∧
      (s.tlbLookup r = none → (s.cp15.bank r.ns).ttbcr.extractLsb' 0 3 = 0#3 →
        ∃ u, translate r s = .ok (s.walkOutcome r) u ∧ (s.cp15.tlbLockdown.getLsbD 0 = false → u = s) ∧
          u = { s with cp15 := { s.cp15 with tlb := u.cp15.tlb, tlbLockdown := u.cp15.tlbLockdown } }))

/-- The DMA: a transaction into a TCM, or out of one, copies the bytes of its size and no others, moves the internal address by the
size and the external one by the stride; the transfer is complete at the Internal End Address, and where the channel
interrupts then, the pin of the world of the channels goes LOW; a step of the core makes one transaction before the core
moves (14_cp15_dma_misc.md R440, R445, R446, R448, 22_l1_l2.md R780, R782 to R785). The model's choices: each step makes
one, and the TCM is the one the transfer began in (log 28); the bytes are copied as both sides hold them, with SCTLR.B = 1
too (log 60). -/
def Obligations.DmaCopiesOneTransactionAtAStep : Prop :=
  ∀ (s : State) (n : Bool) (ti te : Translation) (m : Tcm), s.MemoryOk → (∀ k, s.activity ≠ .heldInReset k) →
    let ch := s.dma.channel n
    (ch.curInt = ch.intEnd → ∃ t, s.dmaStep n = .ok t ∧ (t.dma.channel n).state = .complete ∧
      (t.dma.channel n).irq = (ch.irq || ch.control.getLsbD 29) ∧ t.mem = s.mem ∧ t.regs = s.regs ∧
      (ch.control.getLsbD 29 = true → t.nDmaSIrq = s.dmaNs ∧ t.nDmaIrq = !s.dmaNs)) ∧
    (s.DmaMoves n ti te m → ∃ t, s.dmaStep n = .ok t ∧
      (t.dma.channel n).curInt = ch.curInt + BitVec.ofNat 32 (2 ^ ch.sizeLog) ∧
      (t.dma.channel n).curExt = ch.curExt + ch.stride ∧ (t.dma.channel n).tcm = some m.number ∧
      t.regs = s.regs ∧ t.cpsr = s.cpsr ∧
      let inner (k : Nat) : Word := ti.pa + BitVec.ofNat 32 k
      let outer (k : Nat) : Word := te.pa + BitVec.ofNat 32 k
      (ch.control.getLsbD 30 = false → t.mem = s.mem ∧ (∀ q, q ≠ m → t.tcmCells q = s.tcmCells q) ∧
        (∀ k < 2 ^ ch.sizeLog, t.readByteAt (some m) (inner k) = s.readByteAt none (outer k)) ∧
        (∀ a, (∀ k < 2 ^ ch.sizeLog, m.offset (inner k) ≠ m.offset a) → t.readByteAt (some m) a = s.readByteAt (some m) a)) ∧
      (ch.control.getLsbD 30 = true → (∀ q, t.tcmCells q = s.tcmCells q) ∧
        (∀ k < 2 ^ ch.sizeLog, t.readByteAt none (outer k) = s.readByteAt (some m) (inner k)) ∧
        (∀ a, (∀ k < 2 ^ ch.sizeLog, outer k ≠ a) → t.readByteAt none a = s.readByteAt none a))) ∧
    (s.agenda = [] → s.dma.ch0.state = .running →
      step s = match s.dmaStep false with
        | .ok t => t.coreStep
        | .error r => .refused r)

/-- Debug state: BKPT in Halting debug-mode enters it where debug is permitted, with the cause and the address plus 8 or 4, and
drives DBGACK HIGH; in it the core does nothing of its own but let time pass (log 26), and no instruction moves the PC or leaves it; the Restart
instruction of the DBGTAP resumes at the written PC, with DBGACK as DSCR[10] says (61_debug.md R1755, R1758, R1770, R1775,
R1779, R1785, 63_dbgtap.md R1791). The model's choices: what an instruction issued in Debug state does to the PC (ruling
D70; log 31), and Restart as one step (ruling D68; log 32). -/
def Obligations.DebugStateIsEnteredAndLeft : Prop :=
  ∀ s : State,
    (∀ imm12 imm4 imm8, s.inDebug = false → s.debugPermitted = true → s.dbgMode = .halting →
      let t := { s with
        activity := .debug
        dbg := { s.dbg with
          dscr := setField s.dbg.dscr 2 (0b0011#4)
          dbgPc := s.pc + (if s.bitT then 4 else 8)
          dbgPcValid := true
          dbgPcWritten := false }
        tap := { s.tap with haltReq := false } }
      exec (.bkpt .al imm12 imm4) s = .next t ∧ exec (.tBkpt imm8) s = .next t ∧ t.dbgAck = true) ∧
    (s.agenda = [] → s.activity = .debug → s.dma.ch0.state ≠ .running → s.dma.ch1.state ≠ .running →
      step s = .next (s.idleStep s.pmuEnables)) ∧
    (∀ (i : Instr) (t : State), s.activity = .debug → exec i s = .next t → t.pc = s.pc ∧ t.activity = .debug) ∧
    (∀ (c : Cond) rn rd rot imm8, s.activity = .debug → s.condPassed c = true → rn ≠ 15 → rd ≠ 15 →
      exec (.addImm c false rn rd rot imm8) s = .next (s.setReg rd (s.reg rn + rotatedImm rot imm8))) ∧
    (∀ rest, s.agenda = .runTestIdle :: rest → s.tap.ir = 0b00100 → s.activity = .debug → s.dbg.dbgPcWritten = true →
      ∃ t, step s = .next t ∧ t.activity = .running ∧ t.agenda = rest ∧ t.regs = s.regs ∧ t.cpsr = s.cpsr ∧
        t.mem = s.mem ∧ t.pc = (if s.bitT then s.dbg.dbgPc &&& 0xFFFFFFFE else s.dbg.dbgPc &&& 0xFFFFFFFC) ∧
        t.dbg.dscr.getLsbD 1 = true ∧ t.dbgAck = s.dbg.dscr.getLsbD 10)

/-- The performance counters, none of them used for validation: a step of the core that runs one instruction adds 1 to each Count Register set for event 0x07 and
sets its overflow flag where it wraps, and an overflow flag with its enable drives nPMUIRQ LOW; with PMNC.D the Cycle Counter
counts every 64th cycle; nothing but the counters and the model's own count of free values changes; a disabled counter
that no validation operation started stands still (14_cp15_dma_misc.md R472 to R478). By how much the Cycle Counter
advances is a free value, and which instructions count, one that ends in an exception among them, is the model's choice
(log 26). -/
def Obligations.PerformanceCountersCountInstructions : Prop :=
  (∀ (s : State) (en : PmuEnables), s.pmu.started = 0 →
    (en.cycles = true → en.events = true → s.pmu.pmnc.getLsbD 0 = true → s.pmu.wrapped = 0 → s.CountsOne (s.pmuTick en 1)) ∧
    (s.pmu.pmnc.getLsbD 0 = false → s.pmuTick en 1 = s)) ∧
  (∀ (s u v : State) (w : Words) (i : Instr), s.Between → s.NoInterrupt → fetchInsn s = .ok (.ok w) u → u.NoEvent →
    u.bitJ = false → decode w = .instr i → exec i (u.commit w) = .next v → v.pmu.started = 0 →
    (u.pmu.pmnc.getLsbD 0 = true → u.inDebug = false → u.nonInvasivePermitted = true → v.pmu.pmnc.getLsbD 0 = true →
      v.pmu.wrapped = 0 →
      ∃ t, step s = .next t ∧ v.CountsOne t) ∧
    (v.pmu.pmnc.getLsbD 0 = false → step s = .next v))
end

