-- ==== Sys2Proof/Laws/Run.lean ====
section
/-!
SUPPORT. How the operations of a meaning run: one lemma for each step of the monad and each plain register operation, so
that a meaning is evaluated by simp, line by line.
-/
namespace Sys2Proof.Machine

/-! ### The monad -/

@[simp] theorem run_bind {α β : Type} (x : M α) (f : α → M β) (s : State) :
    EStateM.run (x >>= f) s = match EStateM.run x s with
      | .ok a t => EStateM.run (f a) t
      | .error e t => .error e t := by
  show EStateM.bind x f s = _
  simp only [EStateM.bind, EStateM.run]
  cases x s <;> rfl

@[simp] theorem run_map {α β : Type} (f : α → β) (x : M α) (s : State) :
    EStateM.run (f <$> x) s = match EStateM.run x s with
      | .ok a t => .ok (f a) t
      | .error e t => .error e t := by
  show EStateM.map f x s = _
  simp only [EStateM.map, EStateM.run]
  cases x s <;> rfl

@[simp] theorem run_pure {α : Type} (a : α) (s : State) : EStateM.run (pure a : M α) s = .ok a s := rfl

@[simp] theorem run_get (s : State) : EStateM.run (get : M State) s = .ok s s := rfl

@[simp] theorem run_set (t s : State) : EStateM.run (set t : M PUnit) s = .ok () t := rfl

@[simp] theorem run_modify (f : State → State) (s : State) : EStateM.run (modify f : M PUnit) s = .ok () (f s) := rfl

@[simp] theorem run_throw {α : Type} (e : Stop) (s : State) : EStateM.run (throw e : M α) s = .error e s := rfl

@[simp] theorem run_refuse {α : Type} (r : Refusal) (s : State) :
    EStateM.run (refuse r : M α) s = .error (.refused r) s := rfl

@[simp] theorem run_refuseIf (c : Bool) (r : Refusal) (s : State) :
    EStateM.run (refuseIf c r) s = if c then .error (.refused r) s else .ok () s := by
  cases c <;> rfl

@[simp] theorem run_unpredictableIf (c : Bool) (s : State) :
    EStateM.run (unpredictableIf c) s = if c then .error (.refused .unpredictableOperands) s else .ok () s := by
  cases c <;> rfl

@[simp] theorem run_shouldBe (c : Bool) (s : State) :
    EStateM.run (shouldBe c) s = if c then .ok () s else .error (.refused .shouldBeBits) s := by
  cases c <;> rfl

@[simp] theorem run_ite {α : Type} (p : Prop) [Decidable p] (x y : M α) (s : State) :
    EStateM.run (if p then x else y) s = if p then EStateM.run x s else EStateM.run y s := by
  split <;> rfl

/-! ### Outcomes -/

theorem outcome_ok {x : M Unit} {s t : State} (h : x.run s = .ok () t) : x.outcome s = .next t := by
  have h : x s = .ok () t := h
  simp only [M.outcome, h]

theorem outcome_taken {x : M Unit} {s t : State} (h : x.run s = .error .taken t) : x.outcome s = .next t := by
  have h : x s = .error .taken t := h
  simp only [M.outcome, h]

theorem outcome_refused {x : M Unit} {s t : State} {r : Refusal} (h : x.run s = .error (.refused r) t) :
    x.outcome s = .refused r := by
  have h : x s = .error (.refused r) t := h
  simp only [M.outcome, h]

theorem outcome_faulted {x : M Unit} {s t : State} {f : Fault} (h : x.run s = .error (.faulted f) t) :
    x.outcome s = .fault f := by
  have h : x s = .error (.faulted f) t := h
  simp only [M.outcome, h]

/-- The outcome goes on from where the first part ended. -/
theorem outcome_bind_ok {α : Type} {x : M α} {a : α} {s t : State} (h : x.run s = .ok a t) (f : α → M Unit) :
    (x >>= f).outcome s = (f a).outcome t := by
  have e : (x >>= f) s = f a t := by
    have := run_bind x f s
    rw [h] at this
    exact this
  simp only [M.outcome, e]

/-- The outcome is the stop of the first part. -/
theorem outcome_bind_error {α : Type} {x : M α} {e : Stop} {s t : State} (h : x.run s = .error e t) (f : α → M Unit) :
    (x >>= f).outcome s = (throw e : M Unit).outcome t := by
  have e : (x >>= f) s = .error e t := by
    have := run_bind x f s
    rw [h] at this
    exact this
  simp only [M.outcome, e]
  rfl

/-- A next state comes from the end of the meaning or from an exception it took. -/
theorem outcome_next {x : M Unit} {s t : State} (h : x.outcome s = .next t) :
    x.run s = .ok () t ∨ x.run s = .error .taken t := by
  unfold M.outcome at h
  split at h
  · exact .inl (by injection h with h; subst h; assumption)
  · exact .inr (by injection h with h; subst h; assumption)
  · cases h
  · cases h

theorem conditional_passed {c : Cond} {s : State} (h : s.condPassed c = true) (x : M Unit) :
    conditional c x s = x.outcome s := by
  simp only [conditional, h, if_true]

theorem conditionalBranch_passed {c : Cond} {s : State} (h : s.condPassed c = true) (x : M Unit) :
    conditionalBranch c x s = x.outcome s := by
  simp only [conditionalBranch, h, if_true]

/-! ### Registers and the PC -/

theorem run_readReg {n : BitVec 4} (h : n ≠ 15) (s : State) : (readReg n).run s = .ok (s.reg n) s := by
  simp only [readReg, if_neg h]
  rfl

theorem run_readPc {s : State} (h : s.inDebug = false) :
    readPc.run s = .ok (s.pc + (if s.bitT then 4 else 8)) s := by
  simp [readPc, h]

@[simp] theorem run_writeReg (n : BitVec 4) (v : Word) (s : State) :
    (writeReg n v).run s = .ok () (s.setReg n v) := rfl

@[simp] theorem run_writeUserReg (n : BitVec 4) (v : Word) (s : State) :
    (writeUserReg n v).run s = .ok () (s.setRegOf .usr n v) := rfl

@[simp] theorem run_branchTo (a : Word) (s : State) : (branchTo a).run s = .ok () (s.branchTo a) := rfl

@[simp] theorem run_aluWritePc (v : Word) (s : State) :
    (aluWritePc v).run s = .ok () (s.branchTo (s.alignPc v)) := rfl

@[simp] theorem run_setFlags (f : Nzcv) (s : State) : (setFlags f).run s = .ok () (s.setNzcv f) := rfl

@[simp] theorem run_setNz (w : Word) (s : State) :
    (setNz w).run s = .ok () (s.setNzcv { s.nzcv with n := w.msb, z := w == 0 }) := rfl

@[simp] theorem run_setQIf (c : Bool) (s : State) :
    (setQIf c).run s = .ok () (if c then { s with cpsr := setBit s.cpsr 27 true } else s) := rfl

@[simp] theorem run_draw (s : State) :
    draw.run s = .ok (Config.freeWord s.freeCtr) { s with freeCtr := s.freeCtr + 1 } := rfl

theorem run_advance {s : State} (h : s.inDebug = false) : advance.run s = .ok () { s with pc := s.nextInsn } := by
  show EStateM.Result.ok () (if s.inDebug then s else { s with pc := s.nextInsn }) = _
  simp [h]

theorem branchTo_running {s : State} (h : s.inDebug = false) (a : Word) : s.branchTo a = { s with pc := a } := by
  simp [State.branchTo, h]

end Sys2Proof.Machine
end

