-- ==== Sys2Proof/Laws/State.lean ====
section
/-!
SUPPORT. What each update of the state leaves: one lemma for each field and each named update, and what the updates do to the
fields they write (10_state.md R100).
-/
namespace Sys2Proof.Machine

noncomputable section

/-! ### setRegOf -/

@[simp] theorem State.setRegOf_spsr (s : State) (m : Mode) (n : BitVec 4) (v : Word) : (s.setRegOf m n v).spsr = s.spsr := rfl
@[simp] theorem State.setRegOf_cpsr (s : State) (m : Mode) (n : BitVec 4) (v : Word) : (s.setRegOf m n v).cpsr = s.cpsr := rfl
@[simp] theorem State.setRegOf_pc (s : State) (m : Mode) (n : BitVec 4) (v : Word) : (s.setRegOf m n v).pc = s.pc := rfl
@[simp] theorem State.setRegOf_cp15 (s : State) (m : Mode) (n : BitVec 4) (v : Word) : (s.setRegOf m n v).cp15 = s.cp15 := rfl
@[simp] theorem State.setRegOf_dma (s : State) (m : Mode) (n : BitVec 4) (v : Word) : (s.setRegOf m n v).dma = s.dma := rfl
@[simp] theorem State.setRegOf_pmu (s : State) (m : Mode) (n : BitVec 4) (v : Word) : (s.setRegOf m n v).pmu = s.pmu := rfl
@[simp] theorem State.setRegOf_dbg (s : State) (m : Mode) (n : BitVec 4) (v : Word) : (s.setRegOf m n v).dbg = s.dbg := rfl
@[simp] theorem State.setRegOf_tap (s : State) (m : Mode) (n : BitVec 4) (v : Word) : (s.setRegOf m n v).tap = s.tap := rfl
@[simp] theorem State.setRegOf_pins (s : State) (m : Mode) (n : BitVec 4) (v : Word) : (s.setRegOf m n v).pins = s.pins := rfl
@[simp] theorem State.setRegOf_mem (s : State) (m : Mode) (n : BitVec 4) (v : Word) : (s.setRegOf m n v).mem = s.mem := rfl
@[simp] theorem State.setRegOf_itcm0 (s : State) (m : Mode) (n : BitVec 4) (v : Word) : (s.setRegOf m n v).itcm0 = s.itcm0 := rfl
@[simp] theorem State.setRegOf_itcm1 (s : State) (m : Mode) (n : BitVec 4) (v : Word) : (s.setRegOf m n v).itcm1 = s.itcm1 := rfl
@[simp] theorem State.setRegOf_dtcm0 (s : State) (m : Mode) (n : BitVec 4) (v : Word) : (s.setRegOf m n v).dtcm0 = s.dtcm0 := rfl
@[simp] theorem State.setRegOf_dtcm1 (s : State) (m : Mode) (n : BitVec 4) (v : Word) : (s.setRegOf m n v).dtcm1 = s.dtcm1 := rfl
@[simp] theorem State.setRegOf_monitors (s : State) (m : Mode) (n : BitVec 4) (v : Word) : (s.setRegOf m n v).monitors = s.monitors := rfl
@[simp] theorem State.setRegOf_pendingAbort (s : State) (m : Mode) (n : BitVec 4) (v : Word) : (s.setRegOf m n v).pendingAbort = s.pendingAbort := rfl
@[simp] theorem State.setRegOf_activity (s : State) (m : Mode) (n : BitVec 4) (v : Word) : (s.setRegOf m n v).activity = s.activity := rfl
@[simp] theorem State.setRegOf_irqAck (s : State) (m : Mode) (n : BitVec 4) (v : Word) : (s.setRegOf m n v).irqAck = s.irqAck := rfl
@[simp] theorem State.setRegOf_trace (s : State) (m : Mode) (n : BitVec 4) (v : Word) : (s.setRegOf m n v).trace = s.trace := rfl
@[simp] theorem State.setRegOf_regions (s : State) (m : Mode) (n : BitVec 4) (v : Word) : (s.setRegOf m n v).regions = s.regions := rfl
@[simp] theorem State.setRegOf_freeCtr (s : State) (m : Mode) (n : BitVec 4) (v : Word) : (s.setRegOf m n v).freeCtr = s.freeCtr := rfl
@[simp] theorem State.setRegOf_agenda (s : State) (m : Mode) (n : BitVec 4) (v : Word) : (s.setRegOf m n v).agenda = s.agenda := rfl

/-! ### setReg -/

@[simp] theorem State.setReg_spsr (s : State) (n : BitVec 4) (v : Word) : (s.setReg n v).spsr = s.spsr := rfl
@[simp] theorem State.setReg_cpsr (s : State) (n : BitVec 4) (v : Word) : (s.setReg n v).cpsr = s.cpsr := rfl
@[simp] theorem State.setReg_pc (s : State) (n : BitVec 4) (v : Word) : (s.setReg n v).pc = s.pc := rfl
@[simp] theorem State.setReg_cp15 (s : State) (n : BitVec 4) (v : Word) : (s.setReg n v).cp15 = s.cp15 := rfl
@[simp] theorem State.setReg_dma (s : State) (n : BitVec 4) (v : Word) : (s.setReg n v).dma = s.dma := rfl
@[simp] theorem State.setReg_pmu (s : State) (n : BitVec 4) (v : Word) : (s.setReg n v).pmu = s.pmu := rfl
@[simp] theorem State.setReg_dbg (s : State) (n : BitVec 4) (v : Word) : (s.setReg n v).dbg = s.dbg := rfl
@[simp] theorem State.setReg_tap (s : State) (n : BitVec 4) (v : Word) : (s.setReg n v).tap = s.tap := rfl
@[simp] theorem State.setReg_pins (s : State) (n : BitVec 4) (v : Word) : (s.setReg n v).pins = s.pins := rfl
@[simp] theorem State.setReg_mem (s : State) (n : BitVec 4) (v : Word) : (s.setReg n v).mem = s.mem := rfl
@[simp] theorem State.setReg_itcm0 (s : State) (n : BitVec 4) (v : Word) : (s.setReg n v).itcm0 = s.itcm0 := rfl
@[simp] theorem State.setReg_itcm1 (s : State) (n : BitVec 4) (v : Word) : (s.setReg n v).itcm1 = s.itcm1 := rfl
@[simp] theorem State.setReg_dtcm0 (s : State) (n : BitVec 4) (v : Word) : (s.setReg n v).dtcm0 = s.dtcm0 := rfl
@[simp] theorem State.setReg_dtcm1 (s : State) (n : BitVec 4) (v : Word) : (s.setReg n v).dtcm1 = s.dtcm1 := rfl
@[simp] theorem State.setReg_monitors (s : State) (n : BitVec 4) (v : Word) : (s.setReg n v).monitors = s.monitors := rfl
@[simp] theorem State.setReg_pendingAbort (s : State) (n : BitVec 4) (v : Word) : (s.setReg n v).pendingAbort = s.pendingAbort := rfl
@[simp] theorem State.setReg_activity (s : State) (n : BitVec 4) (v : Word) : (s.setReg n v).activity = s.activity := rfl
@[simp] theorem State.setReg_irqAck (s : State) (n : BitVec 4) (v : Word) : (s.setReg n v).irqAck = s.irqAck := rfl
@[simp] theorem State.setReg_trace (s : State) (n : BitVec 4) (v : Word) : (s.setReg n v).trace = s.trace := rfl
@[simp] theorem State.setReg_regions (s : State) (n : BitVec 4) (v : Word) : (s.setReg n v).regions = s.regions := rfl
@[simp] theorem State.setReg_freeCtr (s : State) (n : BitVec 4) (v : Word) : (s.setReg n v).freeCtr = s.freeCtr := rfl
@[simp] theorem State.setReg_agenda (s : State) (n : BitVec 4) (v : Word) : (s.setReg n v).agenda = s.agenda := rfl

/-! ### setT -/

@[simp] theorem State.setT_regs (s : State) (b : Bool) : (s.setT b).regs = s.regs := rfl
@[simp] theorem State.setT_spsr (s : State) (b : Bool) : (s.setT b).spsr = s.spsr := rfl
@[simp] theorem State.setT_pc (s : State) (b : Bool) : (s.setT b).pc = s.pc := rfl
@[simp] theorem State.setT_cp15 (s : State) (b : Bool) : (s.setT b).cp15 = s.cp15 := rfl
@[simp] theorem State.setT_dma (s : State) (b : Bool) : (s.setT b).dma = s.dma := rfl
@[simp] theorem State.setT_pmu (s : State) (b : Bool) : (s.setT b).pmu = s.pmu := rfl
@[simp] theorem State.setT_dbg (s : State) (b : Bool) : (s.setT b).dbg = s.dbg := rfl
@[simp] theorem State.setT_tap (s : State) (b : Bool) : (s.setT b).tap = s.tap := rfl
@[simp] theorem State.setT_pins (s : State) (b : Bool) : (s.setT b).pins = s.pins := rfl
@[simp] theorem State.setT_mem (s : State) (b : Bool) : (s.setT b).mem = s.mem := rfl
@[simp] theorem State.setT_itcm0 (s : State) (b : Bool) : (s.setT b).itcm0 = s.itcm0 := rfl
@[simp] theorem State.setT_itcm1 (s : State) (b : Bool) : (s.setT b).itcm1 = s.itcm1 := rfl
@[simp] theorem State.setT_dtcm0 (s : State) (b : Bool) : (s.setT b).dtcm0 = s.dtcm0 := rfl
@[simp] theorem State.setT_dtcm1 (s : State) (b : Bool) : (s.setT b).dtcm1 = s.dtcm1 := rfl
@[simp] theorem State.setT_monitors (s : State) (b : Bool) : (s.setT b).monitors = s.monitors := rfl
@[simp] theorem State.setT_pendingAbort (s : State) (b : Bool) : (s.setT b).pendingAbort = s.pendingAbort := rfl
@[simp] theorem State.setT_activity (s : State) (b : Bool) : (s.setT b).activity = s.activity := rfl
@[simp] theorem State.setT_irqAck (s : State) (b : Bool) : (s.setT b).irqAck = s.irqAck := rfl
@[simp] theorem State.setT_trace (s : State) (b : Bool) : (s.setT b).trace = s.trace := rfl
@[simp] theorem State.setT_regions (s : State) (b : Bool) : (s.setT b).regions = s.regions := rfl
@[simp] theorem State.setT_freeCtr (s : State) (b : Bool) : (s.setT b).freeCtr = s.freeCtr := rfl
@[simp] theorem State.setT_agenda (s : State) (b : Bool) : (s.setT b).agenda = s.agenda := rfl

/-! ### setE -/

@[simp] theorem State.setE_regs (s : State) (b : Bool) : (s.setE b).regs = s.regs := rfl
@[simp] theorem State.setE_spsr (s : State) (b : Bool) : (s.setE b).spsr = s.spsr := rfl
@[simp] theorem State.setE_pc (s : State) (b : Bool) : (s.setE b).pc = s.pc := rfl
@[simp] theorem State.setE_cp15 (s : State) (b : Bool) : (s.setE b).cp15 = s.cp15 := rfl
@[simp] theorem State.setE_dma (s : State) (b : Bool) : (s.setE b).dma = s.dma := rfl
@[simp] theorem State.setE_pmu (s : State) (b : Bool) : (s.setE b).pmu = s.pmu := rfl
@[simp] theorem State.setE_dbg (s : State) (b : Bool) : (s.setE b).dbg = s.dbg := rfl
@[simp] theorem State.setE_tap (s : State) (b : Bool) : (s.setE b).tap = s.tap := rfl
@[simp] theorem State.setE_pins (s : State) (b : Bool) : (s.setE b).pins = s.pins := rfl
@[simp] theorem State.setE_mem (s : State) (b : Bool) : (s.setE b).mem = s.mem := rfl
@[simp] theorem State.setE_itcm0 (s : State) (b : Bool) : (s.setE b).itcm0 = s.itcm0 := rfl
@[simp] theorem State.setE_itcm1 (s : State) (b : Bool) : (s.setE b).itcm1 = s.itcm1 := rfl
@[simp] theorem State.setE_dtcm0 (s : State) (b : Bool) : (s.setE b).dtcm0 = s.dtcm0 := rfl
@[simp] theorem State.setE_dtcm1 (s : State) (b : Bool) : (s.setE b).dtcm1 = s.dtcm1 := rfl
@[simp] theorem State.setE_monitors (s : State) (b : Bool) : (s.setE b).monitors = s.monitors := rfl
@[simp] theorem State.setE_pendingAbort (s : State) (b : Bool) : (s.setE b).pendingAbort = s.pendingAbort := rfl
@[simp] theorem State.setE_activity (s : State) (b : Bool) : (s.setE b).activity = s.activity := rfl
@[simp] theorem State.setE_irqAck (s : State) (b : Bool) : (s.setE b).irqAck = s.irqAck := rfl
@[simp] theorem State.setE_trace (s : State) (b : Bool) : (s.setE b).trace = s.trace := rfl
@[simp] theorem State.setE_regions (s : State) (b : Bool) : (s.setE b).regions = s.regions := rfl
@[simp] theorem State.setE_freeCtr (s : State) (b : Bool) : (s.setE b).freeCtr = s.freeCtr := rfl
@[simp] theorem State.setE_agenda (s : State) (b : Bool) : (s.setE b).agenda = s.agenda := rfl

/-! ### setNzcv -/

@[simp] theorem State.setNzcv_regs (s : State) (f : Nzcv) : (s.setNzcv f).regs = s.regs := rfl
@[simp] theorem State.setNzcv_spsr (s : State) (f : Nzcv) : (s.setNzcv f).spsr = s.spsr := rfl
@[simp] theorem State.setNzcv_pc (s : State) (f : Nzcv) : (s.setNzcv f).pc = s.pc := rfl
@[simp] theorem State.setNzcv_cp15 (s : State) (f : Nzcv) : (s.setNzcv f).cp15 = s.cp15 := rfl
@[simp] theorem State.setNzcv_dma (s : State) (f : Nzcv) : (s.setNzcv f).dma = s.dma := rfl
@[simp] theorem State.setNzcv_pmu (s : State) (f : Nzcv) : (s.setNzcv f).pmu = s.pmu := rfl
@[simp] theorem State.setNzcv_dbg (s : State) (f : Nzcv) : (s.setNzcv f).dbg = s.dbg := rfl
@[simp] theorem State.setNzcv_tap (s : State) (f : Nzcv) : (s.setNzcv f).tap = s.tap := rfl
@[simp] theorem State.setNzcv_pins (s : State) (f : Nzcv) : (s.setNzcv f).pins = s.pins := rfl
@[simp] theorem State.setNzcv_mem (s : State) (f : Nzcv) : (s.setNzcv f).mem = s.mem := rfl
@[simp] theorem State.setNzcv_itcm0 (s : State) (f : Nzcv) : (s.setNzcv f).itcm0 = s.itcm0 := rfl
@[simp] theorem State.setNzcv_itcm1 (s : State) (f : Nzcv) : (s.setNzcv f).itcm1 = s.itcm1 := rfl
@[simp] theorem State.setNzcv_dtcm0 (s : State) (f : Nzcv) : (s.setNzcv f).dtcm0 = s.dtcm0 := rfl
@[simp] theorem State.setNzcv_dtcm1 (s : State) (f : Nzcv) : (s.setNzcv f).dtcm1 = s.dtcm1 := rfl
@[simp] theorem State.setNzcv_monitors (s : State) (f : Nzcv) : (s.setNzcv f).monitors = s.monitors := rfl
@[simp] theorem State.setNzcv_pendingAbort (s : State) (f : Nzcv) : (s.setNzcv f).pendingAbort = s.pendingAbort := rfl
@[simp] theorem State.setNzcv_activity (s : State) (f : Nzcv) : (s.setNzcv f).activity = s.activity := rfl
@[simp] theorem State.setNzcv_irqAck (s : State) (f : Nzcv) : (s.setNzcv f).irqAck = s.irqAck := rfl
@[simp] theorem State.setNzcv_trace (s : State) (f : Nzcv) : (s.setNzcv f).trace = s.trace := rfl
@[simp] theorem State.setNzcv_regions (s : State) (f : Nzcv) : (s.setNzcv f).regions = s.regions := rfl
@[simp] theorem State.setNzcv_freeCtr (s : State) (f : Nzcv) : (s.setNzcv f).freeCtr = s.freeCtr := rfl
@[simp] theorem State.setNzcv_agenda (s : State) (f : Nzcv) : (s.setNzcv f).agenda = s.agenda := rfl

/-! ### setGe -/

@[simp] theorem State.setGe_regs (s : State) (g : BitVec 4) : (s.setGe g).regs = s.regs := rfl
@[simp] theorem State.setGe_spsr (s : State) (g : BitVec 4) : (s.setGe g).spsr = s.spsr := rfl
@[simp] theorem State.setGe_pc (s : State) (g : BitVec 4) : (s.setGe g).pc = s.pc := rfl
@[simp] theorem State.setGe_cp15 (s : State) (g : BitVec 4) : (s.setGe g).cp15 = s.cp15 := rfl
@[simp] theorem State.setGe_dma (s : State) (g : BitVec 4) : (s.setGe g).dma = s.dma := rfl
@[simp] theorem State.setGe_pmu (s : State) (g : BitVec 4) : (s.setGe g).pmu = s.pmu := rfl
@[simp] theorem State.setGe_dbg (s : State) (g : BitVec 4) : (s.setGe g).dbg = s.dbg := rfl
@[simp] theorem State.setGe_tap (s : State) (g : BitVec 4) : (s.setGe g).tap = s.tap := rfl
@[simp] theorem State.setGe_pins (s : State) (g : BitVec 4) : (s.setGe g).pins = s.pins := rfl
@[simp] theorem State.setGe_mem (s : State) (g : BitVec 4) : (s.setGe g).mem = s.mem := rfl
@[simp] theorem State.setGe_itcm0 (s : State) (g : BitVec 4) : (s.setGe g).itcm0 = s.itcm0 := rfl
@[simp] theorem State.setGe_itcm1 (s : State) (g : BitVec 4) : (s.setGe g).itcm1 = s.itcm1 := rfl
@[simp] theorem State.setGe_dtcm0 (s : State) (g : BitVec 4) : (s.setGe g).dtcm0 = s.dtcm0 := rfl
@[simp] theorem State.setGe_dtcm1 (s : State) (g : BitVec 4) : (s.setGe g).dtcm1 = s.dtcm1 := rfl
@[simp] theorem State.setGe_monitors (s : State) (g : BitVec 4) : (s.setGe g).monitors = s.monitors := rfl
@[simp] theorem State.setGe_pendingAbort (s : State) (g : BitVec 4) : (s.setGe g).pendingAbort = s.pendingAbort := rfl
@[simp] theorem State.setGe_activity (s : State) (g : BitVec 4) : (s.setGe g).activity = s.activity := rfl
@[simp] theorem State.setGe_irqAck (s : State) (g : BitVec 4) : (s.setGe g).irqAck = s.irqAck := rfl
@[simp] theorem State.setGe_trace (s : State) (g : BitVec 4) : (s.setGe g).trace = s.trace := rfl
@[simp] theorem State.setGe_regions (s : State) (g : BitVec 4) : (s.setGe g).regions = s.regions := rfl
@[simp] theorem State.setGe_freeCtr (s : State) (g : BitVec 4) : (s.setGe g).freeCtr = s.freeCtr := rfl
@[simp] theorem State.setGe_agenda (s : State) (g : BitVec 4) : (s.setGe g).agenda = s.agenda := rfl

/-! ### setDscrBit -/

@[simp] theorem State.setDscrBit_regs (s : State) (k : Nat) (b : Bool) : (s.setDscrBit k b).regs = s.regs := rfl
@[simp] theorem State.setDscrBit_spsr (s : State) (k : Nat) (b : Bool) : (s.setDscrBit k b).spsr = s.spsr := rfl
@[simp] theorem State.setDscrBit_cpsr (s : State) (k : Nat) (b : Bool) : (s.setDscrBit k b).cpsr = s.cpsr := rfl
@[simp] theorem State.setDscrBit_pc (s : State) (k : Nat) (b : Bool) : (s.setDscrBit k b).pc = s.pc := rfl
@[simp] theorem State.setDscrBit_cp15 (s : State) (k : Nat) (b : Bool) : (s.setDscrBit k b).cp15 = s.cp15 := rfl
@[simp] theorem State.setDscrBit_dma (s : State) (k : Nat) (b : Bool) : (s.setDscrBit k b).dma = s.dma := rfl
@[simp] theorem State.setDscrBit_pmu (s : State) (k : Nat) (b : Bool) : (s.setDscrBit k b).pmu = s.pmu := rfl
@[simp] theorem State.setDscrBit_tap (s : State) (k : Nat) (b : Bool) : (s.setDscrBit k b).tap = s.tap := rfl
@[simp] theorem State.setDscrBit_pins (s : State) (k : Nat) (b : Bool) : (s.setDscrBit k b).pins = s.pins := rfl
@[simp] theorem State.setDscrBit_mem (s : State) (k : Nat) (b : Bool) : (s.setDscrBit k b).mem = s.mem := rfl
@[simp] theorem State.setDscrBit_itcm0 (s : State) (k : Nat) (b : Bool) : (s.setDscrBit k b).itcm0 = s.itcm0 := rfl
@[simp] theorem State.setDscrBit_itcm1 (s : State) (k : Nat) (b : Bool) : (s.setDscrBit k b).itcm1 = s.itcm1 := rfl
@[simp] theorem State.setDscrBit_dtcm0 (s : State) (k : Nat) (b : Bool) : (s.setDscrBit k b).dtcm0 = s.dtcm0 := rfl
@[simp] theorem State.setDscrBit_dtcm1 (s : State) (k : Nat) (b : Bool) : (s.setDscrBit k b).dtcm1 = s.dtcm1 := rfl
@[simp] theorem State.setDscrBit_monitors (s : State) (k : Nat) (b : Bool) : (s.setDscrBit k b).monitors = s.monitors := rfl
@[simp] theorem State.setDscrBit_pendingAbort (s : State) (k : Nat) (b : Bool) : (s.setDscrBit k b).pendingAbort = s.pendingAbort := rfl
@[simp] theorem State.setDscrBit_activity (s : State) (k : Nat) (b : Bool) : (s.setDscrBit k b).activity = s.activity := rfl
@[simp] theorem State.setDscrBit_irqAck (s : State) (k : Nat) (b : Bool) : (s.setDscrBit k b).irqAck = s.irqAck := rfl
@[simp] theorem State.setDscrBit_trace (s : State) (k : Nat) (b : Bool) : (s.setDscrBit k b).trace = s.trace := rfl
@[simp] theorem State.setDscrBit_regions (s : State) (k : Nat) (b : Bool) : (s.setDscrBit k b).regions = s.regions := rfl
@[simp] theorem State.setDscrBit_freeCtr (s : State) (k : Nat) (b : Bool) : (s.setDscrBit k b).freeCtr = s.freeCtr := rfl
@[simp] theorem State.setDscrBit_agenda (s : State) (k : Nat) (b : Bool) : (s.setDscrBit k b).agenda = s.agenda := rfl

/-! ### setMoe -/

@[simp] theorem State.setMoe_regs (s : State) (c : DebugCause) : (s.setMoe c).regs = s.regs := rfl
@[simp] theorem State.setMoe_spsr (s : State) (c : DebugCause) : (s.setMoe c).spsr = s.spsr := rfl
@[simp] theorem State.setMoe_cpsr (s : State) (c : DebugCause) : (s.setMoe c).cpsr = s.cpsr := rfl
@[simp] theorem State.setMoe_pc (s : State) (c : DebugCause) : (s.setMoe c).pc = s.pc := rfl
@[simp] theorem State.setMoe_cp15 (s : State) (c : DebugCause) : (s.setMoe c).cp15 = s.cp15 := rfl
@[simp] theorem State.setMoe_dma (s : State) (c : DebugCause) : (s.setMoe c).dma = s.dma := rfl
@[simp] theorem State.setMoe_pmu (s : State) (c : DebugCause) : (s.setMoe c).pmu = s.pmu := rfl
@[simp] theorem State.setMoe_tap (s : State) (c : DebugCause) : (s.setMoe c).tap = s.tap := rfl
@[simp] theorem State.setMoe_pins (s : State) (c : DebugCause) : (s.setMoe c).pins = s.pins := rfl
@[simp] theorem State.setMoe_mem (s : State) (c : DebugCause) : (s.setMoe c).mem = s.mem := rfl
@[simp] theorem State.setMoe_itcm0 (s : State) (c : DebugCause) : (s.setMoe c).itcm0 = s.itcm0 := rfl
@[simp] theorem State.setMoe_itcm1 (s : State) (c : DebugCause) : (s.setMoe c).itcm1 = s.itcm1 := rfl
@[simp] theorem State.setMoe_dtcm0 (s : State) (c : DebugCause) : (s.setMoe c).dtcm0 = s.dtcm0 := rfl
@[simp] theorem State.setMoe_dtcm1 (s : State) (c : DebugCause) : (s.setMoe c).dtcm1 = s.dtcm1 := rfl
@[simp] theorem State.setMoe_monitors (s : State) (c : DebugCause) : (s.setMoe c).monitors = s.monitors := rfl
@[simp] theorem State.setMoe_pendingAbort (s : State) (c : DebugCause) : (s.setMoe c).pendingAbort = s.pendingAbort := rfl
@[simp] theorem State.setMoe_activity (s : State) (c : DebugCause) : (s.setMoe c).activity = s.activity := rfl
@[simp] theorem State.setMoe_irqAck (s : State) (c : DebugCause) : (s.setMoe c).irqAck = s.irqAck := rfl
@[simp] theorem State.setMoe_trace (s : State) (c : DebugCause) : (s.setMoe c).trace = s.trace := rfl
@[simp] theorem State.setMoe_regions (s : State) (c : DebugCause) : (s.setMoe c).regions = s.regions := rfl
@[simp] theorem State.setMoe_freeCtr (s : State) (c : DebugCause) : (s.setMoe c).freeCtr = s.freeCtr := rfl
@[simp] theorem State.setMoe_agenda (s : State) (c : DebugCause) : (s.setMoe c).agenda = s.agenda := rfl

/-! ### setDataFault -/

@[simp] theorem State.setDataFault_regs (s : State) (ns : Bool) (dfsr far : Word) : (s.setDataFault ns dfsr far).regs = s.regs := rfl
@[simp] theorem State.setDataFault_spsr (s : State) (ns : Bool) (dfsr far : Word) : (s.setDataFault ns dfsr far).spsr = s.spsr := rfl
@[simp] theorem State.setDataFault_cpsr (s : State) (ns : Bool) (dfsr far : Word) : (s.setDataFault ns dfsr far).cpsr = s.cpsr := rfl
@[simp] theorem State.setDataFault_pc (s : State) (ns : Bool) (dfsr far : Word) : (s.setDataFault ns dfsr far).pc = s.pc := rfl
@[simp] theorem State.setDataFault_dma (s : State) (ns : Bool) (dfsr far : Word) : (s.setDataFault ns dfsr far).dma = s.dma := rfl
@[simp] theorem State.setDataFault_pmu (s : State) (ns : Bool) (dfsr far : Word) : (s.setDataFault ns dfsr far).pmu = s.pmu := rfl
@[simp] theorem State.setDataFault_dbg (s : State) (ns : Bool) (dfsr far : Word) : (s.setDataFault ns dfsr far).dbg = s.dbg := rfl
@[simp] theorem State.setDataFault_tap (s : State) (ns : Bool) (dfsr far : Word) : (s.setDataFault ns dfsr far).tap = s.tap := rfl
@[simp] theorem State.setDataFault_pins (s : State) (ns : Bool) (dfsr far : Word) : (s.setDataFault ns dfsr far).pins = s.pins := rfl
@[simp] theorem State.setDataFault_mem (s : State) (ns : Bool) (dfsr far : Word) : (s.setDataFault ns dfsr far).mem = s.mem := rfl
@[simp] theorem State.setDataFault_itcm0 (s : State) (ns : Bool) (dfsr far : Word) : (s.setDataFault ns dfsr far).itcm0 = s.itcm0 := rfl
@[simp] theorem State.setDataFault_itcm1 (s : State) (ns : Bool) (dfsr far : Word) : (s.setDataFault ns dfsr far).itcm1 = s.itcm1 := rfl
@[simp] theorem State.setDataFault_dtcm0 (s : State) (ns : Bool) (dfsr far : Word) : (s.setDataFault ns dfsr far).dtcm0 = s.dtcm0 := rfl
@[simp] theorem State.setDataFault_dtcm1 (s : State) (ns : Bool) (dfsr far : Word) : (s.setDataFault ns dfsr far).dtcm1 = s.dtcm1 := rfl
@[simp] theorem State.setDataFault_monitors (s : State) (ns : Bool) (dfsr far : Word) : (s.setDataFault ns dfsr far).monitors = s.monitors := rfl
@[simp] theorem State.setDataFault_pendingAbort (s : State) (ns : Bool) (dfsr far : Word) : (s.setDataFault ns dfsr far).pendingAbort = s.pendingAbort := rfl
@[simp] theorem State.setDataFault_activity (s : State) (ns : Bool) (dfsr far : Word) : (s.setDataFault ns dfsr far).activity = s.activity := rfl
@[simp] theorem State.setDataFault_irqAck (s : State) (ns : Bool) (dfsr far : Word) : (s.setDataFault ns dfsr far).irqAck = s.irqAck := rfl
@[simp] theorem State.setDataFault_trace (s : State) (ns : Bool) (dfsr far : Word) : (s.setDataFault ns dfsr far).trace = s.trace := rfl
@[simp] theorem State.setDataFault_regions (s : State) (ns : Bool) (dfsr far : Word) : (s.setDataFault ns dfsr far).regions = s.regions := rfl
@[simp] theorem State.setDataFault_freeCtr (s : State) (ns : Bool) (dfsr far : Word) : (s.setDataFault ns dfsr far).freeCtr = s.freeCtr := rfl
@[simp] theorem State.setDataFault_agenda (s : State) (ns : Bool) (dfsr far : Word) : (s.setDataFault ns dfsr far).agenda = s.agenda := rfl

/-! ### setIfsr -/

@[simp] theorem State.setIfsr_regs (s : State) (ns : Bool) (v : Word) : (s.setIfsr ns v).regs = s.regs := rfl
@[simp] theorem State.setIfsr_spsr (s : State) (ns : Bool) (v : Word) : (s.setIfsr ns v).spsr = s.spsr := rfl
@[simp] theorem State.setIfsr_cpsr (s : State) (ns : Bool) (v : Word) : (s.setIfsr ns v).cpsr = s.cpsr := rfl
@[simp] theorem State.setIfsr_pc (s : State) (ns : Bool) (v : Word) : (s.setIfsr ns v).pc = s.pc := rfl
@[simp] theorem State.setIfsr_dma (s : State) (ns : Bool) (v : Word) : (s.setIfsr ns v).dma = s.dma := rfl
@[simp] theorem State.setIfsr_pmu (s : State) (ns : Bool) (v : Word) : (s.setIfsr ns v).pmu = s.pmu := rfl
@[simp] theorem State.setIfsr_dbg (s : State) (ns : Bool) (v : Word) : (s.setIfsr ns v).dbg = s.dbg := rfl
@[simp] theorem State.setIfsr_tap (s : State) (ns : Bool) (v : Word) : (s.setIfsr ns v).tap = s.tap := rfl
@[simp] theorem State.setIfsr_pins (s : State) (ns : Bool) (v : Word) : (s.setIfsr ns v).pins = s.pins := rfl
@[simp] theorem State.setIfsr_mem (s : State) (ns : Bool) (v : Word) : (s.setIfsr ns v).mem = s.mem := rfl
@[simp] theorem State.setIfsr_itcm0 (s : State) (ns : Bool) (v : Word) : (s.setIfsr ns v).itcm0 = s.itcm0 := rfl
@[simp] theorem State.setIfsr_itcm1 (s : State) (ns : Bool) (v : Word) : (s.setIfsr ns v).itcm1 = s.itcm1 := rfl
@[simp] theorem State.setIfsr_dtcm0 (s : State) (ns : Bool) (v : Word) : (s.setIfsr ns v).dtcm0 = s.dtcm0 := rfl
@[simp] theorem State.setIfsr_dtcm1 (s : State) (ns : Bool) (v : Word) : (s.setIfsr ns v).dtcm1 = s.dtcm1 := rfl
@[simp] theorem State.setIfsr_monitors (s : State) (ns : Bool) (v : Word) : (s.setIfsr ns v).monitors = s.monitors := rfl
@[simp] theorem State.setIfsr_pendingAbort (s : State) (ns : Bool) (v : Word) : (s.setIfsr ns v).pendingAbort = s.pendingAbort := rfl
@[simp] theorem State.setIfsr_activity (s : State) (ns : Bool) (v : Word) : (s.setIfsr ns v).activity = s.activity := rfl
@[simp] theorem State.setIfsr_irqAck (s : State) (ns : Bool) (v : Word) : (s.setIfsr ns v).irqAck = s.irqAck := rfl
@[simp] theorem State.setIfsr_trace (s : State) (ns : Bool) (v : Word) : (s.setIfsr ns v).trace = s.trace := rfl
@[simp] theorem State.setIfsr_regions (s : State) (ns : Bool) (v : Word) : (s.setIfsr ns v).regions = s.regions := rfl
@[simp] theorem State.setIfsr_freeCtr (s : State) (ns : Bool) (v : Word) : (s.setIfsr ns v).freeCtr = s.freeCtr := rfl
@[simp] theorem State.setIfsr_agenda (s : State) (ns : Bool) (v : Word) : (s.setIfsr ns v).agenda = s.agenda := rfl

/-! ### setIfar -/

@[simp] theorem State.setIfar_regs (s : State) (ns : Bool) (v : Word) : (s.setIfar ns v).regs = s.regs := rfl
@[simp] theorem State.setIfar_spsr (s : State) (ns : Bool) (v : Word) : (s.setIfar ns v).spsr = s.spsr := rfl
@[simp] theorem State.setIfar_cpsr (s : State) (ns : Bool) (v : Word) : (s.setIfar ns v).cpsr = s.cpsr := rfl
@[simp] theorem State.setIfar_pc (s : State) (ns : Bool) (v : Word) : (s.setIfar ns v).pc = s.pc := rfl
@[simp] theorem State.setIfar_dma (s : State) (ns : Bool) (v : Word) : (s.setIfar ns v).dma = s.dma := rfl
@[simp] theorem State.setIfar_pmu (s : State) (ns : Bool) (v : Word) : (s.setIfar ns v).pmu = s.pmu := rfl
@[simp] theorem State.setIfar_dbg (s : State) (ns : Bool) (v : Word) : (s.setIfar ns v).dbg = s.dbg := rfl
@[simp] theorem State.setIfar_tap (s : State) (ns : Bool) (v : Word) : (s.setIfar ns v).tap = s.tap := rfl
@[simp] theorem State.setIfar_pins (s : State) (ns : Bool) (v : Word) : (s.setIfar ns v).pins = s.pins := rfl
@[simp] theorem State.setIfar_mem (s : State) (ns : Bool) (v : Word) : (s.setIfar ns v).mem = s.mem := rfl
@[simp] theorem State.setIfar_itcm0 (s : State) (ns : Bool) (v : Word) : (s.setIfar ns v).itcm0 = s.itcm0 := rfl
@[simp] theorem State.setIfar_itcm1 (s : State) (ns : Bool) (v : Word) : (s.setIfar ns v).itcm1 = s.itcm1 := rfl
@[simp] theorem State.setIfar_dtcm0 (s : State) (ns : Bool) (v : Word) : (s.setIfar ns v).dtcm0 = s.dtcm0 := rfl
@[simp] theorem State.setIfar_dtcm1 (s : State) (ns : Bool) (v : Word) : (s.setIfar ns v).dtcm1 = s.dtcm1 := rfl
@[simp] theorem State.setIfar_monitors (s : State) (ns : Bool) (v : Word) : (s.setIfar ns v).monitors = s.monitors := rfl
@[simp] theorem State.setIfar_pendingAbort (s : State) (ns : Bool) (v : Word) : (s.setIfar ns v).pendingAbort = s.pendingAbort := rfl
@[simp] theorem State.setIfar_activity (s : State) (ns : Bool) (v : Word) : (s.setIfar ns v).activity = s.activity := rfl
@[simp] theorem State.setIfar_irqAck (s : State) (ns : Bool) (v : Word) : (s.setIfar ns v).irqAck = s.irqAck := rfl
@[simp] theorem State.setIfar_trace (s : State) (ns : Bool) (v : Word) : (s.setIfar ns v).trace = s.trace := rfl
@[simp] theorem State.setIfar_regions (s : State) (ns : Bool) (v : Word) : (s.setIfar ns v).regions = s.regions := rfl
@[simp] theorem State.setIfar_freeCtr (s : State) (ns : Bool) (v : Word) : (s.setIfar ns v).freeCtr = s.freeCtr := rfl
@[simp] theorem State.setIfar_agenda (s : State) (ns : Bool) (v : Word) : (s.setIfar ns v).agenda = s.agenda := rfl

/-! ### setPar -/

@[simp] theorem State.setPar_regs (s : State) (v : Word) : (s.setPar v).regs = s.regs := rfl
@[simp] theorem State.setPar_spsr (s : State) (v : Word) : (s.setPar v).spsr = s.spsr := rfl
@[simp] theorem State.setPar_cpsr (s : State) (v : Word) : (s.setPar v).cpsr = s.cpsr := rfl
@[simp] theorem State.setPar_pc (s : State) (v : Word) : (s.setPar v).pc = s.pc := rfl
@[simp] theorem State.setPar_dma (s : State) (v : Word) : (s.setPar v).dma = s.dma := rfl
@[simp] theorem State.setPar_pmu (s : State) (v : Word) : (s.setPar v).pmu = s.pmu := rfl
@[simp] theorem State.setPar_dbg (s : State) (v : Word) : (s.setPar v).dbg = s.dbg := rfl
@[simp] theorem State.setPar_tap (s : State) (v : Word) : (s.setPar v).tap = s.tap := rfl
@[simp] theorem State.setPar_pins (s : State) (v : Word) : (s.setPar v).pins = s.pins := rfl
@[simp] theorem State.setPar_mem (s : State) (v : Word) : (s.setPar v).mem = s.mem := rfl
@[simp] theorem State.setPar_itcm0 (s : State) (v : Word) : (s.setPar v).itcm0 = s.itcm0 := rfl
@[simp] theorem State.setPar_itcm1 (s : State) (v : Word) : (s.setPar v).itcm1 = s.itcm1 := rfl
@[simp] theorem State.setPar_dtcm0 (s : State) (v : Word) : (s.setPar v).dtcm0 = s.dtcm0 := rfl
@[simp] theorem State.setPar_dtcm1 (s : State) (v : Word) : (s.setPar v).dtcm1 = s.dtcm1 := rfl
@[simp] theorem State.setPar_monitors (s : State) (v : Word) : (s.setPar v).monitors = s.monitors := rfl
@[simp] theorem State.setPar_pendingAbort (s : State) (v : Word) : (s.setPar v).pendingAbort = s.pendingAbort := rfl
@[simp] theorem State.setPar_activity (s : State) (v : Word) : (s.setPar v).activity = s.activity := rfl
@[simp] theorem State.setPar_irqAck (s : State) (v : Word) : (s.setPar v).irqAck = s.irqAck := rfl
@[simp] theorem State.setPar_trace (s : State) (v : Word) : (s.setPar v).trace = s.trace := rfl
@[simp] theorem State.setPar_regions (s : State) (v : Word) : (s.setPar v).regions = s.regions := rfl
@[simp] theorem State.setPar_freeCtr (s : State) (v : Word) : (s.setPar v).freeCtr = s.freeCtr := rfl
@[simp] theorem State.setPar_agenda (s : State) (v : Word) : (s.setPar v).agenda = s.agenda := rfl

/-! ### updateBank -/

@[simp] theorem State.updateBank_regs (s : State) (f : Banked → Banked) : (s.updateBank f).regs = s.regs := rfl
@[simp] theorem State.updateBank_spsr (s : State) (f : Banked → Banked) : (s.updateBank f).spsr = s.spsr := rfl
@[simp] theorem State.updateBank_cpsr (s : State) (f : Banked → Banked) : (s.updateBank f).cpsr = s.cpsr := rfl
@[simp] theorem State.updateBank_pc (s : State) (f : Banked → Banked) : (s.updateBank f).pc = s.pc := rfl
@[simp] theorem State.updateBank_dma (s : State) (f : Banked → Banked) : (s.updateBank f).dma = s.dma := rfl
@[simp] theorem State.updateBank_pmu (s : State) (f : Banked → Banked) : (s.updateBank f).pmu = s.pmu := rfl
@[simp] theorem State.updateBank_dbg (s : State) (f : Banked → Banked) : (s.updateBank f).dbg = s.dbg := rfl
@[simp] theorem State.updateBank_tap (s : State) (f : Banked → Banked) : (s.updateBank f).tap = s.tap := rfl
@[simp] theorem State.updateBank_pins (s : State) (f : Banked → Banked) : (s.updateBank f).pins = s.pins := rfl
@[simp] theorem State.updateBank_mem (s : State) (f : Banked → Banked) : (s.updateBank f).mem = s.mem := rfl
@[simp] theorem State.updateBank_itcm0 (s : State) (f : Banked → Banked) : (s.updateBank f).itcm0 = s.itcm0 := rfl
@[simp] theorem State.updateBank_itcm1 (s : State) (f : Banked → Banked) : (s.updateBank f).itcm1 = s.itcm1 := rfl
@[simp] theorem State.updateBank_dtcm0 (s : State) (f : Banked → Banked) : (s.updateBank f).dtcm0 = s.dtcm0 := rfl
@[simp] theorem State.updateBank_dtcm1 (s : State) (f : Banked → Banked) : (s.updateBank f).dtcm1 = s.dtcm1 := rfl
@[simp] theorem State.updateBank_monitors (s : State) (f : Banked → Banked) : (s.updateBank f).monitors = s.monitors := rfl
@[simp] theorem State.updateBank_pendingAbort (s : State) (f : Banked → Banked) : (s.updateBank f).pendingAbort = s.pendingAbort := rfl
@[simp] theorem State.updateBank_activity (s : State) (f : Banked → Banked) : (s.updateBank f).activity = s.activity := rfl
@[simp] theorem State.updateBank_irqAck (s : State) (f : Banked → Banked) : (s.updateBank f).irqAck = s.irqAck := rfl
@[simp] theorem State.updateBank_trace (s : State) (f : Banked → Banked) : (s.updateBank f).trace = s.trace := rfl
@[simp] theorem State.updateBank_regions (s : State) (f : Banked → Banked) : (s.updateBank f).regions = s.regions := rfl
@[simp] theorem State.updateBank_freeCtr (s : State) (f : Banked → Banked) : (s.updateBank f).freeCtr = s.freeCtr := rfl
@[simp] theorem State.updateBank_agenda (s : State) (f : Banked → Banked) : (s.updateBank f).agenda = s.agenda := rfl

/-! ### updateCp15 -/

@[simp] theorem State.updateCp15_regs (s : State) (f : Cp15 → Cp15) : (s.updateCp15 f).regs = s.regs := rfl
@[simp] theorem State.updateCp15_spsr (s : State) (f : Cp15 → Cp15) : (s.updateCp15 f).spsr = s.spsr := rfl
@[simp] theorem State.updateCp15_cpsr (s : State) (f : Cp15 → Cp15) : (s.updateCp15 f).cpsr = s.cpsr := rfl
@[simp] theorem State.updateCp15_pc (s : State) (f : Cp15 → Cp15) : (s.updateCp15 f).pc = s.pc := rfl
@[simp] theorem State.updateCp15_dma (s : State) (f : Cp15 → Cp15) : (s.updateCp15 f).dma = s.dma := rfl
@[simp] theorem State.updateCp15_pmu (s : State) (f : Cp15 → Cp15) : (s.updateCp15 f).pmu = s.pmu := rfl
@[simp] theorem State.updateCp15_dbg (s : State) (f : Cp15 → Cp15) : (s.updateCp15 f).dbg = s.dbg := rfl
@[simp] theorem State.updateCp15_tap (s : State) (f : Cp15 → Cp15) : (s.updateCp15 f).tap = s.tap := rfl
@[simp] theorem State.updateCp15_pins (s : State) (f : Cp15 → Cp15) : (s.updateCp15 f).pins = s.pins := rfl
@[simp] theorem State.updateCp15_mem (s : State) (f : Cp15 → Cp15) : (s.updateCp15 f).mem = s.mem := rfl
@[simp] theorem State.updateCp15_itcm0 (s : State) (f : Cp15 → Cp15) : (s.updateCp15 f).itcm0 = s.itcm0 := rfl
@[simp] theorem State.updateCp15_itcm1 (s : State) (f : Cp15 → Cp15) : (s.updateCp15 f).itcm1 = s.itcm1 := rfl
@[simp] theorem State.updateCp15_dtcm0 (s : State) (f : Cp15 → Cp15) : (s.updateCp15 f).dtcm0 = s.dtcm0 := rfl
@[simp] theorem State.updateCp15_dtcm1 (s : State) (f : Cp15 → Cp15) : (s.updateCp15 f).dtcm1 = s.dtcm1 := rfl
@[simp] theorem State.updateCp15_monitors (s : State) (f : Cp15 → Cp15) : (s.updateCp15 f).monitors = s.monitors := rfl
@[simp] theorem State.updateCp15_pendingAbort (s : State) (f : Cp15 → Cp15) : (s.updateCp15 f).pendingAbort = s.pendingAbort := rfl
@[simp] theorem State.updateCp15_activity (s : State) (f : Cp15 → Cp15) : (s.updateCp15 f).activity = s.activity := rfl
@[simp] theorem State.updateCp15_irqAck (s : State) (f : Cp15 → Cp15) : (s.updateCp15 f).irqAck = s.irqAck := rfl
@[simp] theorem State.updateCp15_trace (s : State) (f : Cp15 → Cp15) : (s.updateCp15 f).trace = s.trace := rfl
@[simp] theorem State.updateCp15_regions (s : State) (f : Cp15 → Cp15) : (s.updateCp15 f).regions = s.regions := rfl
@[simp] theorem State.updateCp15_freeCtr (s : State) (f : Cp15 → Cp15) : (s.updateCp15 f).freeCtr = s.freeCtr := rfl
@[simp] theorem State.updateCp15_agenda (s : State) (f : Cp15 → Cp15) : (s.updateCp15 f).agenda = s.agenda := rfl

/-! ### setLocal -/

@[simp] theorem State.setLocal_regs (s : State) (b : Bool) : (s.setLocal b).regs = s.regs := rfl
@[simp] theorem State.setLocal_spsr (s : State) (b : Bool) : (s.setLocal b).spsr = s.spsr := rfl
@[simp] theorem State.setLocal_cpsr (s : State) (b : Bool) : (s.setLocal b).cpsr = s.cpsr := rfl
@[simp] theorem State.setLocal_pc (s : State) (b : Bool) : (s.setLocal b).pc = s.pc := rfl
@[simp] theorem State.setLocal_cp15 (s : State) (b : Bool) : (s.setLocal b).cp15 = s.cp15 := rfl
@[simp] theorem State.setLocal_dma (s : State) (b : Bool) : (s.setLocal b).dma = s.dma := rfl
@[simp] theorem State.setLocal_pmu (s : State) (b : Bool) : (s.setLocal b).pmu = s.pmu := rfl
@[simp] theorem State.setLocal_dbg (s : State) (b : Bool) : (s.setLocal b).dbg = s.dbg := rfl
@[simp] theorem State.setLocal_tap (s : State) (b : Bool) : (s.setLocal b).tap = s.tap := rfl
@[simp] theorem State.setLocal_pins (s : State) (b : Bool) : (s.setLocal b).pins = s.pins := rfl
@[simp] theorem State.setLocal_mem (s : State) (b : Bool) : (s.setLocal b).mem = s.mem := rfl
@[simp] theorem State.setLocal_itcm0 (s : State) (b : Bool) : (s.setLocal b).itcm0 = s.itcm0 := rfl
@[simp] theorem State.setLocal_itcm1 (s : State) (b : Bool) : (s.setLocal b).itcm1 = s.itcm1 := rfl
@[simp] theorem State.setLocal_dtcm0 (s : State) (b : Bool) : (s.setLocal b).dtcm0 = s.dtcm0 := rfl
@[simp] theorem State.setLocal_dtcm1 (s : State) (b : Bool) : (s.setLocal b).dtcm1 = s.dtcm1 := rfl
@[simp] theorem State.setLocal_pendingAbort (s : State) (b : Bool) : (s.setLocal b).pendingAbort = s.pendingAbort := rfl
@[simp] theorem State.setLocal_activity (s : State) (b : Bool) : (s.setLocal b).activity = s.activity := rfl
@[simp] theorem State.setLocal_irqAck (s : State) (b : Bool) : (s.setLocal b).irqAck = s.irqAck := rfl
@[simp] theorem State.setLocal_trace (s : State) (b : Bool) : (s.setLocal b).trace = s.trace := rfl
@[simp] theorem State.setLocal_regions (s : State) (b : Bool) : (s.setLocal b).regions = s.regions := rfl
@[simp] theorem State.setLocal_freeCtr (s : State) (b : Bool) : (s.setLocal b).freeCtr = s.freeCtr := rfl
@[simp] theorem State.setLocal_agenda (s : State) (b : Bool) : (s.setLocal b).agenda = s.agenda := rfl

/-! ### setDma -/

@[simp] theorem State.setDma_regs (s : State) (n : Bool) (c : DmaChannel) : (s.setDma n c).regs = s.regs := rfl
@[simp] theorem State.setDma_spsr (s : State) (n : Bool) (c : DmaChannel) : (s.setDma n c).spsr = s.spsr := rfl
@[simp] theorem State.setDma_cpsr (s : State) (n : Bool) (c : DmaChannel) : (s.setDma n c).cpsr = s.cpsr := rfl
@[simp] theorem State.setDma_pc (s : State) (n : Bool) (c : DmaChannel) : (s.setDma n c).pc = s.pc := rfl
@[simp] theorem State.setDma_cp15 (s : State) (n : Bool) (c : DmaChannel) : (s.setDma n c).cp15 = s.cp15 := rfl
@[simp] theorem State.setDma_pmu (s : State) (n : Bool) (c : DmaChannel) : (s.setDma n c).pmu = s.pmu := rfl
@[simp] theorem State.setDma_dbg (s : State) (n : Bool) (c : DmaChannel) : (s.setDma n c).dbg = s.dbg := rfl
@[simp] theorem State.setDma_tap (s : State) (n : Bool) (c : DmaChannel) : (s.setDma n c).tap = s.tap := rfl
@[simp] theorem State.setDma_pins (s : State) (n : Bool) (c : DmaChannel) : (s.setDma n c).pins = s.pins := rfl
@[simp] theorem State.setDma_mem (s : State) (n : Bool) (c : DmaChannel) : (s.setDma n c).mem = s.mem := rfl
@[simp] theorem State.setDma_itcm0 (s : State) (n : Bool) (c : DmaChannel) : (s.setDma n c).itcm0 = s.itcm0 := rfl
@[simp] theorem State.setDma_itcm1 (s : State) (n : Bool) (c : DmaChannel) : (s.setDma n c).itcm1 = s.itcm1 := rfl
@[simp] theorem State.setDma_dtcm0 (s : State) (n : Bool) (c : DmaChannel) : (s.setDma n c).dtcm0 = s.dtcm0 := rfl
@[simp] theorem State.setDma_dtcm1 (s : State) (n : Bool) (c : DmaChannel) : (s.setDma n c).dtcm1 = s.dtcm1 := rfl
@[simp] theorem State.setDma_monitors (s : State) (n : Bool) (c : DmaChannel) : (s.setDma n c).monitors = s.monitors := rfl
@[simp] theorem State.setDma_pendingAbort (s : State) (n : Bool) (c : DmaChannel) : (s.setDma n c).pendingAbort = s.pendingAbort := rfl
@[simp] theorem State.setDma_activity (s : State) (n : Bool) (c : DmaChannel) : (s.setDma n c).activity = s.activity := rfl
@[simp] theorem State.setDma_irqAck (s : State) (n : Bool) (c : DmaChannel) : (s.setDma n c).irqAck = s.irqAck := rfl
@[simp] theorem State.setDma_trace (s : State) (n : Bool) (c : DmaChannel) : (s.setDma n c).trace = s.trace := rfl
@[simp] theorem State.setDma_regions (s : State) (n : Bool) (c : DmaChannel) : (s.setDma n c).regions = s.regions := rfl
@[simp] theorem State.setDma_freeCtr (s : State) (n : Bool) (c : DmaChannel) : (s.setDma n c).freeCtr = s.freeCtr := rfl
@[simp] theorem State.setDma_agenda (s : State) (n : Bool) (c : DmaChannel) : (s.setDma n c).agenda = s.agenda := rfl

/-! ### updateTap -/

@[simp] theorem State.updateTap_regs (s : State) (f : Tap → Tap) : (s.updateTap f).regs = s.regs := rfl
@[simp] theorem State.updateTap_spsr (s : State) (f : Tap → Tap) : (s.updateTap f).spsr = s.spsr := rfl
@[simp] theorem State.updateTap_cpsr (s : State) (f : Tap → Tap) : (s.updateTap f).cpsr = s.cpsr := rfl
@[simp] theorem State.updateTap_pc (s : State) (f : Tap → Tap) : (s.updateTap f).pc = s.pc := rfl
@[simp] theorem State.updateTap_cp15 (s : State) (f : Tap → Tap) : (s.updateTap f).cp15 = s.cp15 := rfl
@[simp] theorem State.updateTap_dma (s : State) (f : Tap → Tap) : (s.updateTap f).dma = s.dma := rfl
@[simp] theorem State.updateTap_pmu (s : State) (f : Tap → Tap) : (s.updateTap f).pmu = s.pmu := rfl
@[simp] theorem State.updateTap_dbg (s : State) (f : Tap → Tap) : (s.updateTap f).dbg = s.dbg := rfl
@[simp] theorem State.updateTap_pins (s : State) (f : Tap → Tap) : (s.updateTap f).pins = s.pins := rfl
@[simp] theorem State.updateTap_mem (s : State) (f : Tap → Tap) : (s.updateTap f).mem = s.mem := rfl
@[simp] theorem State.updateTap_itcm0 (s : State) (f : Tap → Tap) : (s.updateTap f).itcm0 = s.itcm0 := rfl
@[simp] theorem State.updateTap_itcm1 (s : State) (f : Tap → Tap) : (s.updateTap f).itcm1 = s.itcm1 := rfl
@[simp] theorem State.updateTap_dtcm0 (s : State) (f : Tap → Tap) : (s.updateTap f).dtcm0 = s.dtcm0 := rfl
@[simp] theorem State.updateTap_dtcm1 (s : State) (f : Tap → Tap) : (s.updateTap f).dtcm1 = s.dtcm1 := rfl
@[simp] theorem State.updateTap_monitors (s : State) (f : Tap → Tap) : (s.updateTap f).monitors = s.monitors := rfl
@[simp] theorem State.updateTap_pendingAbort (s : State) (f : Tap → Tap) : (s.updateTap f).pendingAbort = s.pendingAbort := rfl
@[simp] theorem State.updateTap_activity (s : State) (f : Tap → Tap) : (s.updateTap f).activity = s.activity := rfl
@[simp] theorem State.updateTap_irqAck (s : State) (f : Tap → Tap) : (s.updateTap f).irqAck = s.irqAck := rfl
@[simp] theorem State.updateTap_trace (s : State) (f : Tap → Tap) : (s.updateTap f).trace = s.trace := rfl
@[simp] theorem State.updateTap_regions (s : State) (f : Tap → Tap) : (s.updateTap f).regions = s.regions := rfl
@[simp] theorem State.updateTap_freeCtr (s : State) (f : Tap → Tap) : (s.updateTap f).freeCtr = s.freeCtr := rfl
@[simp] theorem State.updateTap_agenda (s : State) (f : Tap → Tap) : (s.updateTap f).agenda = s.agenda := rfl

/-! ### commit -/

@[simp] theorem State.commit_regs (s : State) (w : Words) : (s.commit w).regs = s.regs := rfl
@[simp] theorem State.commit_spsr (s : State) (w : Words) : (s.commit w).spsr = s.spsr := rfl
@[simp] theorem State.commit_cpsr (s : State) (w : Words) : (s.commit w).cpsr = s.cpsr := rfl
@[simp] theorem State.commit_pc (s : State) (w : Words) : (s.commit w).pc = s.pc := rfl
@[simp] theorem State.commit_cp15 (s : State) (w : Words) : (s.commit w).cp15 = s.cp15 := rfl
@[simp] theorem State.commit_dma (s : State) (w : Words) : (s.commit w).dma = s.dma := rfl
@[simp] theorem State.commit_pmu (s : State) (w : Words) : (s.commit w).pmu = s.pmu := rfl
@[simp] theorem State.commit_dbg (s : State) (w : Words) : (s.commit w).dbg = s.dbg := rfl
@[simp] theorem State.commit_pins (s : State) (w : Words) : (s.commit w).pins = s.pins := rfl
@[simp] theorem State.commit_mem (s : State) (w : Words) : (s.commit w).mem = s.mem := rfl
@[simp] theorem State.commit_itcm0 (s : State) (w : Words) : (s.commit w).itcm0 = s.itcm0 := rfl
@[simp] theorem State.commit_itcm1 (s : State) (w : Words) : (s.commit w).itcm1 = s.itcm1 := rfl
@[simp] theorem State.commit_dtcm0 (s : State) (w : Words) : (s.commit w).dtcm0 = s.dtcm0 := rfl
@[simp] theorem State.commit_dtcm1 (s : State) (w : Words) : (s.commit w).dtcm1 = s.dtcm1 := rfl
@[simp] theorem State.commit_monitors (s : State) (w : Words) : (s.commit w).monitors = s.monitors := rfl
@[simp] theorem State.commit_pendingAbort (s : State) (w : Words) : (s.commit w).pendingAbort = s.pendingAbort := rfl
@[simp] theorem State.commit_activity (s : State) (w : Words) : (s.commit w).activity = s.activity := rfl
@[simp] theorem State.commit_irqAck (s : State) (w : Words) : (s.commit w).irqAck = s.irqAck := rfl
@[simp] theorem State.commit_regions (s : State) (w : Words) : (s.commit w).regions = s.regions := rfl
@[simp] theorem State.commit_freeCtr (s : State) (w : Words) : (s.commit w).freeCtr = s.freeCtr := rfl
@[simp] theorem State.commit_agenda (s : State) (w : Words) : (s.commit w).agenda = s.agenda := rfl

/-! ### wdtrWrite -/

@[simp] theorem State.wdtrWrite_regs (s : State) (v : Word) : (s.wdtrWrite v).regs = s.regs := rfl
@[simp] theorem State.wdtrWrite_spsr (s : State) (v : Word) : (s.wdtrWrite v).spsr = s.spsr := rfl
@[simp] theorem State.wdtrWrite_cpsr (s : State) (v : Word) : (s.wdtrWrite v).cpsr = s.cpsr := rfl
@[simp] theorem State.wdtrWrite_pc (s : State) (v : Word) : (s.wdtrWrite v).pc = s.pc := rfl
@[simp] theorem State.wdtrWrite_cp15 (s : State) (v : Word) : (s.wdtrWrite v).cp15 = s.cp15 := rfl
@[simp] theorem State.wdtrWrite_dma (s : State) (v : Word) : (s.wdtrWrite v).dma = s.dma := rfl
@[simp] theorem State.wdtrWrite_pmu (s : State) (v : Word) : (s.wdtrWrite v).pmu = s.pmu := rfl
@[simp] theorem State.wdtrWrite_tap (s : State) (v : Word) : (s.wdtrWrite v).tap = s.tap := rfl
@[simp] theorem State.wdtrWrite_pins (s : State) (v : Word) : (s.wdtrWrite v).pins = s.pins := rfl
@[simp] theorem State.wdtrWrite_mem (s : State) (v : Word) : (s.wdtrWrite v).mem = s.mem := rfl
@[simp] theorem State.wdtrWrite_itcm0 (s : State) (v : Word) : (s.wdtrWrite v).itcm0 = s.itcm0 := rfl
@[simp] theorem State.wdtrWrite_itcm1 (s : State) (v : Word) : (s.wdtrWrite v).itcm1 = s.itcm1 := rfl
@[simp] theorem State.wdtrWrite_dtcm0 (s : State) (v : Word) : (s.wdtrWrite v).dtcm0 = s.dtcm0 := rfl
@[simp] theorem State.wdtrWrite_dtcm1 (s : State) (v : Word) : (s.wdtrWrite v).dtcm1 = s.dtcm1 := rfl
@[simp] theorem State.wdtrWrite_monitors (s : State) (v : Word) : (s.wdtrWrite v).monitors = s.monitors := rfl
@[simp] theorem State.wdtrWrite_pendingAbort (s : State) (v : Word) : (s.wdtrWrite v).pendingAbort = s.pendingAbort := rfl
@[simp] theorem State.wdtrWrite_activity (s : State) (v : Word) : (s.wdtrWrite v).activity = s.activity := rfl
@[simp] theorem State.wdtrWrite_irqAck (s : State) (v : Word) : (s.wdtrWrite v).irqAck = s.irqAck := rfl
@[simp] theorem State.wdtrWrite_trace (s : State) (v : Word) : (s.wdtrWrite v).trace = s.trace := rfl
@[simp] theorem State.wdtrWrite_regions (s : State) (v : Word) : (s.wdtrWrite v).regions = s.regions := rfl
@[simp] theorem State.wdtrWrite_freeCtr (s : State) (v : Word) : (s.wdtrWrite v).freeCtr = s.freeCtr := rfl
@[simp] theorem State.wdtrWrite_agenda (s : State) (v : Word) : (s.wdtrWrite v).agenda = s.agenda := rfl

/-! ### rdtrRead -/

@[simp] theorem State.rdtrRead_regs (s : State) : s.rdtrRead.regs = s.regs := rfl
@[simp] theorem State.rdtrRead_spsr (s : State) : s.rdtrRead.spsr = s.spsr := rfl
@[simp] theorem State.rdtrRead_cpsr (s : State) : s.rdtrRead.cpsr = s.cpsr := rfl
@[simp] theorem State.rdtrRead_pc (s : State) : s.rdtrRead.pc = s.pc := rfl
@[simp] theorem State.rdtrRead_cp15 (s : State) : s.rdtrRead.cp15 = s.cp15 := rfl
@[simp] theorem State.rdtrRead_dma (s : State) : s.rdtrRead.dma = s.dma := rfl
@[simp] theorem State.rdtrRead_pmu (s : State) : s.rdtrRead.pmu = s.pmu := rfl
@[simp] theorem State.rdtrRead_tap (s : State) : s.rdtrRead.tap = s.tap := rfl
@[simp] theorem State.rdtrRead_pins (s : State) : s.rdtrRead.pins = s.pins := rfl
@[simp] theorem State.rdtrRead_mem (s : State) : s.rdtrRead.mem = s.mem := rfl
@[simp] theorem State.rdtrRead_itcm0 (s : State) : s.rdtrRead.itcm0 = s.itcm0 := rfl
@[simp] theorem State.rdtrRead_itcm1 (s : State) : s.rdtrRead.itcm1 = s.itcm1 := rfl
@[simp] theorem State.rdtrRead_dtcm0 (s : State) : s.rdtrRead.dtcm0 = s.dtcm0 := rfl
@[simp] theorem State.rdtrRead_dtcm1 (s : State) : s.rdtrRead.dtcm1 = s.dtcm1 := rfl
@[simp] theorem State.rdtrRead_monitors (s : State) : s.rdtrRead.monitors = s.monitors := rfl
@[simp] theorem State.rdtrRead_pendingAbort (s : State) : s.rdtrRead.pendingAbort = s.pendingAbort := rfl
@[simp] theorem State.rdtrRead_activity (s : State) : s.rdtrRead.activity = s.activity := rfl
@[simp] theorem State.rdtrRead_irqAck (s : State) : s.rdtrRead.irqAck = s.irqAck := rfl
@[simp] theorem State.rdtrRead_trace (s : State) : s.rdtrRead.trace = s.trace := rfl
@[simp] theorem State.rdtrRead_regions (s : State) : s.rdtrRead.regions = s.regions := rfl
@[simp] theorem State.rdtrRead_freeCtr (s : State) : s.rdtrRead.freeCtr = s.freeCtr := rfl
@[simp] theorem State.rdtrRead_agenda (s : State) : s.rdtrRead.agenda = s.agenda := rfl

/-! ### setTcmCells -/

@[simp] theorem State.setTcmCells_regs (s : State) (t : Tcm) (l : List Host.Cell) : (s.setTcmCells t l).regs = s.regs := by
  cases t <;> rfl
@[simp] theorem State.setTcmCells_spsr (s : State) (t : Tcm) (l : List Host.Cell) : (s.setTcmCells t l).spsr = s.spsr := by
  cases t <;> rfl
@[simp] theorem State.setTcmCells_cpsr (s : State) (t : Tcm) (l : List Host.Cell) : (s.setTcmCells t l).cpsr = s.cpsr := by
  cases t <;> rfl
@[simp] theorem State.setTcmCells_pc (s : State) (t : Tcm) (l : List Host.Cell) : (s.setTcmCells t l).pc = s.pc := by
  cases t <;> rfl
@[simp] theorem State.setTcmCells_cp15 (s : State) (t : Tcm) (l : List Host.Cell) : (s.setTcmCells t l).cp15 = s.cp15 := by
  cases t <;> rfl
@[simp] theorem State.setTcmCells_dma (s : State) (t : Tcm) (l : List Host.Cell) : (s.setTcmCells t l).dma = s.dma := by
  cases t <;> rfl
@[simp] theorem State.setTcmCells_pmu (s : State) (t : Tcm) (l : List Host.Cell) : (s.setTcmCells t l).pmu = s.pmu := by
  cases t <;> rfl
@[simp] theorem State.setTcmCells_dbg (s : State) (t : Tcm) (l : List Host.Cell) : (s.setTcmCells t l).dbg = s.dbg := by
  cases t <;> rfl
@[simp] theorem State.setTcmCells_tap (s : State) (t : Tcm) (l : List Host.Cell) : (s.setTcmCells t l).tap = s.tap := by
  cases t <;> rfl
@[simp] theorem State.setTcmCells_pins (s : State) (t : Tcm) (l : List Host.Cell) : (s.setTcmCells t l).pins = s.pins := by
  cases t <;> rfl
@[simp] theorem State.setTcmCells_mem (s : State) (t : Tcm) (l : List Host.Cell) : (s.setTcmCells t l).mem = s.mem := by
  cases t <;> rfl
@[simp] theorem State.setTcmCells_monitors (s : State) (t : Tcm) (l : List Host.Cell) : (s.setTcmCells t l).monitors = s.monitors := by
  cases t <;> rfl
@[simp] theorem State.setTcmCells_pendingAbort (s : State) (t : Tcm) (l : List Host.Cell) : (s.setTcmCells t l).pendingAbort = s.pendingAbort := by
  cases t <;> rfl
@[simp] theorem State.setTcmCells_activity (s : State) (t : Tcm) (l : List Host.Cell) : (s.setTcmCells t l).activity = s.activity := by
  cases t <;> rfl
@[simp] theorem State.setTcmCells_irqAck (s : State) (t : Tcm) (l : List Host.Cell) : (s.setTcmCells t l).irqAck = s.irqAck := by
  cases t <;> rfl
@[simp] theorem State.setTcmCells_trace (s : State) (t : Tcm) (l : List Host.Cell) : (s.setTcmCells t l).trace = s.trace := by
  cases t <;> rfl
@[simp] theorem State.setTcmCells_regions (s : State) (t : Tcm) (l : List Host.Cell) : (s.setTcmCells t l).regions = s.regions := by
  cases t <;> rfl
@[simp] theorem State.setTcmCells_freeCtr (s : State) (t : Tcm) (l : List Host.Cell) : (s.setTcmCells t l).freeCtr = s.freeCtr := by
  cases t <;> rfl
@[simp] theorem State.setTcmCells_agenda (s : State) (t : Tcm) (l : List Host.Cell) : (s.setTcmCells t l).agenda = s.agenda := by
  cases t <;> rfl

/-! ### setSpsrOf -/

@[simp] theorem State.setSpsrOf_regs (s : State) (m : Mode) (v : Word) : (s.setSpsrOf m v).regs = s.regs := by
  cases m <;> rfl
@[simp] theorem State.setSpsrOf_cpsr (s : State) (m : Mode) (v : Word) : (s.setSpsrOf m v).cpsr = s.cpsr := by
  cases m <;> rfl
@[simp] theorem State.setSpsrOf_pc (s : State) (m : Mode) (v : Word) : (s.setSpsrOf m v).pc = s.pc := by
  cases m <;> rfl
@[simp] theorem State.setSpsrOf_cp15 (s : State) (m : Mode) (v : Word) : (s.setSpsrOf m v).cp15 = s.cp15 := by
  cases m <;> rfl
@[simp] theorem State.setSpsrOf_dma (s : State) (m : Mode) (v : Word) : (s.setSpsrOf m v).dma = s.dma := by
  cases m <;> rfl
@[simp] theorem State.setSpsrOf_pmu (s : State) (m : Mode) (v : Word) : (s.setSpsrOf m v).pmu = s.pmu := by
  cases m <;> rfl
@[simp] theorem State.setSpsrOf_dbg (s : State) (m : Mode) (v : Word) : (s.setSpsrOf m v).dbg = s.dbg := by
  cases m <;> rfl
@[simp] theorem State.setSpsrOf_tap (s : State) (m : Mode) (v : Word) : (s.setSpsrOf m v).tap = s.tap := by
  cases m <;> rfl
@[simp] theorem State.setSpsrOf_pins (s : State) (m : Mode) (v : Word) : (s.setSpsrOf m v).pins = s.pins := by
  cases m <;> rfl
@[simp] theorem State.setSpsrOf_mem (s : State) (m : Mode) (v : Word) : (s.setSpsrOf m v).mem = s.mem := by
  cases m <;> rfl
@[simp] theorem State.setSpsrOf_itcm0 (s : State) (m : Mode) (v : Word) : (s.setSpsrOf m v).itcm0 = s.itcm0 := by
  cases m <;> rfl
@[simp] theorem State.setSpsrOf_itcm1 (s : State) (m : Mode) (v : Word) : (s.setSpsrOf m v).itcm1 = s.itcm1 := by
  cases m <;> rfl
@[simp] theorem State.setSpsrOf_dtcm0 (s : State) (m : Mode) (v : Word) : (s.setSpsrOf m v).dtcm0 = s.dtcm0 := by
  cases m <;> rfl
@[simp] theorem State.setSpsrOf_dtcm1 (s : State) (m : Mode) (v : Word) : (s.setSpsrOf m v).dtcm1 = s.dtcm1 := by
  cases m <;> rfl
@[simp] theorem State.setSpsrOf_monitors (s : State) (m : Mode) (v : Word) : (s.setSpsrOf m v).monitors = s.monitors := by
  cases m <;> rfl
@[simp] theorem State.setSpsrOf_pendingAbort (s : State) (m : Mode) (v : Word) : (s.setSpsrOf m v).pendingAbort = s.pendingAbort := by
  cases m <;> rfl
@[simp] theorem State.setSpsrOf_activity (s : State) (m : Mode) (v : Word) : (s.setSpsrOf m v).activity = s.activity := by
  cases m <;> rfl
@[simp] theorem State.setSpsrOf_irqAck (s : State) (m : Mode) (v : Word) : (s.setSpsrOf m v).irqAck = s.irqAck := by
  cases m <;> rfl
@[simp] theorem State.setSpsrOf_trace (s : State) (m : Mode) (v : Word) : (s.setSpsrOf m v).trace = s.trace := by
  cases m <;> rfl
@[simp] theorem State.setSpsrOf_regions (s : State) (m : Mode) (v : Word) : (s.setSpsrOf m v).regions = s.regions := by
  cases m <;> rfl
@[simp] theorem State.setSpsrOf_freeCtr (s : State) (m : Mode) (v : Word) : (s.setSpsrOf m v).freeCtr = s.freeCtr := by
  cases m <;> rfl
@[simp] theorem State.setSpsrOf_agenda (s : State) (m : Mode) (v : Word) : (s.setSpsrOf m v).agenda = s.agenda := by
  cases m <;> rfl

/-! ### writeByteAt, writePart -/

@[simp] theorem State.writeByteAt_regs (s : State) (tcm : Option Tcm) (pa : Word) (b : Byte) :
    (s.writeByteAt tcm pa b).regs = s.regs := by
  cases tcm <;> simp [State.writeByteAt]
@[simp] theorem State.writeByteAt_spsr (s : State) (tcm : Option Tcm) (pa : Word) (b : Byte) :
    (s.writeByteAt tcm pa b).spsr = s.spsr := by
  cases tcm <;> simp [State.writeByteAt]
@[simp] theorem State.writeByteAt_cpsr (s : State) (tcm : Option Tcm) (pa : Word) (b : Byte) :
    (s.writeByteAt tcm pa b).cpsr = s.cpsr := by
  cases tcm <;> simp [State.writeByteAt]
@[simp] theorem State.writeByteAt_pc (s : State) (tcm : Option Tcm) (pa : Word) (b : Byte) :
    (s.writeByteAt tcm pa b).pc = s.pc := by
  cases tcm <;> simp [State.writeByteAt]
@[simp] theorem State.writeByteAt_cp15 (s : State) (tcm : Option Tcm) (pa : Word) (b : Byte) :
    (s.writeByteAt tcm pa b).cp15 = s.cp15 := by
  cases tcm <;> simp [State.writeByteAt]
@[simp] theorem State.writeByteAt_dma (s : State) (tcm : Option Tcm) (pa : Word) (b : Byte) :
    (s.writeByteAt tcm pa b).dma = s.dma := by
  cases tcm <;> simp [State.writeByteAt]
@[simp] theorem State.writeByteAt_pmu (s : State) (tcm : Option Tcm) (pa : Word) (b : Byte) :
    (s.writeByteAt tcm pa b).pmu = s.pmu := by
  cases tcm <;> simp [State.writeByteAt]
@[simp] theorem State.writeByteAt_dbg (s : State) (tcm : Option Tcm) (pa : Word) (b : Byte) :
    (s.writeByteAt tcm pa b).dbg = s.dbg := by
  cases tcm <;> simp [State.writeByteAt]
@[simp] theorem State.writeByteAt_tap (s : State) (tcm : Option Tcm) (pa : Word) (b : Byte) :
    (s.writeByteAt tcm pa b).tap = s.tap := by
  cases tcm <;> simp [State.writeByteAt]
@[simp] theorem State.writeByteAt_pins (s : State) (tcm : Option Tcm) (pa : Word) (b : Byte) :
    (s.writeByteAt tcm pa b).pins = s.pins := by
  cases tcm <;> simp [State.writeByteAt]
@[simp] theorem State.writeByteAt_monitors (s : State) (tcm : Option Tcm) (pa : Word) (b : Byte) :
    (s.writeByteAt tcm pa b).monitors = s.monitors := by
  cases tcm <;> simp [State.writeByteAt]
@[simp] theorem State.writeByteAt_pendingAbort (s : State) (tcm : Option Tcm) (pa : Word) (b : Byte) :
    (s.writeByteAt tcm pa b).pendingAbort = s.pendingAbort := by
  cases tcm <;> simp [State.writeByteAt]
@[simp] theorem State.writeByteAt_activity (s : State) (tcm : Option Tcm) (pa : Word) (b : Byte) :
    (s.writeByteAt tcm pa b).activity = s.activity := by
  cases tcm <;> simp [State.writeByteAt]
@[simp] theorem State.writeByteAt_irqAck (s : State) (tcm : Option Tcm) (pa : Word) (b : Byte) :
    (s.writeByteAt tcm pa b).irqAck = s.irqAck := by
  cases tcm <;> simp [State.writeByteAt]
@[simp] theorem State.writeByteAt_trace (s : State) (tcm : Option Tcm) (pa : Word) (b : Byte) :
    (s.writeByteAt tcm pa b).trace = s.trace := by
  cases tcm <;> simp [State.writeByteAt]
@[simp] theorem State.writeByteAt_regions (s : State) (tcm : Option Tcm) (pa : Word) (b : Byte) :
    (s.writeByteAt tcm pa b).regions = s.regions := by
  cases tcm <;> simp [State.writeByteAt]
@[simp] theorem State.writeByteAt_freeCtr (s : State) (tcm : Option Tcm) (pa : Word) (b : Byte) :
    (s.writeByteAt tcm pa b).freeCtr = s.freeCtr := by
  cases tcm <;> simp [State.writeByteAt]
@[simp] theorem State.writeByteAt_agenda (s : State) (tcm : Option Tcm) (pa : Word) (b : Byte) :
    (s.writeByteAt tcm pa b).agenda = s.agenda := by
  cases tcm <;> simp [State.writeByteAt]

@[simp] theorem State.writePart_regs (s : State) (p : Place) (k : Nat) (l : List Byte) :
    (s.writePart p k l).regs = s.regs := by
  induction l generalizing s k <;> simp_all [State.writePart]
@[simp] theorem State.writePart_spsr (s : State) (p : Place) (k : Nat) (l : List Byte) :
    (s.writePart p k l).spsr = s.spsr := by
  induction l generalizing s k <;> simp_all [State.writePart]
@[simp] theorem State.writePart_cpsr (s : State) (p : Place) (k : Nat) (l : List Byte) :
    (s.writePart p k l).cpsr = s.cpsr := by
  induction l generalizing s k <;> simp_all [State.writePart]
@[simp] theorem State.writePart_pc (s : State) (p : Place) (k : Nat) (l : List Byte) :
    (s.writePart p k l).pc = s.pc := by
  induction l generalizing s k <;> simp_all [State.writePart]
@[simp] theorem State.writePart_cp15 (s : State) (p : Place) (k : Nat) (l : List Byte) :
    (s.writePart p k l).cp15 = s.cp15 := by
  induction l generalizing s k <;> simp_all [State.writePart]
@[simp] theorem State.writePart_dma (s : State) (p : Place) (k : Nat) (l : List Byte) :
    (s.writePart p k l).dma = s.dma := by
  induction l generalizing s k <;> simp_all [State.writePart]
@[simp] theorem State.writePart_pmu (s : State) (p : Place) (k : Nat) (l : List Byte) :
    (s.writePart p k l).pmu = s.pmu := by
  induction l generalizing s k <;> simp_all [State.writePart]
@[simp] theorem State.writePart_dbg (s : State) (p : Place) (k : Nat) (l : List Byte) :
    (s.writePart p k l).dbg = s.dbg := by
  induction l generalizing s k <;> simp_all [State.writePart]
@[simp] theorem State.writePart_tap (s : State) (p : Place) (k : Nat) (l : List Byte) :
    (s.writePart p k l).tap = s.tap := by
  induction l generalizing s k <;> simp_all [State.writePart]
@[simp] theorem State.writePart_pins (s : State) (p : Place) (k : Nat) (l : List Byte) :
    (s.writePart p k l).pins = s.pins := by
  induction l generalizing s k <;> simp_all [State.writePart]
@[simp] theorem State.writePart_monitors (s : State) (p : Place) (k : Nat) (l : List Byte) :
    (s.writePart p k l).monitors = s.monitors := by
  induction l generalizing s k <;> simp_all [State.writePart]
@[simp] theorem State.writePart_pendingAbort (s : State) (p : Place) (k : Nat) (l : List Byte) :
    (s.writePart p k l).pendingAbort = s.pendingAbort := by
  induction l generalizing s k <;> simp_all [State.writePart]
@[simp] theorem State.writePart_activity (s : State) (p : Place) (k : Nat) (l : List Byte) :
    (s.writePart p k l).activity = s.activity := by
  induction l generalizing s k <;> simp_all [State.writePart]
@[simp] theorem State.writePart_irqAck (s : State) (p : Place) (k : Nat) (l : List Byte) :
    (s.writePart p k l).irqAck = s.irqAck := by
  induction l generalizing s k <;> simp_all [State.writePart]
@[simp] theorem State.writePart_trace (s : State) (p : Place) (k : Nat) (l : List Byte) :
    (s.writePart p k l).trace = s.trace := by
  induction l generalizing s k <;> simp_all [State.writePart]
@[simp] theorem State.writePart_regions (s : State) (p : Place) (k : Nat) (l : List Byte) :
    (s.writePart p k l).regions = s.regions := by
  induction l generalizing s k <;> simp_all [State.writePart]
@[simp] theorem State.writePart_freeCtr (s : State) (p : Place) (k : Nat) (l : List Byte) :
    (s.writePart p k l).freeCtr = s.freeCtr := by
  induction l generalizing s k <;> simp_all [State.writePart]
@[simp] theorem State.writePart_agenda (s : State) (p : Place) (k : Nat) (l : List Byte) :
    (s.writePart p k l).agenda = s.agenda := by
  induction l generalizing s k <;> simp_all [State.writePart]

/-! ### takeException, branchTo, recordImprecise -/

@[simp] theorem State.takeException_dma (s : State) (k : Exn) (ret : Word) (mon : Bool) :
    (s.takeException k ret mon).dma = s.dma := by
  cases mon <;> simp [State.takeException]
@[simp] theorem State.takeException_pmu (s : State) (k : Exn) (ret : Word) (mon : Bool) :
    (s.takeException k ret mon).pmu = s.pmu := by
  cases mon <;> simp [State.takeException]
@[simp] theorem State.takeException_dbg (s : State) (k : Exn) (ret : Word) (mon : Bool) :
    (s.takeException k ret mon).dbg = s.dbg := by
  cases mon <;> simp [State.takeException]
@[simp] theorem State.takeException_tap (s : State) (k : Exn) (ret : Word) (mon : Bool) :
    (s.takeException k ret mon).tap = s.tap := by
  cases mon <;> simp [State.takeException]
@[simp] theorem State.takeException_pins (s : State) (k : Exn) (ret : Word) (mon : Bool) :
    (s.takeException k ret mon).pins = s.pins := by
  cases mon <;> simp [State.takeException]
@[simp] theorem State.takeException_mem (s : State) (k : Exn) (ret : Word) (mon : Bool) :
    (s.takeException k ret mon).mem = s.mem := by
  cases mon <;> simp [State.takeException]
@[simp] theorem State.takeException_itcm0 (s : State) (k : Exn) (ret : Word) (mon : Bool) :
    (s.takeException k ret mon).itcm0 = s.itcm0 := by
  cases mon <;> simp [State.takeException]
@[simp] theorem State.takeException_itcm1 (s : State) (k : Exn) (ret : Word) (mon : Bool) :
    (s.takeException k ret mon).itcm1 = s.itcm1 := by
  cases mon <;> simp [State.takeException]
@[simp] theorem State.takeException_dtcm0 (s : State) (k : Exn) (ret : Word) (mon : Bool) :
    (s.takeException k ret mon).dtcm0 = s.dtcm0 := by
  cases mon <;> simp [State.takeException]
@[simp] theorem State.takeException_dtcm1 (s : State) (k : Exn) (ret : Word) (mon : Bool) :
    (s.takeException k ret mon).dtcm1 = s.dtcm1 := by
  cases mon <;> simp [State.takeException]
@[simp] theorem State.takeException_monitors (s : State) (k : Exn) (ret : Word) (mon : Bool) :
    (s.takeException k ret mon).monitors = s.monitors := by
  cases mon <;> simp [State.takeException]
@[simp] theorem State.takeException_pendingAbort (s : State) (k : Exn) (ret : Word) (mon : Bool) :
    (s.takeException k ret mon).pendingAbort = s.pendingAbort := by
  cases mon <;> simp [State.takeException]
@[simp] theorem State.takeException_activity (s : State) (k : Exn) (ret : Word) (mon : Bool) :
    (s.takeException k ret mon).activity = s.activity := by
  cases mon <;> simp [State.takeException]
@[simp] theorem State.takeException_irqAck (s : State) (k : Exn) (ret : Word) (mon : Bool) :
    (s.takeException k ret mon).irqAck = s.irqAck := by
  cases mon <;> simp [State.takeException]
@[simp] theorem State.takeException_trace (s : State) (k : Exn) (ret : Word) (mon : Bool) :
    (s.takeException k ret mon).trace = s.trace := by
  cases mon <;> simp [State.takeException]
@[simp] theorem State.takeException_regions (s : State) (k : Exn) (ret : Word) (mon : Bool) :
    (s.takeException k ret mon).regions = s.regions := by
  cases mon <;> simp [State.takeException]
@[simp] theorem State.takeException_freeCtr (s : State) (k : Exn) (ret : Word) (mon : Bool) :
    (s.takeException k ret mon).freeCtr = s.freeCtr := by
  cases mon <;> simp [State.takeException]
@[simp] theorem State.takeException_agenda (s : State) (k : Exn) (ret : Word) (mon : Bool) :
    (s.takeException k ret mon).agenda = s.agenda := by
  cases mon <;> simp [State.takeException]
@[simp] theorem State.branchTo_regs (s : State) (a : Word) : (s.branchTo a).regs = s.regs := by
  simp only [State.branchTo]; split <;> rfl
@[simp] theorem State.branchTo_spsr (s : State) (a : Word) : (s.branchTo a).spsr = s.spsr := by
  simp only [State.branchTo]; split <;> rfl
@[simp] theorem State.branchTo_cpsr (s : State) (a : Word) : (s.branchTo a).cpsr = s.cpsr := by
  simp only [State.branchTo]; split <;> rfl
@[simp] theorem State.branchTo_cp15 (s : State) (a : Word) : (s.branchTo a).cp15 = s.cp15 := by
  simp only [State.branchTo]; split <;> rfl
@[simp] theorem State.branchTo_dma (s : State) (a : Word) : (s.branchTo a).dma = s.dma := by
  simp only [State.branchTo]; split <;> rfl
@[simp] theorem State.branchTo_pmu (s : State) (a : Word) : (s.branchTo a).pmu = s.pmu := by
  simp only [State.branchTo]; split <;> rfl
@[simp] theorem State.branchTo_tap (s : State) (a : Word) : (s.branchTo a).tap = s.tap := by
  simp only [State.branchTo]; split <;> rfl
@[simp] theorem State.branchTo_pins (s : State) (a : Word) : (s.branchTo a).pins = s.pins := by
  simp only [State.branchTo]; split <;> rfl
@[simp] theorem State.branchTo_mem (s : State) (a : Word) : (s.branchTo a).mem = s.mem := by
  simp only [State.branchTo]; split <;> rfl
@[simp] theorem State.branchTo_itcm0 (s : State) (a : Word) : (s.branchTo a).itcm0 = s.itcm0 := by
  simp only [State.branchTo]; split <;> rfl
@[simp] theorem State.branchTo_itcm1 (s : State) (a : Word) : (s.branchTo a).itcm1 = s.itcm1 := by
  simp only [State.branchTo]; split <;> rfl
@[simp] theorem State.branchTo_dtcm0 (s : State) (a : Word) : (s.branchTo a).dtcm0 = s.dtcm0 := by
  simp only [State.branchTo]; split <;> rfl
@[simp] theorem State.branchTo_dtcm1 (s : State) (a : Word) : (s.branchTo a).dtcm1 = s.dtcm1 := by
  simp only [State.branchTo]; split <;> rfl
@[simp] theorem State.branchTo_monitors (s : State) (a : Word) : (s.branchTo a).monitors = s.monitors := by
  simp only [State.branchTo]; split <;> rfl
@[simp] theorem State.branchTo_pendingAbort (s : State) (a : Word) : (s.branchTo a).pendingAbort = s.pendingAbort := by
  simp only [State.branchTo]; split <;> rfl
@[simp] theorem State.branchTo_activity (s : State) (a : Word) : (s.branchTo a).activity = s.activity := by
  simp only [State.branchTo]; split <;> rfl
@[simp] theorem State.branchTo_irqAck (s : State) (a : Word) : (s.branchTo a).irqAck = s.irqAck := by
  simp only [State.branchTo]; split <;> rfl
@[simp] theorem State.branchTo_trace (s : State) (a : Word) : (s.branchTo a).trace = s.trace := by
  simp only [State.branchTo]; split <;> rfl
@[simp] theorem State.branchTo_regions (s : State) (a : Word) : (s.branchTo a).regions = s.regions := by
  simp only [State.branchTo]; split <;> rfl
@[simp] theorem State.branchTo_freeCtr (s : State) (a : Word) : (s.branchTo a).freeCtr = s.freeCtr := by
  simp only [State.branchTo]; split <;> rfl
@[simp] theorem State.branchTo_agenda (s : State) (a : Word) : (s.branchTo a).agenda = s.agenda := by
  simp only [State.branchTo]; split <;> rfl
@[simp] theorem State.recordImprecise_regs (s : State) (a : ImpreciseAbort) :
    (s.recordImprecise a).regs = s.regs := by
  simp only [State.recordImprecise]; split <;> split <;> rfl
@[simp] theorem State.recordImprecise_spsr (s : State) (a : ImpreciseAbort) :
    (s.recordImprecise a).spsr = s.spsr := by
  simp only [State.recordImprecise]; split <;> split <;> rfl
@[simp] theorem State.recordImprecise_cpsr (s : State) (a : ImpreciseAbort) :
    (s.recordImprecise a).cpsr = s.cpsr := by
  simp only [State.recordImprecise]; split <;> split <;> rfl
@[simp] theorem State.recordImprecise_pc (s : State) (a : ImpreciseAbort) :
    (s.recordImprecise a).pc = s.pc := by
  simp only [State.recordImprecise]; split <;> split <;> rfl
@[simp] theorem State.recordImprecise_cp15 (s : State) (a : ImpreciseAbort) :
    (s.recordImprecise a).cp15 = s.cp15 := by
  simp only [State.recordImprecise]; split <;> split <;> rfl
@[simp] theorem State.recordImprecise_dma (s : State) (a : ImpreciseAbort) :
    (s.recordImprecise a).dma = s.dma := by
  simp only [State.recordImprecise]; split <;> split <;> rfl
@[simp] theorem State.recordImprecise_pmu (s : State) (a : ImpreciseAbort) :
    (s.recordImprecise a).pmu = s.pmu := by
  simp only [State.recordImprecise]; split <;> split <;> rfl
@[simp] theorem State.recordImprecise_tap (s : State) (a : ImpreciseAbort) :
    (s.recordImprecise a).tap = s.tap := by
  simp only [State.recordImprecise]; split <;> split <;> rfl
@[simp] theorem State.recordImprecise_pins (s : State) (a : ImpreciseAbort) :
    (s.recordImprecise a).pins = s.pins := by
  simp only [State.recordImprecise]; split <;> split <;> rfl
@[simp] theorem State.recordImprecise_mem (s : State) (a : ImpreciseAbort) :
    (s.recordImprecise a).mem = s.mem := by
  simp only [State.recordImprecise]; split <;> split <;> rfl
@[simp] theorem State.recordImprecise_itcm0 (s : State) (a : ImpreciseAbort) :
    (s.recordImprecise a).itcm0 = s.itcm0 := by
  simp only [State.recordImprecise]; split <;> split <;> rfl
@[simp] theorem State.recordImprecise_itcm1 (s : State) (a : ImpreciseAbort) :
    (s.recordImprecise a).itcm1 = s.itcm1 := by
  simp only [State.recordImprecise]; split <;> split <;> rfl
@[simp] theorem State.recordImprecise_dtcm0 (s : State) (a : ImpreciseAbort) :
    (s.recordImprecise a).dtcm0 = s.dtcm0 := by
  simp only [State.recordImprecise]; split <;> split <;> rfl
@[simp] theorem State.recordImprecise_dtcm1 (s : State) (a : ImpreciseAbort) :
    (s.recordImprecise a).dtcm1 = s.dtcm1 := by
  simp only [State.recordImprecise]; split <;> split <;> rfl
@[simp] theorem State.recordImprecise_monitors (s : State) (a : ImpreciseAbort) :
    (s.recordImprecise a).monitors = s.monitors := by
  simp only [State.recordImprecise]; split <;> split <;> rfl
@[simp] theorem State.recordImprecise_activity (s : State) (a : ImpreciseAbort) :
    (s.recordImprecise a).activity = s.activity := by
  simp only [State.recordImprecise]; split <;> split <;> rfl
@[simp] theorem State.recordImprecise_irqAck (s : State) (a : ImpreciseAbort) :
    (s.recordImprecise a).irqAck = s.irqAck := by
  simp only [State.recordImprecise]; split <;> split <;> rfl
@[simp] theorem State.recordImprecise_trace (s : State) (a : ImpreciseAbort) :
    (s.recordImprecise a).trace = s.trace := by
  simp only [State.recordImprecise]; split <;> split <;> rfl
@[simp] theorem State.recordImprecise_regions (s : State) (a : ImpreciseAbort) :
    (s.recordImprecise a).regions = s.regions := by
  simp only [State.recordImprecise]; split <;> split <;> rfl
@[simp] theorem State.recordImprecise_freeCtr (s : State) (a : ImpreciseAbort) :
    (s.recordImprecise a).freeCtr = s.freeCtr := by
  simp only [State.recordImprecise]; split <;> split <;> rfl
@[simp] theorem State.recordImprecise_agenda (s : State) (a : ImpreciseAbort) :
    (s.recordImprecise a).agenda = s.agenda := by
  simp only [State.recordImprecise]; split <;> split <;> rfl

/-! ### pmuTick, idleStep -/

/-- Counting an event draws a free value or none. -/
theorem State.eventCount_frame (s : State) (ev : BitVec 8) (i t : Nat) :
    (s.eventCount ev i t).2 = { s with freeCtr := (s.eventCount ev i t).2.freeCtr } := by
  simp only [State.eventCount]; split
  · rfl
  · split <;> rfl

/-- A Count Register draws a free value or none. -/
theorem State.countRegister_frame (s : State) (k : Nat) (b : Bool) (ev : BitVec 8) (v : Word) (i t : Nat) :
    (s.countRegister k b ev v i t).2 = { s with freeCtr := (s.countRegister k b ev v i t).2.freeCtr } := by
  simp only [State.countRegister]; split
  · rfl
  · split
    · exact State.eventCount_frame s ev i t
    · rfl

/-- A Count Register started for validation counts clock cycles until it wraps, whatever PMNC says (14_cp15_dma_misc.md R483). -/
theorem State.countRegister_started (s : State) (k : Nat) (b : Bool) (ev : BitVec 8) (v : Word) (i t : Nat)
    (h : s.pmu.started.getLsbD k = true) : s.countRegister k b ev v i t = (countUntilWrap v t, s) := by
  simp only [State.countRegister, h, if_true]

/-- One that wrapped stands still while its overflow flag stands (14_cp15_dma_misc.md R483). -/
theorem State.countRegister_wrapped (s : State) (k : Nat) (b : Bool) (ev : BitVec 8) (v : Word) (i t : Nat)
    (h : s.pmu.started.getLsbD k = false) (hw : s.pmu.wrapped.getLsbD k = true) :
    s.countRegister k b ev v i t = ((v, false), s) := by
  simp only [State.countRegister, h, hw, Bool.not_true, Bool.and_false, Bool.false_eq_true, if_false]

/-- Counting changes the counters and how many free values are drawn. -/
theorem State.pmuCount_frame (s : State) (en : PmuEnables) (i t : Nat) :
    s.pmuCount en i t = { s with pmu := (s.pmuCount en i t).pmu, freeCtr := (s.pmuCount en i t).freeCtr } := by
  simp only [State.pmuCount]
  rw [State.countRegister_frame, State.countRegister_frame]

/-- What a tick of the counters can do: the counters, and how many free values are drawn (71_timing.md R2055). -/
theorem State.pmuTick_frame (s : State) (en : PmuEnables) (n : Nat) :
    s.pmuTick en n = { s with pmu := (s.pmuTick en n).pmu, freeCtr := (s.pmuTick en n).freeCtr } := by
  simp only [State.pmuTick]; split
  · exact (State.pmuCount_frame _ _ _ _).trans rfl
  · rfl

/-- With no counter in use a tick does nothing. -/
theorem State.pmuTick_idle (s : State) (en : PmuEnables) (n : Nat) (h : s.pmu.pmnc.getLsbD 0 = false) (h' : s.pmu.started = 0) :
    s.pmuTick en n = s := by
  simp only [State.pmuTick, h, h', Bool.and_false, bne_self_eq_false, Bool.or_self, Bool.false_eq_true, if_false]

@[simp] theorem State.pmuTick_regs (s : State) (en : PmuEnables) (n : Nat) : (s.pmuTick en n).regs = s.regs := by
  rw [State.pmuTick_frame]
@[simp] theorem State.pmuTick_spsr (s : State) (en : PmuEnables) (n : Nat) : (s.pmuTick en n).spsr = s.spsr := by
  rw [State.pmuTick_frame]
@[simp] theorem State.pmuTick_cpsr (s : State) (en : PmuEnables) (n : Nat) : (s.pmuTick en n).cpsr = s.cpsr := by
  rw [State.pmuTick_frame]
@[simp] theorem State.pmuTick_pc (s : State) (en : PmuEnables) (n : Nat) : (s.pmuTick en n).pc = s.pc := by
  rw [State.pmuTick_frame]
@[simp] theorem State.pmuTick_cp15 (s : State) (en : PmuEnables) (n : Nat) : (s.pmuTick en n).cp15 = s.cp15 := by
  rw [State.pmuTick_frame]
@[simp] theorem State.pmuTick_dma (s : State) (en : PmuEnables) (n : Nat) : (s.pmuTick en n).dma = s.dma := by
  rw [State.pmuTick_frame]
@[simp] theorem State.pmuTick_dbg (s : State) (en : PmuEnables) (n : Nat) : (s.pmuTick en n).dbg = s.dbg := by
  rw [State.pmuTick_frame]
@[simp] theorem State.pmuTick_tap (s : State) (en : PmuEnables) (n : Nat) : (s.pmuTick en n).tap = s.tap := by
  rw [State.pmuTick_frame]
@[simp] theorem State.pmuTick_pins (s : State) (en : PmuEnables) (n : Nat) : (s.pmuTick en n).pins = s.pins := by
  rw [State.pmuTick_frame]
@[simp] theorem State.pmuTick_mem (s : State) (en : PmuEnables) (n : Nat) : (s.pmuTick en n).mem = s.mem := by
  rw [State.pmuTick_frame]
@[simp] theorem State.pmuTick_itcm0 (s : State) (en : PmuEnables) (n : Nat) : (s.pmuTick en n).itcm0 = s.itcm0 := by
  rw [State.pmuTick_frame]
@[simp] theorem State.pmuTick_itcm1 (s : State) (en : PmuEnables) (n : Nat) : (s.pmuTick en n).itcm1 = s.itcm1 := by
  rw [State.pmuTick_frame]
@[simp] theorem State.pmuTick_dtcm0 (s : State) (en : PmuEnables) (n : Nat) : (s.pmuTick en n).dtcm0 = s.dtcm0 := by
  rw [State.pmuTick_frame]
@[simp] theorem State.pmuTick_dtcm1 (s : State) (en : PmuEnables) (n : Nat) : (s.pmuTick en n).dtcm1 = s.dtcm1 := by
  rw [State.pmuTick_frame]
@[simp] theorem State.pmuTick_monitors (s : State) (en : PmuEnables) (n : Nat) : (s.pmuTick en n).monitors = s.monitors := by
  rw [State.pmuTick_frame]
@[simp] theorem State.pmuTick_pendingAbort (s : State) (en : PmuEnables) (n : Nat) : (s.pmuTick en n).pendingAbort = s.pendingAbort := by
  rw [State.pmuTick_frame]
@[simp] theorem State.pmuTick_activity (s : State) (en : PmuEnables) (n : Nat) : (s.pmuTick en n).activity = s.activity := by
  rw [State.pmuTick_frame]
@[simp] theorem State.pmuTick_irqAck (s : State) (en : PmuEnables) (n : Nat) : (s.pmuTick en n).irqAck = s.irqAck := by
  rw [State.pmuTick_frame]
@[simp] theorem State.pmuTick_trace (s : State) (en : PmuEnables) (n : Nat) : (s.pmuTick en n).trace = s.trace := by
  rw [State.pmuTick_frame]
@[simp] theorem State.pmuTick_regions (s : State) (en : PmuEnables) (n : Nat) : (s.pmuTick en n).regions = s.regions := by
  rw [State.pmuTick_frame]
@[simp] theorem State.pmuTick_agenda (s : State) (en : PmuEnables) (n : Nat) : (s.pmuTick en n).agenda = s.agenda := by
  rw [State.pmuTick_frame]
@[simp] theorem State.idleStep_regs (s : State) (en : PmuEnables) : (s.idleStep en).regs = s.regs := by
  simp [State.idleStep]
@[simp] theorem State.idleStep_spsr (s : State) (en : PmuEnables) : (s.idleStep en).spsr = s.spsr := by
  simp [State.idleStep]
@[simp] theorem State.idleStep_cpsr (s : State) (en : PmuEnables) : (s.idleStep en).cpsr = s.cpsr := by
  simp [State.idleStep]
@[simp] theorem State.idleStep_pc (s : State) (en : PmuEnables) : (s.idleStep en).pc = s.pc := by
  simp [State.idleStep]
@[simp] theorem State.idleStep_cp15 (s : State) (en : PmuEnables) : (s.idleStep en).cp15 = s.cp15 := by
  simp [State.idleStep]
@[simp] theorem State.idleStep_dma (s : State) (en : PmuEnables) : (s.idleStep en).dma = s.dma := by
  simp [State.idleStep]
@[simp] theorem State.idleStep_dbg (s : State) (en : PmuEnables) : (s.idleStep en).dbg = s.dbg := by
  simp [State.idleStep]
@[simp] theorem State.idleStep_tap (s : State) (en : PmuEnables) : (s.idleStep en).tap = s.tap := by
  simp [State.idleStep]
@[simp] theorem State.idleStep_pins (s : State) (en : PmuEnables) : (s.idleStep en).pins = s.pins := by
  simp [State.idleStep]
@[simp] theorem State.idleStep_mem (s : State) (en : PmuEnables) : (s.idleStep en).mem = s.mem := by
  simp [State.idleStep]
@[simp] theorem State.idleStep_itcm0 (s : State) (en : PmuEnables) : (s.idleStep en).itcm0 = s.itcm0 := by
  simp [State.idleStep]
@[simp] theorem State.idleStep_itcm1 (s : State) (en : PmuEnables) : (s.idleStep en).itcm1 = s.itcm1 := by
  simp [State.idleStep]
@[simp] theorem State.idleStep_dtcm0 (s : State) (en : PmuEnables) : (s.idleStep en).dtcm0 = s.dtcm0 := by
  simp [State.idleStep]
@[simp] theorem State.idleStep_dtcm1 (s : State) (en : PmuEnables) : (s.idleStep en).dtcm1 = s.dtcm1 := by
  simp [State.idleStep]
@[simp] theorem State.idleStep_monitors (s : State) (en : PmuEnables) : (s.idleStep en).monitors = s.monitors := by
  simp [State.idleStep]
@[simp] theorem State.idleStep_pendingAbort (s : State) (en : PmuEnables) : (s.idleStep en).pendingAbort = s.pendingAbort := by
  simp [State.idleStep]
@[simp] theorem State.idleStep_activity (s : State) (en : PmuEnables) : (s.idleStep en).activity = s.activity := by
  simp [State.idleStep]
@[simp] theorem State.idleStep_irqAck (s : State) (en : PmuEnables) : (s.idleStep en).irqAck = s.irqAck := by
  simp [State.idleStep]
@[simp] theorem State.idleStep_regions (s : State) (en : PmuEnables) : (s.idleStep en).regions = s.regions := by
  simp [State.idleStep]
@[simp] theorem State.idleStep_agenda (s : State) (en : PmuEnables) : (s.idleStep en).agenda = s.agenda := by
  simp [State.idleStep]

/-! ### What is read of the registers and the mode -/

@[simp] theorem State.setRegOf_mode (s : State) (m : Mode) (n : BitVec 4) (v : Word) : (s.setRegOf m n v).mode = s.mode := rfl
@[simp] theorem State.setRegOf_inDebug (s : State) (m : Mode) (n : BitVec 4) (v : Word) : (s.setRegOf m n v).inDebug = s.inDebug := rfl
@[simp] theorem State.setRegOf_bitT (s : State) (m : Mode) (n : BitVec 4) (v : Word) : (s.setRegOf m n v).bitT = s.bitT := rfl
@[simp] theorem State.setRegOf_scrNs (s : State) (m : Mode) (n : BitVec 4) (v : Word) : (s.setRegOf m n v).scrNs = s.scrNs := rfl
@[simp] theorem State.setRegOf_secure (s : State) (m : Mode) (n : BitVec 4) (v : Word) : (s.setRegOf m n v).secure = s.secure := rfl
@[simp] theorem State.setRegOf_nonSecure (s : State) (m : Mode) (n : BitVec 4) (v : Word) : (s.setRegOf m n v).nonSecure = s.nonSecure := rfl
@[simp] theorem State.setRegOf_privileged (s : State) (m : Mode) (n : BitVec 4) (v : Word) : (s.setRegOf m n v).privileged = s.privileged := rfl
@[simp] theorem State.setReg_mode (s : State) (n : BitVec 4) (v : Word) : (s.setReg n v).mode = s.mode := rfl
@[simp] theorem State.setReg_inDebug (s : State) (n : BitVec 4) (v : Word) : (s.setReg n v).inDebug = s.inDebug := rfl
@[simp] theorem State.setReg_bitT (s : State) (n : BitVec 4) (v : Word) : (s.setReg n v).bitT = s.bitT := rfl
@[simp] theorem State.setReg_scrNs (s : State) (n : BitVec 4) (v : Word) : (s.setReg n v).scrNs = s.scrNs := rfl
@[simp] theorem State.setReg_secure (s : State) (n : BitVec 4) (v : Word) : (s.setReg n v).secure = s.secure := rfl
@[simp] theorem State.setReg_nonSecure (s : State) (n : BitVec 4) (v : Word) : (s.setReg n v).nonSecure = s.nonSecure := rfl
@[simp] theorem State.setReg_privileged (s : State) (n : BitVec 4) (v : Word) : (s.setReg n v).privileged = s.privileged := rfl
@[simp] theorem State.setDscrBit_mode (s : State) (k : Nat) (b : Bool) : (s.setDscrBit k b).mode = s.mode := rfl
@[simp] theorem State.setDscrBit_inDebug (s : State) (k : Nat) (b : Bool) : (s.setDscrBit k b).inDebug = s.inDebug := rfl
@[simp] theorem State.setDscrBit_bitT (s : State) (k : Nat) (b : Bool) : (s.setDscrBit k b).bitT = s.bitT := rfl
@[simp] theorem State.setDscrBit_scrNs (s : State) (k : Nat) (b : Bool) : (s.setDscrBit k b).scrNs = s.scrNs := rfl
@[simp] theorem State.setDscrBit_secure (s : State) (k : Nat) (b : Bool) : (s.setDscrBit k b).secure = s.secure := rfl
@[simp] theorem State.setDscrBit_nonSecure (s : State) (k : Nat) (b : Bool) : (s.setDscrBit k b).nonSecure = s.nonSecure := rfl
@[simp] theorem State.setDscrBit_privileged (s : State) (k : Nat) (b : Bool) : (s.setDscrBit k b).privileged = s.privileged := rfl
@[simp] theorem State.setLocal_mode (s : State) (b : Bool) : (s.setLocal b).mode = s.mode := rfl
@[simp] theorem State.setLocal_inDebug (s : State) (b : Bool) : (s.setLocal b).inDebug = s.inDebug := rfl
@[simp] theorem State.setLocal_bitT (s : State) (b : Bool) : (s.setLocal b).bitT = s.bitT := rfl
@[simp] theorem State.setLocal_scrNs (s : State) (b : Bool) : (s.setLocal b).scrNs = s.scrNs := rfl
@[simp] theorem State.setLocal_secure (s : State) (b : Bool) : (s.setLocal b).secure = s.secure := rfl
@[simp] theorem State.setLocal_nonSecure (s : State) (b : Bool) : (s.setLocal b).nonSecure = s.nonSecure := rfl
@[simp] theorem State.setLocal_privileged (s : State) (b : Bool) : (s.setLocal b).privileged = s.privileged := rfl
@[simp] theorem State.setDma_mode (s : State) (n : Bool) (c : DmaChannel) : (s.setDma n c).mode = s.mode := rfl
@[simp] theorem State.setDma_inDebug (s : State) (n : Bool) (c : DmaChannel) : (s.setDma n c).inDebug = s.inDebug := rfl
@[simp] theorem State.setDma_bitT (s : State) (n : Bool) (c : DmaChannel) : (s.setDma n c).bitT = s.bitT := rfl
@[simp] theorem State.setDma_scrNs (s : State) (n : Bool) (c : DmaChannel) : (s.setDma n c).scrNs = s.scrNs := rfl
@[simp] theorem State.setDma_secure (s : State) (n : Bool) (c : DmaChannel) : (s.setDma n c).secure = s.secure := rfl
@[simp] theorem State.setDma_nonSecure (s : State) (n : Bool) (c : DmaChannel) : (s.setDma n c).nonSecure = s.nonSecure := rfl
@[simp] theorem State.setDma_privileged (s : State) (n : Bool) (c : DmaChannel) : (s.setDma n c).privileged = s.privileged := rfl
@[simp] theorem State.wdtrWrite_mode (s : State) (v : Word) : (s.wdtrWrite v).mode = s.mode := rfl
@[simp] theorem State.wdtrWrite_inDebug (s : State) (v : Word) : (s.wdtrWrite v).inDebug = s.inDebug := rfl
@[simp] theorem State.wdtrWrite_bitT (s : State) (v : Word) : (s.wdtrWrite v).bitT = s.bitT := rfl
@[simp] theorem State.wdtrWrite_scrNs (s : State) (v : Word) : (s.wdtrWrite v).scrNs = s.scrNs := rfl
@[simp] theorem State.wdtrWrite_secure (s : State) (v : Word) : (s.wdtrWrite v).secure = s.secure := rfl
@[simp] theorem State.wdtrWrite_nonSecure (s : State) (v : Word) : (s.wdtrWrite v).nonSecure = s.nonSecure := rfl
@[simp] theorem State.wdtrWrite_privileged (s : State) (v : Word) : (s.wdtrWrite v).privileged = s.privileged := rfl
@[simp] theorem State.rdtrRead_mode (s : State) : s.rdtrRead.mode = s.mode := rfl
@[simp] theorem State.rdtrRead_inDebug (s : State) : s.rdtrRead.inDebug = s.inDebug := rfl
@[simp] theorem State.rdtrRead_bitT (s : State) : s.rdtrRead.bitT = s.bitT := rfl
@[simp] theorem State.rdtrRead_scrNs (s : State) : s.rdtrRead.scrNs = s.scrNs := rfl
@[simp] theorem State.rdtrRead_secure (s : State) : s.rdtrRead.secure = s.secure := rfl
@[simp] theorem State.rdtrRead_nonSecure (s : State) : s.rdtrRead.nonSecure = s.nonSecure := rfl
@[simp] theorem State.rdtrRead_privileged (s : State) : s.rdtrRead.privileged = s.privileged := rfl

end

end Sys2Proof.Machine
end

