-- ==== Sys2Proof/Laws/Operands.lean ====
section
/-!
SUPPORT. The operand forms and the opcodes: what reading an operand answers, and that the opcode rules give the plain
arithmetic of the vocabulary (40_dataproc.md R901, R902, 44_loadstore.md R1262, R1265).
-/
namespace Sys2Proof.Machine

/-! ### Reading an operand -/

theorem run_readReg_operand {s : State} (h : s.inDebug = false) (n : BitVec 4) :
    (readReg n).run s = .ok (s.operand n) s := by
  by_cases hn : n = 15
  · subst hn
    show readPc.run s = _
    rw [run_readPc h]
    rfl
  · rw [run_readReg hn]
    simp only [State.operand, if_neg hn]

theorem run_operand2 {s : State} (h : s.inDebug = false) (o : Operand2) :
    (operand2 o).run s = .ok (s.shifter o) s := by
  cases o <;> simp [operand2, run_readReg_operand h, State.shifter]

theorem run_offsetValue {s : State} (h : s.inDebug = false) (o : Offset) :
    (offsetValue o).run s = .ok (s.offset o) s := by
  cases o <;> simp [offsetValue, run_readReg_operand h, State.offset]

/-- Addressing modes 2 and 3: the address, and the moved base where it is written back. -/
theorem run_addressMode {s : State} (h : s.inDebug = false) (x : Index) (rn : BitVec 4) (o : Offset) :
    (addressMode x rn o).run s =
      .ok { addr := s.address x rn o, wb := if x.p && !x.w then none else some (s.moved x rn o) } s := by
  obtain ⟨p, u, w⟩ := x
  simp only [addressMode, run_bind, run_readReg_operand h, run_offsetValue h, run_pure]
  cases p <;> cases w <;> rfl

/-- The base is written back to the state the access left, where the form does so. -/
theorem run_writeBack (u : State) (x : Index) (rn : BitVec 4) (a v : Word) :
    (writeBack rn { addr := a, wb := if x.p && !x.w then none else some v }).run u = .ok () (u.withBase x rn v) := by
  obtain ⟨p, up, w⟩ := x
  cases p <;> cases w <;> rfl

theorem run_storedReg {s : State} (h : s.inDebug = false) (n : BitVec 4) :
    (storedReg n).run s = .ok (s.storeValue n) s := by
  simp only [storedReg, State.storeValue]
  split
  · simp [storedPc, h]
  · next hn => exact run_readReg hn s

/-- The combinations of modes 2 and 3 that stop. -/
theorem unpredictable_badTransfer (x : Index) (rn rd : BitVec 4) (o : Offset) :
    x.unpredictable rn rd o = badTransfer x rn rd o := by
  obtain ⟨p, u, w⟩ := x
  cases p <;> cases w <;> rfl

/-! ### The opcodes -/

/-- V of a sum says that the result differs from the exact sum. -/
theorem addWithCarry_overflow (x y : Word) (c : Bool) :
    (addWithCarry x y c).overflow = ((addWithCarry x y c).result.toInt != x.toInt + y.toInt + c.toNat) := by
  have hx := x.isLt
  have hy := y.isLt
  cases c <;>
    simp only [addWithCarry, BitVec.toInt_eq_toNat_cond, BitVec.toNat_ofNat, Bool.toNat_false, Bool.toNat_true] <;>
  · rw [Bool.eq_iff_iff]
    simp only [Bool.or_eq_true, decide_eq_true_eq, bne_iff_ne, ne_eq]
    split <;> split <;> split <;> omega

theorem addWithCarry_result (x y : Word) (c : Bool) : (addWithCarry x y c).result = x + y + boolWord c := by
  apply BitVec.eq_of_toNat_eq
  cases c <;> simp [addWithCarry, boolWord]

theorem not_toInt (x : Word) : (~~~x).toInt = -x.toInt - 1 := by
  have := x.isLt
  rw [BitVec.toInt_eq_toNat_cond, BitVec.toInt_eq_toNat_cond, BitVec.toNat_not]
  split <;> split <;> omega

/-- An opcode gives the value and the flags of plain arithmetic. -/
theorem alu_apply (op : AluOp) (a b : Word) (sco : Bool) (f : Nzcv) :
    op.apply a b sco f = (aluValue op a b f.c, aluFlags op a b sco f) := by
  have ha := a.isLt
  have hb := b.isLt
  have hn (w : Word) : (~~~w).toNat = 2 ^ 32 - 1 - w.toNat := BitVec.toNat_not
  have arith (x y w : Word) (cin c : Bool) (e : Int) (h1 : x + y + boolWord cin = w)
      (h2 : (addWithCarry x y cin).carry = c) (h3 : x.toInt + y.toInt + cin.toNat = e) :
      ((addWithCarry x y cin).result, (addWithCarry x y cin).flags) =
        (w, { n := w.msb, z := w == 0, c := c, v := w.toInt != e : Nzcv }) := by
    simp only [Sum.flags, addWithCarry_overflow, h2, h3]
    rw [addWithCarry_result, h1]
  obtain ⟨n, z, c, v⟩ := f
  cases op <;> try rfl
  all_goals
    refine arith _ _ _ _ _ _ ?_ ?_ ?_
    · cases c <;>
        simp only [boolWord, aluValue, Bool.not_true, Bool.not_false, Bool.false_eq_true, if_true, if_false] <;> bv_omega
    · cases c <;>
        simp only [addWithCarry, aluCarry, hn, Bool.toNat_true, Bool.toNat_false, Bool.not_true, Bool.not_false] <;>
        (apply decide_eq_decide.2; omega)
    · cases c <;> simp only [not_toInt, Bool.toNat_true, Bool.toNat_false, Bool.not_true, Bool.not_false] <;> omega

end Sys2Proof.Machine
end

