-- ==== Sys2Proof/Laws/Access.lean ====
section
/-!
SUPPORT. One access to memory: what the loads and the stores of an item, of a block and of an exclusive access answer where
the vocabulary says what memory holds or what storing leaves (20_memory.md R549, R552, R600 to R608, R620).
-/
namespace Sys2Proof.Machine

/-! ### Alignment -/

/-- The bytes of the largest part of an access of a type. -/
def AccessType.unit : AccessType → Nat
  | .byte => 1
  | .half => 2
  | .halfSync => 2
  | .wordLoad => 4
  | .wordStore => 4
  | .wordSync => 4
  | .twoWord => 4
  | .multi => 4
  | .doubleSync => 4

/-- An access the check lets through as it is lies within a word. -/
theorem alignCheck_normal : ∀ (a u : Bool) (t : AccessType) (b : BitVec 3), alignCheck a u t b = .normal →
    (b.extractLsb' 0 2).toNat + t.unit ≤ 4 := by
  intro a u t b
  revert a u b
  cases t <;> decide

/-- An address the check forces down lies within a word. -/
theorem alignCheck_forced : ∀ (a u : Bool) (t : AccessType) (b : BitVec 3) (k : Nat), alignCheck a u t b = .forced k →
    (k = 1 ∧ t.unit = 2) ∨ k = 2 ∨ k = 3 := by
  intro a u t b k h
  cases t <;> simp only [alignCheck] at h <;> (repeat' split at h) <;> cases h <;> simp [AccessType.unit]

theorem alignDown_toNat (a : Word) (k : Nat) : (alignDown a k).toNat = a.toNat / 2 ^ k * 2 ^ k := by
  have ha := a.isLt
  have h : a.toNat / 2 ^ k * 2 ^ k ≤ a.toNat := Nat.div_mul_le_self _ _
  simp only [alignDown, BitVec.toNat_shiftLeft, BitVec.toNat_ushiftRight, Nat.shiftRight_eq_div_pow, Nat.shiftLeft_eq]
  exact Nat.mod_eq_of_lt (by omega)

theorem low2_toNat (a : Word) : (a.extractLsb' 0 2).toNat = a.toNat % 4 := by simp [BitVec.extractLsb'_toNat]

/-- The item at the address of an access that is not unaligned lies within a word. -/
theorem State.AccessAddress.fits {s : State} {t : AccessType} {va a : Word} (h : s.AccessAddress t va a) :
    (a.extractLsb' 0 2).toNat + t.unit ≤ 4 := by
  rcases h with ⟨h, rfl⟩ | ⟨k, h, rfl⟩
  · have := alignCheck_normal _ _ _ _ h
    have e : (a.extractLsb' 0 3).extractLsb' 0 2 = a.extractLsb' 0 2 := by
      apply BitVec.eq_of_toNat_eq
      simp only [BitVec.extractLsb'_toNat]
      omega
    rwa [e] at this
  · have ha := va.isLt
    rw [low2_toNat, alignDown_toNat]
    rcases alignCheck_forced _ _ _ _ _ h with ⟨rfl, hu⟩ | rfl | rfl
    · rw [hu]; omega
    · have : t.unit ≤ 4 := by cases t <;> decide
      omega
    · have : t.unit ≤ 4 := by cases t <;> decide
      omega

/-- The address of a word access is a multiple of 4. -/
theorem State.AccessAddress.word {s : State} {t : AccessType} {va a : Word} (h : s.AccessAddress t va a)
    (ht : t.unit = 4) : a.toNat % 4 = 0 := by
  have := h.fits
  rw [ht, low2_toNat] at this
  omega

theorem parts_within {va : Word} {n : Nat} (h : (va.extractLsb' 0 2).toNat + n ≤ 4) :
    parts va n = [{ va := va, len := n, item := n }] := by
  simp only [parts, if_pos (by omega : n ≤ 4 - (va.extractLsb' 0 2).toNat)]

theorem parts_word {va : Word} (h : va.toNat % 4 = 0) : parts va 4 = [{ va := va, len := 4, item := 4 }] :=
  parts_within (Nat.le_of_eq (by rw [low2_toNat, h]))

theorem word_succ {va : Word} (h : va.toNat % 4 = 0) : (va + 4).toNat % 4 = 0 := by
  have e : (4 : Word).toNat = 4 := rfl
  rw [BitVec.toNat_add, e]
  omega

/-- Step 1 of an access where the check does not fault. -/
theorem run_checkAlignment {s : State} (he : s.reservedEndian = false) {t : AccessType} {va a : Word}
    (h : s.AccessAddress t va a) (write : Bool) :
    (checkAlignment t va write).run s = .ok (.ok { va := a, unaligned := false }) s := by
  simp only [checkAlignment, run_bind, run_get, run_refuseIf, he, Bool.false_eq_true, if_false]
  rcases h with ⟨h, rfl⟩ | ⟨k, h, rfl⟩ <;>
  · simp only [State.alignment] at h
    rw [h]
    rfl

theorem run_checkAlignment_unaligned {s : State} (he : s.reservedEndian = false) {t : AccessType} {va : Word}
    (h : s.alignment t va = .unaligned) (write : Bool) :
    (checkAlignment t va write).run s = .ok (.ok { va := va, unaligned := true }) s := by
  simp only [checkAlignment, run_bind, run_get, run_refuseIf, he, Bool.false_eq_true, if_false]
  simp only [State.alignment] at h
  rw [h]
  rfl

theorem run_checkAlignment_fault {s : State} (he : s.reservedEndian = false) {t : AccessType} {va : Word}
    (h : s.alignment t va = .fault) (write : Bool) :
    (checkAlignment t va write).run s = .ok (.error (alignmentAbort (s.cp15.mva s.nonSecure va) write)) s := by
  simp only [checkAlignment, run_bind, run_get, run_refuseIf, he, Bool.false_eq_true, if_false]
  simp only [State.alignment] at h
  rw [h]
  rfl

/-! ### Places -/

/-- A translation has no place where it rests on the attributes of its mapping and those are reserved (21_mmu.md R661). -/
theorem State.placeOf_eq_none (s : State) (ns : Bool) (kind : Access) (t : Translation) :
    s.placeOf ns kind t = none ↔ t.attrs = none ∧ s.cp15.usesAttrs ns kind t = true := by
  cases h : t.attrs <;> simp [State.placeOf, h]

/-! ### Parts -/

@[simp] theorem run_orAbort_ok {α : Type} (a : α) (s : State) : (orAbort (.ok a)).run s = .ok a s := rfl

@[simp] theorem run_orAbort_error {α : Type} (a : DataAbort) (s : State) :
    (orAbort (.error a) : M α).run s = (takeDataAbort a : M α).run s := rfl

/-- With no watchpoint enabled none is recorded. -/
theorem run_recordWatch {s : State} (h : s.NoWatch) (d : Word) (size len : Nat) (l w p : Bool) (dom : BitVec 4) :
    (recordWatch d size len l w p dom).run s = .ok () s := by
  have hw : s.watchHit d size len l w p = false := by
    simp only [State.watchHit, State.watchpointHit]
    show ((s.dbg.wcr[0].getLsbD 0 && _ && _ && _ && _ && _) || (s.dbg.wcr[1].getLsbD 0 && _ && _ && _ && _ && _)) = false
    rw [h.1, h.2]
    rfl
  simp only [recordWatch, run_modify, hw, Bool.and_false, Bool.false_eq_true, if_false]

theorem run_checkUnaligned {s : State} {m : Mode1} {p : Place} (h : m.unaligned = false ∨ p.type = .normal)
    (mva : Word) (write : Bool) : (checkUnaligned m p mva write).run s = .ok none s := by
  have : (m.unaligned && p.type != .normal) = false := by rcases h with h | h <;> simp [h]
  simp only [checkUnaligned, this, Bool.false_eq_true, if_false, run_pure]

/-- A part that can be read is read. -/
theorem run_readParts_cons {s : State} (hw : s.NoWatch) {m : Mode1} {q : Part} {p : Place}
    (ha : s.At q.va .read m.priv p) (hu : m.unaligned = false ∨ p.type = .normal) (l : List Part) (g : Gathered) :
    (readParts m (q :: l) g).run s =
      (readParts m l { g with bytes := g.bytes ++ s.partBytes p 0 q.len }).run s := by
  have hl : (locate q.va .read m.priv).run s = .ok (.ok p) s := ha.1
  simp only [readParts, run_bind, run_get, hl, run_checkUnaligned hu, run_recordWatch hw, ha.2]

/-- A part that can be written is written. -/
theorem run_writeParts_cons {s : State} (hw : s.NoWatch) {m : Mode1} {q : Part} {p : Place}
    (ha : s.At q.va .write m.priv p) (hu : m.unaligned = false ∨ p.type = .normal) (l : List Part) (bytes : List Byte)
    (b : Bool) :
    (writeParts m (q :: l) bytes b).run s =
      (writeParts m l (bytes.drop q.len) b).run (s.writePart p 0 (bytes.take q.len)) := by
  have hl : (locate q.va .write m.priv).run s = .ok (.ok p) s := ha.1
  simp only [writeParts, run_bind, run_get, run_set, hl, run_checkUnaligned hu, run_recordWatch hw, ha.2]

@[simp] theorem run_readParts_nil (m : Mode1) (g : Gathered) (s : State) :
    (readParts m [] g).run s = .ok (.ok g) s := rfl

@[simp] theorem run_writeParts_nil (m : Mode1) (l : List Byte) (b : Bool) (s : State) :
    (writeParts m [] l b).run s = .ok (.ok b) s := rfl

theorem leBytes_length (n v : Nat) : (leBytes n v).length = n := by
  induction n generalizing v with
  | zero => rfl
  | succ n ih => simp [leBytes, ih]

theorem scatter_length (s : State) (v : Word) (n : Nat) : (s.scatter v n).length = n := by
  simp only [State.scatter]
  split <;> simp [leBytes_length]

theorem State.NoWatch.writePart {s : State} (h : s.NoWatch) (p : Place) (k : Nat) (l : List Byte) :
    (s.writePart p k l).NoWatch := by
  simpa only [State.NoWatch, State.writePart_dbg] using h

/-! ### Items -/

/-- An item in one part is read. -/
theorem run_readItem_one {s : State} (hw : s.NoWatch) {m : Mode1} {va : Word} {n : Nat} {q : Part} {p : Place}
    (hp : parts va n = [q]) (ha : s.At q.va .read m.priv p) (hu : m.unaligned = false ∨ p.type = .normal) :
    (readItem m va n).run s = .ok (.ok (s.assemble (s.partBytes p 0 q.len))) s := by
  simp only [readItem, readChecked, run_bind, hp, run_readParts_cons hw ha hu, run_readParts_nil, run_get,
    Bool.false_eq_true, if_false, run_pure, List.nil_append]

/-- An item in two parts is read. -/
theorem run_readItem_two {s : State} (hw : s.NoWatch) {m : Mode1} {va : Word} {n : Nat} {q r : Part} {p1 p2 : Place}
    (hp : parts va n = [q, r]) (h1 : s.At q.va .read m.priv p1) (u1 : m.unaligned = false ∨ p1.type = .normal)
    (h2 : s.At r.va .read m.priv p2) (u2 : m.unaligned = false ∨ p2.type = .normal) :
    (readItem m va n).run s = .ok (.ok (s.assemble (s.partBytes p1 0 q.len ++ s.partBytes p2 0 r.len))) s := by
  simp only [readItem, readChecked, run_bind, hp, run_readParts_cons hw h1 u1, run_readParts_cons hw h2 u2,
    run_readParts_nil, run_get, Bool.false_eq_true, if_false, run_pure, List.nil_append]

/-- An item in one part is written. -/
theorem run_writeItem_one {s : State} (hw : s.NoWatch) {m : Mode1} {va : Word} {n : Nat} {q : Part} {p : Place}
    (hp : parts va n = [q]) (hq : n ≤ q.len) (ha : s.At q.va .write m.priv p)
    (hu : m.unaligned = false ∨ p.type = .normal) (v : Word) :
    (writeItem m va n v).run s = .ok (.ok ()) (s.writePart p 0 (s.scatter v n)) := by
  have e : (s.scatter v n).take q.len = s.scatter v n := List.take_of_length_le (by rw [scatter_length]; exact hq)
  simp only [writeItem, writeChecked, run_bind, run_get, hp, run_writeParts_cons hw ha hu, run_writeParts_nil, e, run_pure]

/-- An item in two parts is written. -/
theorem run_writeItem_two {s : State} (hw : s.NoWatch) {m : Mode1} {va : Word} {n : Nat} {q r : Part} {p1 p2 : Place}
    (hp : parts va n = [q, r]) (hr : n ≤ q.len + r.len) (h1 : s.At q.va .write m.priv p1)
    (u1 : m.unaligned = false ∨ p1.type = .normal) (v : Word)
    (h2 : (s.writePart p1 0 ((s.scatter v n).take q.len)).At r.va .write m.priv p2)
    (u2 : m.unaligned = false ∨ p2.type = .normal) :
    (writeItem m va n v).run s =
      .ok (.ok ()) ((s.writePart p1 0 ((s.scatter v n).take q.len)).writePart p2 0 ((s.scatter v n).drop q.len)) := by
  have e : ((s.scatter v n).drop q.len).take r.len = (s.scatter v n).drop q.len :=
    List.take_of_length_le (by rw [List.length_drop, scatter_length]; omega)
  simp only [writeItem, writeChecked, run_bind, run_get, hp, run_writeParts_cons hw h1 u1,
    run_writeParts_cons (hw.writePart p1 0 ((s.scatter v n).take q.len)) h2 u2, run_writeParts_nil, e, run_pure]

/-- The parts of an item hold its bytes. -/
theorem parts_one_len {va : Word} {n : Nat} {q : Part} (h : parts va n = [q]) : n ≤ q.len := by
  simp only [parts] at h
  split at h
  · injection h with h; subst h; exact Nat.le_refl n
  · injection h with _ h; cases h

theorem parts_two_len {va : Word} {n : Nat} {q r : Part} (h : parts va n = [q, r]) : n ≤ q.len + r.len := by
  simp only [parts] at h
  split at h
  · injection h with _ h; cases h
  · injection h with h1 h
    injection h with h2 _
    subst h1; subst h2
    show n ≤ 4 - (va.extractLsb' 0 2).toNat + (n - (4 - (va.extractLsb' 0 2).toNat))
    omega

theorem rotateRight_zero (w : Word) : w.rotateRight 0 = w := by
  apply BitVec.eq_of_getLsbD_eq
  intro i hi
  simp [hi]

/-- A load of one item: what memory holds. -/
theorem run_loadItem {s : State} {t : AccessType} {n : Nat} {user : Bool} {va w : Word} (hn : n ≤ t.unit)
    (h : s.Holds t n (s.privileged && !user) va w) (precise : Bool) :
    (loadItem t n user precise va).run s = .ok w s := by
  obtain ⟨he, hw, ⟨a, p, ha, hp, rfl⟩ | ⟨hu, h⟩⟩ := h
  · have hf := ha.fits
    have hr := run_readItem_one hw (m := s.accessMode { va := a, unaligned := false } user precise)
      (parts_within (va := a) (n := n) (by omega)) hp (.inl rfl)
    simp only [loadItem, run_bind, run_checkAlignment he ha, run_orAbort_ok, run_get, hr, run_pure, Bool.not_false,
      Bool.and_true, decide_eq_true_eq]
    split
    · rfl
    · rw [rotateRight_zero]
  · have e (w : Word) : (if (decide (t = .wordLoad) && !true) = true then
        w.rotateRight (8 * (va.extractLsb' 0 2).toNat) else w) = w := by simp
    rcases h with ⟨q, p, hq, hp, ht, rfl⟩ | ⟨q, r, p1, p2, hq, h1, t1, h2, t2, rfl⟩
    · have hr := run_readItem_one hw (m := s.accessMode { va := va, unaligned := true } user precise) hq hp (.inr ht)
      simp only [loadItem, run_bind, run_checkAlignment_unaligned he hu, run_orAbort_ok, run_get, hr, run_pure, e]
    · have hr := run_readItem_two hw (m := s.accessMode { va := va, unaligned := true } user precise) hq h1 (.inr t1) h2
        (.inr t2)
      simp only [loadItem, run_bind, run_checkAlignment_unaligned he hu, run_orAbort_ok, run_get, hr, run_pure, e]

/-- A load of the word that goes to the PC: what memory holds, where the access is not unaligned. -/
theorem run_loadPcWord {s : State} {va w : Word} (hu : s.alignment .wordLoad va ≠ .unaligned)
    (h : s.Holds .wordLoad 4 s.privileged va w) : (loadPcWord va).run s = .ok w s := by
  have hl := run_loadItem (user := false) (t := .wordLoad) (n := 4) (by decide) (by simpa using h) true
  obtain ⟨he, -, ⟨a, p, ha, -⟩ | ⟨h, -⟩⟩ := h
  · simp only [loadPcWord, run_bind, run_checkAlignment he ha, run_orAbort_ok, run_get, Bool.false_eq_true, if_false, hl]
  · exact absurd h hu

/-- A store of one item: what storing leaves. -/
theorem run_storeItem {s u : State} {t : AccessType} {n : Nat} {user : Bool} {va v : Word} (hn : n ≤ t.unit)
    (h : s.StoredAs t n (s.privileged && !user) va v u) : (storeItem t n user va v).run s = .ok () u := by
  obtain ⟨he, hw, ⟨a, p, ha, hp, rfl⟩ | ⟨hu, h⟩⟩ := h
  · have hf := ha.fits
    have hr := run_writeItem_one hw (m := s.accessMode { va := a, unaligned := false } user false)
      (parts_within (va := a) (n := n) (by omega)) (Nat.le_refl n) hp (.inl rfl) v
    simp only [storeItem, run_bind, run_checkAlignment he ha, run_orAbort_ok, run_get, hr]
  · rcases h with ⟨q, p, hq, hp, ht, rfl⟩ | ⟨q, r, p1, p2, hq, h1, t1, t2, h2, rfl⟩
    · have hr := run_writeItem_one hw (m := s.accessMode { va := va, unaligned := true } user false) hq
        (parts_one_len hq) hp (.inr ht) v
      simp only [storeItem, run_bind, run_checkAlignment_unaligned he hu, run_orAbort_ok, run_get, hr]
    · have hr := run_writeItem_two hw (m := s.accessMode { va := va, unaligned := true } user false) hq
        (parts_two_len hq) h1 (.inr t1) v h2 (.inr t2)
      simp only [storeItem, run_bind, run_checkAlignment_unaligned he hu, run_orAbort_ok, run_get, hr]

/-! ### Blocks -/

/-- A block of words that memory holds is loaded. -/
theorem run_loadWords {s : State} (hw : s.NoWatch) {m : Mode1} (hm : m.unaligned = false) :
    ∀ {ws : List Word} {va : Word}, va.toNat % 4 = 0 → s.HoldsWords m.priv va ws →
      (loadWords m va ws.length).run s = .ok { words := ws, abort := none } s
  | [], _, _, _ => rfl
  | w :: ws, va, hv, ⟨⟨p, hp, hx⟩, ht⟩ => by
    have ih := run_loadWords hw hm (word_succ hv) ht
    simp only [List.length_cons, loadWords, run_bind, run_readItem_one hw (parts_word hv) hp (.inl hm), ih, run_pure]
    rw [← hx]

/-- A block of words is stored. -/
theorem run_storeWords {m : Mode1} (hm : m.unaligned = false) :
    ∀ {ws : List Word} {s u : State} {va : Word}, s.NoWatch → va.toNat % 4 = 0 → s.StoredWords m.priv va ws u →
      (storeWords m va ws).run s = .ok () u
  | [], s, u, _, _, _, h => by rw [State.StoredWords] at h; subst h; rfl
  | w :: ws, s, u, va, hw, hv, h => by
    rw [State.StoredWords] at h
    obtain ⟨p, hp, ht⟩ := h
    have ih := run_storeWords hm (hw.writePart p 0 (s.scatter w 4)) (word_succ hv) ht
    simp only [storeWords, run_bind, run_writeItem_one hw (parts_word hv) (Nat.le_refl 4) hp (.inl hm), run_orAbort_ok,
      ih]

end Sys2Proof.Machine
end

