-- ==== Sys2Proof/Laws/Status.lean ====
section
/-!
SUPPORT. The writes of the PC and of the program status registers: what an interworking branch, a load of the PC and an
exception return answer, in the words of the vocabulary (10_state.md R70, 43_branch_status.md R1202 to R1205).
-/
namespace Sys2Proof.Machine

/-! ### Fields of a word -/

@[simp] theorem setBit_getLsbD (w : Word) (k j : Nat) (b : Bool) (hk : k < 32) :
    (setBit w k b).getLsbD j = if j = k then b else w.getLsbD j := by
  have e : (1#32 <<< k).getLsbD j = decide (j = k) := by
    simp only [BitVec.getLsbD_shiftLeft, BitVec.getLsbD_one]
    rw [Bool.eq_iff_iff]
    simp only [Bool.and_eq_true, decide_eq_true_eq, Bool.not_eq_true', decide_eq_false_iff_not]
    omega
  simp only [setBit]
  split
  · next h => simp only [BitVec.getLsbD_or, e]; split <;> simp_all
  · next h =>
    simp only [BitVec.getLsbD_and, BitVec.getLsbD_not, e]
    by_cases hj : j = k
    · simp_all
    · simp only [hj, decide_false, Bool.not_false, Bool.and_true, if_false]
      by_cases h32 : j < 32
      · simp [h32]
      · simp [h32, BitVec.getLsbD_of_ge w j (by omega)]

theorem merge_getLsbD (old v mask : Word) (j : Nat) :
    (merge old v mask).getLsbD j = if mask.getLsbD j then v.getLsbD j else old.getLsbD j := by
  simp only [merge, BitVec.getLsbD_or, BitVec.getLsbD_and, BitVec.getLsbD_not]
  by_cases h32 : j < 32
  · cases mask.getLsbD j <;> simp [h32]
  · simp [h32, BitVec.getLsbD_of_ge _ j (by omega : 32 ≤ j)]

/-- The mode of a word that a merge takes from its new value. -/
theorem merge_mode_new {old v mask : Word} (h : mask &&& 0x1F = 0x1F) :
    (merge old v mask).extractLsb' 0 5 = v.extractLsb' 0 5 := by
  apply BitVec.eq_of_getLsbD_eq
  intro i hi
  have hm : mask.getLsbD i = true := by
    have := congrArg (fun w => w.getLsbD i) h
    have h1 : (0x1F : Word).getLsbD i = true := by
      have : i = 0 ∨ i = 1 ∨ i = 2 ∨ i = 3 ∨ i = 4 := by omega
      rcases this with rfl | rfl | rfl | rfl | rfl <;> rfl
    simpa only [BitVec.getLsbD_and, h1, Bool.and_true] using this
  simp only [BitVec.getLsbD_extractLsb', hi, decide_true, Bool.true_and, Nat.zero_add, merge_getLsbD, hm, if_true]

/-- The mode of a word that a merge keeps. -/
theorem merge_mode_old {old v mask : Word} (h : mask &&& 0x1F = 0) :
    (merge old v mask).extractLsb' 0 5 = old.extractLsb' 0 5 := by
  apply BitVec.eq_of_getLsbD_eq
  intro i hi
  have hm : mask.getLsbD i = false := by
    have := congrArg (fun w => w.getLsbD i) h
    have h1 : (0x1F : Word).getLsbD i = true := by
      have : i = 0 ∨ i = 1 ∨ i = 2 ∨ i = 3 ∨ i = 4 := by omega
      rcases this with rfl | rfl | rfl | rfl | rfl <;> rfl
    simp only [BitVec.getLsbD_and, h1, Bool.and_true] at this
    rw [this]
    exact BitVec.getLsbD_zero
  simp only [BitVec.getLsbD_extractLsb', hi, decide_true, Bool.true_and, Nat.zero_add, merge_getLsbD, hm,
    Bool.false_eq_true, if_false]

/-- A replaced field reads as the new value, the other bits as before. -/
theorem setField_getLsbD {len : Nat} (w : Word) (lo : Nat) (v : BitVec len) (h : lo + len ≤ 32) (j : Nat) :
    (setField w lo v).getLsbD j = if lo ≤ j ∧ j < lo + len then v.getLsbD (j - lo) else w.getLsbD j := by
  simp only [setField, BitVec.getLsbD_or, BitVec.getLsbD_and, BitVec.getLsbD_not, BitVec.getLsbD_shiftLeft,
    BitVec.getLsbD_setWidth, BitVec.getLsbD_allOnes]
  by_cases h32 : j < 32
  · by_cases h1 : j < lo
    · have h2 : ¬ lo ≤ j := by omega
      simp [h32, h1, h2]
    · have h3 : j - lo < 32 := by omega
      have h4 : lo ≤ j := by omega
      by_cases h2 : j < lo + len
      · have h5 : j - lo < len := by omega
        simp [h32, h1, h2, h3, h4, h5]
      · have h5 : ¬ j - lo < len := by omega
        simp [h32, h1, h2, h3, h4, h5, BitVec.getLsbD_of_ge v (j - lo) (by omega)]
  · have h1 : ¬ (lo ≤ j ∧ j < lo + len) := by omega
    simp [h32, h1, BitVec.getLsbD_of_ge w j (by omega)]

/-- A field above bit 4 leaves the mode. -/
theorem setField_mode {len : Nat} (w : Word) (lo : Nat) (v : BitVec len) (h : lo + len ≤ 32) (hlo : 5 ≤ lo) :
    (setField w lo v).extractLsb' 0 5 = w.extractLsb' 0 5 := by
  apply BitVec.eq_of_getLsbD_eq
  intro i hi
  have : ¬ (lo ≤ 0 + i ∧ 0 + i < lo + len) := by omega
  simp only [BitVec.getLsbD_extractLsb', hi, setField_getLsbD w lo v h, this, if_false]

/-- A bit above bit 4 leaves the mode. -/
theorem setBit_mode (w : Word) (k : Nat) (b : Bool) (hk : k < 32) (h5 : 5 ≤ k) :
    (setBit w k b).extractLsb' 0 5 = w.extractLsb' 0 5 := by
  apply BitVec.eq_of_getLsbD_eq
  intro i hi
  have : ¬ 0 + i = k := by omega
  simp only [BitVec.getLsbD_extractLsb', hi, setBit_getLsbD w k _ b hk, this, if_false]

/-! ### The flags -/

@[simp] theorem State.setNzcv_bitT (s : State) (f : Nzcv) : (s.setNzcv f).bitT = s.bitT := by
  simp only [State.bitT, State.setNzcv, setField_getLsbD (len := 1 + 1 + 1 + 1) _ 28 _ (by decide)]
  rfl

@[simp] theorem State.setNzcv_bitJ (s : State) (f : Nzcv) : (s.setNzcv f).bitJ = s.bitJ := by
  simp only [State.bitJ, State.setNzcv, setField_getLsbD (len := 1 + 1 + 1 + 1) _ 28 _ (by decide)]
  rfl

@[simp] theorem State.setNzcv_modeBits (s : State) (f : Nzcv) : (s.setNzcv f).modeBits = s.modeBits :=
  setField_mode (len := 1 + 1 + 1 + 1) _ 28 _ (by decide) (by decide)

@[simp] theorem State.setNzcv_mode (s : State) (f : Nzcv) : (s.setNzcv f).mode = s.mode := by
  simp only [State.mode, State.setNzcv_modeBits]

@[simp] theorem State.setNzcv_nextInsn (s : State) (f : Nzcv) : (s.setNzcv f).nextInsn = s.nextInsn := by
  simp only [State.nextInsn, State.ilen, State.setNzcv_bitT, State.setNzcv_pc]

/-- The condition flags read back. -/
@[simp] theorem State.setNzcv_nzcv (s : State) (f : Nzcv) : (s.setNzcv f).nzcv = f := by
  obtain ⟨n, z, c, v⟩ := f
  simp only [State.nzcv, State.flagN, State.flagZ, State.flagC, State.flagV, State.setNzcv,
    setField_getLsbD (len := 1 + 1 + 1 + 1) _ 28 _ (by decide)]
  cases n <;> cases z <;> cases c <;> cases v <;> rfl

@[simp] theorem State.setGe_bitT (s : State) (g : BitVec 4) : (s.setGe g).bitT = s.bitT := by
  simp only [State.bitT, State.setGe, setField_getLsbD (len := 4) _ 16 _ (by decide)]
  rfl

@[simp] theorem State.setGe_modeBits (s : State) (g : BitVec 4) : (s.setGe g).modeBits = s.modeBits :=
  setField_mode (len := 4) _ 16 _ (by decide) (by decide)

@[simp] theorem State.setGe_mode (s : State) (g : BitVec 4) : (s.setGe g).mode = s.mode := by
  simp only [State.mode, State.setGe_modeBits]

@[simp] theorem State.setGe_nextInsn (s : State) (g : BitVec 4) : (s.setGe g).nextInsn = s.nextInsn := by
  simp only [State.nextInsn, State.ilen, State.setGe_bitT, State.setGe_pc]

@[simp] theorem State.orQ_bitT (s : State) (b : Bool) : (s.orQ b).bitT = s.bitT := by
  cases b
  · rfl
  · show (setBit s.cpsr 27 true).getLsbD 5 = s.cpsr.getLsbD 5
    rw [setBit_getLsbD _ _ _ _ (by decide)]
    rfl

@[simp] theorem State.orQ_modeBits (s : State) (b : Bool) : (s.orQ b).modeBits = s.modeBits := by
  cases b
  · rfl
  · exact setBit_mode _ _ _ (by decide) (by decide)

@[simp] theorem State.orQ_mode (s : State) (b : Bool) : (s.orQ b).mode = s.mode := by
  simp only [State.mode, State.orQ_modeBits]

@[simp] theorem State.orQ_inDebug (s : State) (b : Bool) : (s.orQ b).inDebug = s.inDebug := by cases b <;> rfl

@[simp] theorem State.orQ_nextInsn (s : State) (b : Bool) : (s.orQ b).nextInsn = s.nextInsn := by
  have h : (s.orQ b).pc = s.pc := by cases b <;> rfl
  simp only [State.nextInsn, State.ilen, State.orQ_bitT, h]

/-! ### Branches -/

theorem outcome_bxWritePc {s : State} (h : s.inDebug = false) (v : Word) : (bxWritePc v).outcome s = s.interwork v := by
  simp only [State.interwork]
  split
  · next h1 =>
    refine outcome_ok ?_
    simp only [bxWritePc, h1, if_true, run_modify]
    rw [branchTo_running (by exact h)]
    rfl
  · next h1 =>
    split
    · next h2 =>
      refine outcome_refused (t := s) ?_
      simp only [bxWritePc, h1, h2, if_true]
      rfl
    · next h2 =>
      refine outcome_ok ?_
      simp only [bxWritePc, h1, h2]
      show EStateM.Result.ok () (State.branchTo _ v) = _
      rw [branchTo_running (by exact h)]
      rfl

theorem outcome_loadWritePc {s : State} (h : s.inDebug = false) (v : Word) : (loadWritePc v).outcome s = s.loadedPc v := by
  have e : (loadWritePc v).outcome s = (if s.sctlr.getLsbD 15 then branchTo (s.alignPc v) else bxWritePc v).outcome s :=
    outcome_bind_ok (run_get s) _
  rw [e]
  simp only [State.loadedPc]
  split
  · refine outcome_ok ?_
    rw [run_branchTo, branchTo_running h]
    rfl
  · exact outcome_bxWritePc h v

/-! ### Program status -/

/-- The bits an exception return writes are the bits of `State.returnMask`, where the guard of Secure Monitor mode leaves
the mode. -/
theorem returnMask_eq {s : State} (h : s.inDebug = false) (psr : Word) :
    s.returnMask psr = (psrAssigned &&& s.cpsrWriteMask .exceptionReturn &&& psrAssigned) &&&
      (if s.privileged && s.monitorGuard .exceptionReturn (psr.extractLsb' 0 5) then 0xFFFFFFE0 else 0xFFFFFFFF) := by
  simp only [State.cpsrWriteMask, State.returnMask, State.monitorGuard, h]
  generalize (psr.extractLsb' 0 5 == Mode.mon.toBits) = g
  generalize s.secure = a
  generalize s.cp15.scr.getLsbD 5 = b
  generalize s.cp15.scr.getLsbD 4 = c
  generalize s.privileged = d
  generalize s.nonSecure = e
  generalize s.pins.spiden = f
  revert g a b c d e f
  decide

theorem cpsrWriteMask_bit0 {s : State} (h : s.inDebug = false) :
    (psrAssigned &&& s.cpsrWriteMask .exceptionReturn &&& psrAssigned).getLsbD 0 = s.privileged := by
  simp only [State.cpsrWriteMask, h]
  generalize s.secure = a
  generalize s.cp15.scr.getLsbD 5 = b
  generalize s.cp15.scr.getLsbD 4 = c
  generalize s.privileged = d
  generalize s.nonSecure = e
  generalize s.pins.spiden = f
  revert a b c d e f
  decide

theorem run_writeCpsr_return {s : State} (h : s.inDebug = false) (psr : Word) :
    (writeCpsr .exceptionReturn psrAssigned psr).run s =
      if s.privileged && (Mode.ofBits (psr.extractLsb' 0 5)).isNone then .error (.refused .unassignedMode) s
      else .ok () { s with cpsr := merge s.cpsr psr (s.returnMask psr) } := by
  have hmon : s.monitorGuard .exceptionReturn (psr.extractLsb' 0 5) = true →
      (Mode.ofBits (psr.extractLsb' 0 5)).isNone = false := by
    intro hg
    simp only [State.monitorGuard, Bool.and_eq_true, beq_iff_eq] at hg
    rw [hg.1.1]
    rfl
  have hm := returnMask_eq h psr
  simp only [writeCpsr, run_bind, run_get, run_ite, run_set, run_refuse, cpsrWriteMask_bit0 h]
  cases hp : s.privileged
  · simp only [hp, Bool.false_and, Bool.false_eq_true, if_false] at hm ⊢
    rw [hm]
    have : (0xFFFFFFFF : Word) = BitVec.allOnes 32 := rfl
    rw [this, BitVec.and_allOnes]
  · simp only [hp, Bool.true_and, if_true] at hm ⊢
    cases hg : s.monitorGuard .exceptionReturn (psr.extractLsb' 0 5)
    · simp only [hg, Bool.false_eq_true, if_false] at hm ⊢
      have e : (0xFFFFFFFF : Word) = BitVec.allOnes 32 := rfl
      rw [hm, e, BitVec.and_allOnes]
      cases Mode.ofBits (psr.extractLsb' 0 5) <;> simp
    · simp only [hg, if_true] at hm ⊢
      rw [hm, hmon hg]
      simp

/-- An exception return. -/
theorem outcome_exceptionReturn {s : State} (h : s.inDebug = false) (a psr : Word) :
    (exceptionReturn a psr).outcome s = s.returnOutcome a psr := by
  have hr := run_writeCpsr_return h psr
  simp only [State.returnOutcome]
  split
  · next hc =>
    refine outcome_refused (t := s) ?_
    simp only [exceptionReturn, run_bind, hr, hc, if_true]
  · next hc =>
    rw [if_neg hc] at hr
    have hd : State.inDebug { s with cpsr := merge s.cpsr psr (s.returnMask psr) } = false := h
    have hj : (merge s.cpsr psr (s.returnMask psr)).getLsbD 24 =
      State.bitJ { s with cpsr := merge s.cpsr psr (s.returnMask psr) } := rfl
    have ht : (merge s.cpsr psr (s.returnMask psr)).getLsbD 5 =
      State.bitT { s with cpsr := merge s.cpsr psr (s.returnMask psr) } := rfl
    rw [hj, ht]
    split
    · next hf =>
      refine outcome_faulted (t := { s with cpsr := merge s.cpsr psr (s.returnMask psr) }) ?_
      simp only [exceptionReturn, run_bind, hr, run_get, hd, hf, Bool.not_false, Bool.and_true, if_true, run_throw]
    · next hf =>
      refine outcome_ok ?_
      simp only [exceptionReturn, run_bind, hr, run_get, hd, hf, Bool.not_false, Bool.and_true, Bool.false_eq_true, if_false,
        run_modify, branchTo_running hd]
      rfl

end Sys2Proof.Machine
end

