-- ==== Sys2Proof/Laws/Transfer.lean ====
section
/-!
SUPPORT. The parts of the loads and stores: what a store keeps, what a block moves, what an access that aborts takes
(44_loadstore.md R1261, 45_ldm_excl_swp.md R1360, 60_exceptions.md R1624).
-/
namespace Sys2Proof.Machine

/-! ### What stays -/

@[simp] theorem State.withBase_inDebug (s : State) (x : Index) (rn : BitVec 4) (v : Word) :
    (s.withBase x rn v).inDebug = s.inDebug := by
  simp only [State.withBase]
  split <;> rfl

@[simp] theorem State.withBase_nextInsn (s : State) (x : Index) (rn : BitVec 4) (v : Word) :
    (s.withBase x rn v).nextInsn = s.nextInsn := by
  simp only [State.withBase]
  split <;> rfl

/-- What a store leaves but the bytes: everything else of a state. -/
structure State.SameBut (s u : State) : Prop where
  regs     : u.regs = s.regs
  spsr     : u.spsr = s.spsr
  cpsr     : u.cpsr = s.cpsr
  pc       : u.pc = s.pc
  cp15     : u.cp15 = s.cp15
  dbg      : u.dbg = s.dbg
  activity : u.activity = s.activity
  monitors : u.monitors = s.monitors
  regions  : u.regions = s.regions

theorem State.SameBut.refl (s : State) : s.SameBut s := ⟨rfl, rfl, rfl, rfl, rfl, rfl, rfl, rfl, rfl⟩

theorem State.SameBut.trans {s t u : State} (h : s.SameBut t) (k : t.SameBut u) : s.SameBut u :=
  ⟨k.regs.trans h.regs, k.spsr.trans h.spsr, k.cpsr.trans h.cpsr, k.pc.trans h.pc, k.cp15.trans h.cp15,
    k.dbg.trans h.dbg, k.activity.trans h.activity, k.monitors.trans h.monitors, k.regions.trans h.regions⟩

theorem State.sameBut_writePart (s : State) (p : Place) (k : Nat) (l : List Byte) : s.SameBut (s.writePart p k l) := by
  constructor <;> simp

theorem State.SameBut.inDebug {s u : State} (h : s.SameBut u) : u.inDebug = s.inDebug := by
  simp only [State.inDebug, h.activity]

theorem State.SameBut.nextInsn {s u : State} (h : s.SameBut u) : u.nextInsn = s.nextInsn := by
  simp only [State.nextInsn, State.ilen, State.bitT, h.cpsr, h.pc]
  rfl

theorem State.SameBut.reg {s u : State} (h : s.SameBut u) (n : BitVec 4) : u.reg n = s.reg n := by
  simp only [State.reg, State.regOf, State.mode, State.modeBits, h.cpsr, h.regs]

/-- A store of an item changes bytes only. -/
theorem State.StoredAs.sameBut {s u : State} {t : AccessType} {n : Nat} {priv : Bool} {va v : Word}
    (h : s.StoredAs t n priv va v u) : s.SameBut u := by
  obtain ⟨_, _, ⟨a, p, _, _, rfl⟩ | ⟨_, ⟨q, p, _, _, _, rfl⟩ | ⟨q, r, p1, p2, _, _, _, _, _, rfl⟩⟩⟩ := h
  · exact s.sameBut_writePart _ _ _
  · exact s.sameBut_writePart _ _ _
  · exact (s.sameBut_writePart _ _ _).trans (State.sameBut_writePart _ _ _ _)

/-- A store of words changes bytes only. -/
theorem State.StoredWords.sameBut {priv : Bool} : ∀ {ws : List Word} {s u : State} {va : Word},
    s.StoredWords priv va ws u → s.SameBut u
  | [], s, u, _, h => by rw [State.StoredWords] at h; subst h; exact .refl _
  | w :: ws, s, u, va, h => by
    rw [State.StoredWords] at h
    obtain ⟨p, _, h⟩ := h
    exact (s.sameBut_writePart _ _ _).trans h.sameBut

theorem State.StoredBlock.sameBut {s u : State} {t : AccessType} {start : Word} {ws : List Word}
    (h : s.StoredBlock t start ws u) : s.SameBut u :=
  let ⟨_, _, _, _, h⟩ := h
  h.sameBut

/-! ### The end of an instruction -/

/-- The next instruction, at a state that keeps the PC and the instruction set. -/
theorem outcome_advance {s t : State} (hd : t.inDebug = false) (hn : t.nextInsn = s.nextInsn) :
    advance.outcome t = .next (t.goto s.nextInsn) := by
  rw [outcome_ok (run_advance hd), hn]
  rfl

/-! ### Aborts -/

/-- Taking a precise Data Abort. -/
theorem run_takeDataAbort {α : Type} {s : State} (h : s.inDebug = false) (a : DataAbort) :
    (takeDataAbort a : M α).run s = .error .taken (s.abortEntry a) := by
  have hd : State.inDebug { s.setDataFault (s.faultNs a.external) (fsrValue a.status a.domain a.write a.slverr) a.far with
      dbg := { s.dbg with watch := none } } = false := h
  simp only [takeDataAbort, raiseDataAbort, raise, run_bind, run_modify, run_throw, hd, Bool.false_eq_true, if_false]
  have e : State.scrEa { s.setDataFault (s.faultNs a.external) (fsrValue a.status a.domain a.write a.slverr) a.far with
      dbg := { s.dbg with watch := none } } = s.scrEa := by
    simp only [State.scrEa, State.setDataFault, Cp15.setBank]
    split <;> rfl
  rw [e]
  rfl

/-- A load whose alignment check faults. -/
theorem run_loadItem_fault {s : State} (hd : s.inDebug = false) (he : s.reservedEndian = false) {t : AccessType} {va : Word}
    (h : s.alignment t va = .fault) (n : Nat) (user precise : Bool) :
    (loadItem t n user precise va).run s =
      .error .taken (s.abortEntry (alignmentAbort (s.cp15.mva s.nonSecure va) false)) := by
  simp only [loadItem, run_bind, run_checkAlignment_fault he h, run_orAbort_error, run_takeDataAbort hd]

/-- A load of the word that goes to the PC at an unaligned address takes the Alignment fault (20_memory.md R543(b)). -/
theorem run_loadPcWord_unaligned {s : State} (hd : s.inDebug = false) (he : s.reservedEndian = false) {va : Word}
    (h : s.alignment .wordLoad va = .unaligned ∨ s.alignment .wordLoad va = .fault) :
    (loadPcWord va).run s = .error .taken (s.abortEntry (alignmentAbort (s.cp15.mva s.nonSecure va) false)) := by
  rcases h with h | h
  · simp only [loadPcWord, run_bind, run_checkAlignment_unaligned he h, run_orAbort_ok, run_get, if_true, run_takeDataAbort hd]
  · simp only [loadPcWord, run_bind, run_checkAlignment_fault he h, run_orAbort_error, run_takeDataAbort hd]

/-- A store whose alignment check faults. -/
theorem run_storeItem_fault {s : State} (hd : s.inDebug = false) (he : s.reservedEndian = false) {t : AccessType}
    {va : Word} (h : s.alignment t va = .fault) (n : Nat) (user : Bool) (v : Word) :
    (storeItem t n user va v).run s =
      .error .taken (s.abortEntry (alignmentAbort (s.cp15.mva s.nonSecure va) true)) := by
  simp only [storeItem, run_bind, run_checkAlignment_fault he h, run_orAbort_error, run_takeDataAbort hd]

/-- A load whose translation faults. -/
theorem run_loadItem_mmu {s : State} (hd : s.inDebug = false) (he : s.reservedEndian = false) {t : AccessType} {n : Nat}
    (hn : n ≤ t.unit) {va a : Word} (ha : s.AccessAddress t va a) {user : Bool} {e : MmuFault}
    (h : locate a .read (s.privileged && !user) s = .ok (.error e) s) (precise : Bool) :
    (loadItem t n user precise va).run s =
      .error .taken (s.abortEntry (e.dataAbort (s.cp15.mva s.nonSecure a) false)) := by
  have hf := ha.fits
  have hl : (locate a .read (s.accessMode { va := a, unaligned := false } user precise).priv).run s =
    .ok (.error e) s := h
  simp only [loadItem, run_bind, run_checkAlignment he ha, run_orAbort_ok, run_get, readItem, readChecked,
    parts_within (va := a) (n := n) (by omega), readParts, hl, run_pure, run_orAbort_error, run_takeDataAbort hd]

/-- A store whose translation faults. -/
theorem run_storeItem_mmu {s : State} (hd : s.inDebug = false) (he : s.reservedEndian = false) {t : AccessType} {n : Nat}
    (hn : n ≤ t.unit) {va a : Word} (ha : s.AccessAddress t va a) {user : Bool} {e : MmuFault}
    (h : locate a .write (s.privileged && !user) s = .ok (.error e) s) (v : Word) :
    (storeItem t n user va v).run s =
      .error .taken (s.abortEntry (e.dataAbort (s.cp15.mva s.nonSecure a) true)) := by
  have hf := ha.fits
  have hl : (locate a .write (s.accessMode { va := a, unaligned := false } user false).priv).run s =
    .ok (.error e) s := h
  simp only [storeItem, run_bind, run_checkAlignment he ha, run_orAbort_ok, run_get, writeItem, writeChecked,
    parts_within (va := a) (n := n) (by omega), writeParts, hl, run_pure, run_orAbort_error, run_takeDataAbort hd]

/-! ### Blocks -/

theorem mode4_block (p u : Bool) (n : Nat) (base : Word) :
    mode4 p u n base = (blockStart p u n base, blockBase u n base) := by
  cases p <;> cases u <;> rfl

/-- The memory part of a load multiple: the words memory holds, and the new base. -/
theorem run_loadMulti {s : State} {p u : Bool} {rn : BitVec 4} (hrn : rn ≠ 15) {regs : List (BitVec 4)}
    {ws : List Word} (hl : ws.length = regs.length)
    (h : s.HoldsBlock .multi (blockStart p u ws.length (s.reg rn)) ws) (read : BitVec 4 → M Word)
    (write : BitVec 4 → Word → M Unit) (keep : BitVec 4) (precise : Bool) :
    (loadMulti read write keep p u rn regs precise).run s = .ok (ws, blockBase u ws.length (s.reg rn)) s := by
  obtain ⟨he, hw, a, ha, hh⟩ := h
  have hr := run_loadWords hw (m := s.multiMode a precise) rfl (ha.word rfl) hh
  simp only [loadMulti, run_bind, run_readReg hrn, mode4_block, ← hl, run_checkAlignment he ha, run_orAbort_ok, run_get,
    hr, run_pure]

/-- The memory part of a store multiple: what storing the words leaves, and the new base. -/
theorem run_storeMulti {s t : State} {p u : Bool} {base : Word} {ws : List Word}
    (h : s.StoredBlock .multi (blockStart p u ws.length base) ws t) :
    (storeMulti p u base ws).run s = .ok (blockBase u ws.length base) t := by
  obtain ⟨he, hw, a, ha, hh⟩ := h
  have hr := run_storeWords (m := s.multiMode a false) rfl hw (ha.word rfl) hh
  simp only [storeMulti, run_bind, mode4_block, run_checkAlignment he ha, run_orAbort_ok, run_get, hr, run_pure]

/-- Registers are written in order. -/
theorem run_writeRegs (l : List (BitVec 4 × Word)) (s : State) :
    (writeRegs writeReg l).run s = .ok () (s.setRegs l) := by
  induction l generalizing s with
  | nil => rfl
  | cons x l ih => simp only [writeRegs, run_bind, run_writeReg, ih, State.setRegs]

theorem run_writeRegs_user (l : List (BitVec 4 × Word)) (s : State) :
    (writeRegs writeUserReg l).run s = .ok () (s.setUserRegs l) := by
  induction l generalizing s with
  | nil => rfl
  | cons x l ih => simp only [writeRegs, run_bind, run_writeUserReg, ih, State.setUserRegs]

@[simp] theorem State.setRegs_inDebug (l : List (BitVec 4 × Word)) (s : State) : (s.setRegs l).inDebug = s.inDebug := by
  induction l generalizing s with
  | nil => rfl
  | cons x l ih => exact ih _

@[simp] theorem State.setRegs_nextInsn (l : List (BitVec 4 × Word)) (s : State) :
    (s.setRegs l).nextInsn = s.nextInsn := by
  induction l generalizing s with
  | nil => rfl
  | cons x l ih => exact ih _

@[simp] theorem State.setUserRegs_inDebug (l : List (BitVec 4 × Word)) (s : State) :
    (s.setUserRegs l).inDebug = s.inDebug := by
  induction l generalizing s with
  | nil => rfl
  | cons x l ih => exact ih _

@[simp] theorem State.setUserRegs_nextInsn (l : List (BitVec 4 × Word)) (s : State) :
    (s.setUserRegs l).nextInsn = s.nextInsn := by
  induction l generalizing s with
  | nil => rfl
  | cons x l ih => exact ih _

/-- The registers of a list as a store transfers them. -/
theorem run_storedRegs {s : State} (hd : s.inDebug = false) (l : List (BitVec 4)) :
    (storedRegs readReg l).run s = .ok (l.map s.storeValue) s := by
  induction l with
  | nil => rfl
  | cons r l ih =>
    have e := run_storedReg hd r
    simp only [storedReg] at e
    by_cases h : r = 15
    · simp only [if_pos h] at e
      simp only [storedRegs, if_pos h, run_bind, e, ih, run_pure, List.map_cons]
    · simp only [if_neg h] at e
      simp only [storedRegs, if_neg h, run_bind, e, ih, run_pure, List.map_cons]

theorem run_storedRegs_user {s : State} (hd : s.inDebug = false) (l : List (BitVec 4)) :
    (storedRegs readUserReg l).run s =
      .ok (l.map fun n => if n = 15 then s.storeValue 15 else s.regOf .usr n) s := by
  induction l with
  | nil => rfl
  | cons r l ih =>
    by_cases h : r = 15
    · have e : storedPc.run s = .ok (s.storeValue 15) s := run_storedReg hd 15
      simp only [storedRegs, if_pos h, run_bind, e, ih, run_pure, List.map_cons]
    · have e : (readUserReg r).run s = .ok (s.regOf .usr r) s := by
        simp only [readUserReg, if_neg h, run_bind, run_get, run_pure]
      simp only [storedRegs, if_neg h, run_bind, e, ih, run_pure, List.map_cons]

end Sys2Proof.Machine
end

