-- ==== Sys2Proof/Laws/Exclusive.lean ====
section
/-!
SUPPORT. What a store-exclusive answers, by what it finds: no reservation, a reservation of another address, an access that is
not permitted (20_memory.md R602).
-/
namespace Sys2Proof.Machine

@[simp] theorem run_liftState {α : Type} (f : State → α × State) (s : State) :
    (liftState f).run s = .ok (f s).1 (f s).2 := rfl

/-- With no watchpoint enabled an exclusive access records none. -/
theorem run_recordExclusive {s : State} (h : s.NoWatch) (mva : Word) (n : Nat) (load priv : Bool) (domain : BitVec 4) :
    (recordExclusive mva n load priv domain).run s = .ok () s := by
  unfold recordExclusive
  split
  · simp only [run_bind, run_recordWatch h]
  · exact run_recordWatch h _ _ _ _ _ _ _

/-- Without a reservation nothing is stored and the status is 1. -/
theorem run_storeFails {s : State} (h : s.NoWatch) (m : Mode1) (mva : Word) (n : Nat) (domain : BitVec 4) :
    (storeFails m mva n domain).run s = .ok 1 s.opened := by
  simp only [storeFails, run_bind, run_recordExclusive h, run_modify, run_pure]
  rfl

/-- A store-exclusive with the local monitor open fails, wherever it is. -/
theorem run_storeExclusive_open {s : State} (he : s.reservedEndian = false) (hw : s.NoWatch) {t : AccessType} {va a : Word}
    (h : s.AccessAddress t va a) (hl : s.monitors.locl = false) (n : Nat) (vs : List Word) :
    (storeExclusive t va n vs).run s = .ok 1 s.opened := by
  simp only [storeExclusive, run_bind, run_checkAlignment he h, run_get, hl, Bool.not_false, if_true,
    run_storeFails hw]

/-- With the local monitor Exclusive, Shared memory needs the global tag of the address; without it the store fails, and with it
an access that is not permitted aborts, the monitor open. -/
theorem run_storeExclusive_denied {s : State} (he : s.reservedEndian = false) (hw : s.NoWatch) {t : AccessType} {va a : Word}
    (h : s.AccessAddress t va a) (hl : s.monitors.locl = true) {x : Translation} {f : MmuFault} {p : Place} {n : Nat}
    (hx : s.translateDeferred (s.request a .write s.privileged) = (.ok (x, some f), s))
    (hp : s.placeOf s.nonSecure .write x = some p) (vs : List Word) :
    (storeExclusive t va n vs).run s =
      if p.shared && s.monitors.globl != some (p.pa, n) then .ok 1 s.opened
      else (takeDataAbort (f.dataAbort (s.cp15.mva s.nonSecure a) true) : M Word).run s.opened := by
  have hm : (s.exclusiveMode { va := a, unaligned := false }).priv = s.privileged := rfl
  have hr : (s.request a .write s.privileged).ns = s.nonSecure ∧
      (s.request a .write s.privileged).mva = s.cp15.mva s.nonSecure a := ⟨rfl, rfl⟩
  simp only [storeExclusive, run_bind, run_checkAlignment he h, run_get, hl, Bool.not_true, Bool.false_eq_true, if_false,
    run_liftState, hm, hx, hr, hp, run_ite, Option.any_some, run_storeFails hw, abortExclusive, run_modify]
  rfl

end Sys2Proof.Machine
end

