-- ==== Sys2Proof/Laws/Memory.lean ====
section
/-!
SUPPORT. The byte stores: what a write reads back as, what it leaves, and that it keeps the canonical form
(20_memory.md R552, 22_l1_l2.md R760).
-/
namespace Sys2Proof.Machine

/-! ### One byte -/

/-- Below the first listed address a canonical store reads as unlisted. -/
theorem readCell_below {lo hi : Nat} {m : List Host.Cell} (h : Memory.wfFrom lo hi m = true) {a : Nat} (ha : a < lo) :
    readCell m a = unlistedByte := by
  cases m with
  | nil => rfl
  | cons p t =>
    obtain ⟨b, v⟩ := p
    simp only [Memory.wfFrom, Bool.and_eq_true, decide_eq_true_eq] at h
    have hb : a < b := by omega
    simp only [readCell, if_neg (by omega : ¬ a = b), if_pos hb]

/-- The canonical form from a later start. -/
theorem wfFrom_mono {lo lo' hi : Nat} (hle : lo ≤ lo') : ∀ {m : List Host.Cell}, Memory.wfFrom lo' hi m = true →
    Memory.wfFrom lo hi m = true
  | [], _ => rfl
  | (b, v) :: t, h => by
    simp only [Memory.wfFrom, Bool.and_eq_true, decide_eq_true_eq] at h ⊢
    exact ⟨⟨⟨by omega, h.1.1.2⟩, h.1.2⟩, h.2⟩

/-- A byte that is written reads back. -/
theorem readCell_writeCell_same {hi : Nat} (a : Nat) (v : Byte) : ∀ {lo : Nat} {m : List Host.Cell},
    Memory.wfFrom lo hi m = true → readCell (writeCell m a v) a = v
  | _, [], _ => by
    simp only [writeCell]
    split
    · next h => exact h.symm
    · simp [readCell]
  | lo, (b, w) :: t, h => by
    simp only [Memory.wfFrom, Bool.and_eq_true, decide_eq_true_eq] at h
    simp only [writeCell]
    split
    · next hlt =>
      split
      · next hv => subst hv; simp [readCell, hlt, Nat.ne_of_lt hlt]
      · simp [readCell]
    · next hlt =>
      split
      · next heq =>
        subst heq
        split
        · next hv => subst hv; exact readCell_below h.2 (Nat.lt_succ_self _)
        · simp [readCell]
      · next hne =>
        simp only [readCell, if_neg hne, if_neg hlt]
        exact readCell_writeCell_same a v h.2

/-- A write leaves every other byte. -/
theorem readCell_writeCell_other {hi a a' : Nat} (v : Byte) (hne : a' ≠ a) : ∀ {lo : Nat} {m : List Host.Cell},
    Memory.wfFrom lo hi m = true → readCell (writeCell m a v) a' = readCell m a'
  | _, [], _ => by
    simp only [writeCell]
    split <;> simp [readCell, hne]
  | lo, (b, w) :: t, h => by
    simp only [Memory.wfFrom, Bool.and_eq_true, decide_eq_true_eq] at h
    simp only [writeCell]
    split
    · next hlt =>
      split
      · rfl
      · by_cases h1 : a' < a
        · simp [readCell, hne, h1, Nat.lt_trans h1 hlt, Nat.ne_of_lt (Nat.lt_trans h1 hlt)]
        · simp only [readCell, if_neg hne, if_neg h1]
    · next hlt =>
      split
      · next heq =>
        subst heq
        split
        · by_cases h1 : a' < a
          · rw [readCell_below h.2 (by omega)]; simp [readCell, hne, h1]
          · simp only [readCell, if_neg hne, if_neg h1]
        · simp only [readCell, if_neg hne]
      · simp only [readCell]
        rw [readCell_writeCell_other v hne h.2]

/-- A write keeps the canonical form. -/
theorem wfFrom_writeCell {hi a : Nat} (v : Byte) (ha : a < hi) : ∀ {lo : Nat} {m : List Host.Cell}, lo ≤ a →
    Memory.wfFrom lo hi m = true → Memory.wfFrom lo hi (writeCell m a v) = true
  | lo, [], hlo, _ => by
    simp only [writeCell]
    split <;> simp_all [Memory.wfFrom]
  | lo, (b, w) :: t, hlo, h => by
    have h0 := h
    simp only [Memory.wfFrom, Bool.and_eq_true, decide_eq_true_eq] at h
    simp only [writeCell]
    split
    · next hlt =>
      split
      · exact h0
      · next hv =>
        simp only [Memory.wfFrom, Bool.and_eq_true, decide_eq_true_eq]
        exact ⟨⟨⟨hlo, ha⟩, hv⟩, ⟨⟨⟨by omega, h.1.1.2⟩, h.1.2⟩, h.2⟩⟩
    · next hlt =>
      split
      · next heq =>
        subst heq
        split
        · exact wfFrom_mono (by omega) h.2
        · next hv =>
          simp only [Memory.wfFrom, Bool.and_eq_true, decide_eq_true_eq]
          exact ⟨⟨⟨hlo, ha⟩, hv⟩, h.2⟩
      · simp only [Memory.wfFrom, Bool.and_eq_true, decide_eq_true_eq]
        exact ⟨⟨⟨h.1.1.1, h.1.1.2⟩, h.1.2⟩, wfFrom_writeCell v ha (by omega) h.2⟩

theorem Memory.wf_writeCell {size a : Nat} {m : List Host.Cell} (v : Byte) (ha : a < size) (h : Memory.wf size m = true) :
    Memory.wf size (writeCell m a v) = true :=
  wfFrom_writeCell v ha (Nat.zero_le a) h

/-! ### The stores of the machine -/

theorem Tcm.size_pos (t : Tcm) : 0 < t.size := by cases t <;> decide

theorem Tcm.offset_lt (t : Tcm) (pa : Word) : t.offset pa < t.size := Nat.mod_lt _ t.size_pos

/-- The canonical form, store by store. -/
theorem State.memoryOk_iff (s : State) :
    s.MemoryOk ↔ Memory.wf memoryBytes s.mem = true ∧ ∀ t : Tcm, Memory.wf t.size (s.tcmCells t) = true := by
  constructor
  · rintro ⟨h, h1, h2, h3, h4⟩
    exact ⟨h, fun t => by cases t <;> assumption⟩
  · rintro ⟨h, ht⟩
    exact ⟨h, ht .itcm0, ht .itcm1, ht .dtcm0, ht .dtcm1⟩

@[simp] theorem State.tcmCells_setTcmCells_same (s : State) (t : Tcm) (l : List Host.Cell) :
    (s.setTcmCells t l).tcmCells t = l := by cases t <;> rfl

theorem State.tcmCells_setTcmCells_other (s : State) {t u : Tcm} (l : List Host.Cell) (h : u ≠ t) :
    (s.setTcmCells t l).tcmCells u = s.tcmCells u := by cases t <;> cases u <;> first | rfl | exact absurd rfl h

/-- A byte write keeps the canonical form of every store. -/
theorem State.memoryOk_writeByteAt {s : State} (tcm : Option Tcm) (pa : Word) (b : Byte) (h : s.MemoryOk) :
    (s.writeByteAt tcm pa b).MemoryOk := by
  rw [State.memoryOk_iff] at h ⊢
  obtain ⟨hm, ht⟩ := h
  cases tcm with
  | none => exact ⟨Memory.wf_writeCell b pa.isLt hm, fun t => by cases t <;> exact ht _⟩
  | some t =>
    refine ⟨by simpa [State.writeByteAt] using hm, fun u => ?_⟩
    by_cases hu : u = t
    · subst hu
      simpa [State.writeByteAt] using Memory.wf_writeCell b (u.offset_lt pa) (ht u)
    · simpa [State.writeByteAt, State.tcmCells_setTcmCells_other s _ hu] using ht u

/-- The bytes of a part keep the canonical form of every store. -/
theorem State.memoryOk_writePart {p : Place} {l : List Byte} {s : State} {k : Nat} (h : s.MemoryOk) :
    (s.writePart p k l).MemoryOk := by
  induction l generalizing s k with
  | nil => exact h
  | cons b t ih => exact ih (State.memoryOk_writeByteAt _ _ _ h)

/-- The bytes a DMA transaction copies keep the canonical form of every store (22_l1_l2.md R783). -/
theorem State.memoryOk_copyBytes {src dst : Option Tcm} {n : Nat} {s : State} {a b : Word} (h : s.MemoryOk) :
    (s.copyBytes src dst a b n).MemoryOk := by
  induction n generalizing s a b with
  | zero => exact h
  | succ n ih => exact ih (State.memoryOk_writeByteAt _ _ _ h)

/-- Memory and the TCMs are in canonical form after reset: they list nothing. -/
theorem State.memoryOk_reset : State.reset.MemoryOk := ⟨rfl, rfl, rfl, rfl, rfl⟩

/-! ### Reading back -/

/-- A byte written to memory reads back, and every other byte reads as before. -/
theorem State.readByteAt_writeByteAt_mem {s : State} (h : s.MemoryOk) (pa a : Word) (b : Byte) :
    (s.writeByteAt none pa b).readByteAt none a = if a = pa then b else s.readByteAt none a := by
  simp only [State.readByteAt, State.writeByteAt]
  split
  · next h' => subst h'; exact readCell_writeCell_same _ _ h.1
  · next h' => exact readCell_writeCell_other _ (fun e => h' (BitVec.eq_of_toNat_eq e)) h.1

/-- A byte written to a TCM reads back, and every other byte of it reads as before. -/
theorem State.readByteAt_writeByteAt_tcm {s : State} (h : s.MemoryOk) (t : Tcm) (pa a : Word) (b : Byte) :
    (s.writeByteAt (some t) pa b).readByteAt (some t) a =
      if t.offset a = t.offset pa then b else s.readByteAt (some t) a := by
  have ht := ((State.memoryOk_iff s).1 h).2 t
  simp only [State.readByteAt, State.writeByteAt, State.tcmCells_setTcmCells_same]
  split
  · next h' => rw [h']; exact readCell_writeCell_same _ _ ht
  · next h' => exact readCell_writeCell_other _ h' ht

/-- A byte write leaves the other stores. -/
theorem State.readByteAt_writeByteAt_other {s : State} {p q : Option Tcm} (h : q ≠ p) (pa a : Word) (b : Byte) :
    (s.writeByteAt p pa b).readByteAt q a = s.readByteAt q a := by
  cases p with
  | none =>
    cases q with
    | none => exact absurd rfl h
    | some u => cases u <;> rfl
  | some t =>
    cases q with
    | none => simp [State.readByteAt, State.writeByteAt]
    | some u =>
      have hu : u ≠ t := fun e => h (by rw [e])
      simp only [State.readByteAt, State.writeByteAt, State.tcmCells_setTcmCells_other s _ hu]

end Sys2Proof.Machine
end

