-- ==== Sys2Proof/Laws/PerInstr.lean ====
section
/-!
SUPPORT. The encoding, row by row: the word of an instruction has the bits its own row of spec/opcode_table.json fixes, and
the row's field positions read every operand back (30_encoding.md R880). That no earlier row takes the word is the rest of
the round trip.
-/
namespace Sys2Proof.Laws

noncomputable section

/-! ### Fields of a word -/

theorem extract_right {m n : Nat} (x : BitVec m) (y : BitVec n) {k w : Nat} (h : k + w ≤ n) :
    (x ++ y).extractLsb' k w = y.extractLsb' k w := by
  ext i hi
  simp only [BitVec.getElem_extractLsb', BitVec.getLsbD_append]
  rw [if_pos (by omega)]

theorem extract_left {m n : Nat} (x : BitVec m) (y : BitVec n) {k w : Nat} (h : n ≤ k) :
    (x ++ y).extractLsb' k w = x.extractLsb' (k - n) w := by
  ext i hi
  simp only [BitVec.getElem_extractLsb', BitVec.getLsbD_append]
  rw [if_neg (by omega)]
  congr 1
  omega

theorem bit_right {m n : Nat} (x : BitVec m) (y : BitVec n) {k : Nat} (h : k < n) :
    (x ++ y).getLsbD k = y.getLsbD k := by
  rw [BitVec.getLsbD_append, if_pos h]

theorem bit_left {m n : Nat} (x : BitVec m) (y : BitVec n) {k : Nat} (h : n ≤ k) :
    (x ++ y).getLsbD k = x.getLsbD (k - n) := by
  rw [BitVec.getLsbD_append, if_neg (by omega)]

theorem bit_ofBool (b : Bool) : (BitVec.ofBool b).getLsbD 0 = b := by cases b <;> rfl

theorem ofBits_toBits (c : Cond) : Cond.ofBits c.toBits = some c := by cases c <;> rfl

theorem and_append {m n : Nat} (x a : BitVec m) (y b : BitVec n) : (x ++ y) &&& (a ++ b) = (x &&& a) ++ (y &&& b) :=
  BitVec.and_append

/-! ### Every instruction is read back by its own row -/

/-- The word of the instruction matches a row of the table that reads the instruction back from it. -/
def OwnRow.Statement (i : Instr) : Prop :=
  match encode i with
  | .arm w => ∃ (k : Nat) (r : Row 32), armRows[k]? = some r ∧ w &&& r.mask = r.pat ∧ r.build w = some i
  | .thumb h => ∃ (k : Nat) (r : Row 16), thumbRows[k]? = some r ∧ h &&& r.mask = r.pat ∧ r.build h = some i

theorem OwnRow.cps (imod mmod sbz aBit iBit fBit mode) : OwnRow.Statement (.cps imod mmod sbz aBit iBit fBit mode) := by
  refine ⟨0, _, rfl, ?_, ?_⟩
  · show _ &&& (0b111111111111#12 ++ 0#2 ++ 0#1 ++ 0b1#1 ++ 0#7 ++ 0#1 ++ 0#1 ++ 0#1 ++ 0b1#1 ++ 0#5) = _
    rw [and_append, and_append, and_append, and_append, and_append, and_append, and_append, and_append, and_append]
    simp only [BitVec.and_zero]
    rfl
  · simp (disch := decide) only [plainRow, extract_right, extract_left, bit_right, bit_left,
      BitVec.extractLsb'_eq_self, bit_ofBool, Nat.reduceSub]

theorem OwnRow.setend (sbz sbz2 eBit sbz3 sbz4) : OwnRow.Statement (.setend sbz sbz2 eBit sbz3 sbz4) := by
  refine ⟨1, _, rfl, ?_, ?_⟩
  · show _ &&& (0b111111111111#12 ++ 0#3 ++ 0b1#1 ++ 0#6 ++ 0#1 ++ 0#1 ++ 0b1111#4 ++ 0#4) = _
    rw [and_append, and_append, and_append, and_append, and_append, and_append, and_append]
    simp only [BitVec.and_zero]
    rfl
  · simp (disch := decide) only [plainRow, extract_right, extract_left, bit_right, bit_left,
      BitVec.extractLsb'_eq_self, bit_ofBool, Nat.reduceSub]

theorem OwnRow.pldImm (u rn imm12) : OwnRow.Statement (.pldImm u rn imm12) := by
  refine ⟨2, _, rfl, ?_, ?_⟩
  · show _ &&& (0b11111111#8 ++ 0#1 ++ 0b111#3 ++ 0#4 ++ 0b1111#4 ++ 0#12) = _
    rw [and_append, and_append, and_append, and_append, and_append]
    simp only [BitVec.and_zero]
    rfl
  · simp (disch := decide) only [plainRow, extract_right, extract_left, bit_right, bit_left,
      BitVec.extractLsb'_eq_self, bit_ofBool, Nat.reduceSub]

theorem OwnRow.pldReg (u rn imm5 shift rm) : OwnRow.Statement (.pldReg u rn imm5 shift rm) := by
  refine ⟨3, _, rfl, ?_, ?_⟩
  · show _ &&& (0b11111111#8 ++ 0#1 ++ 0b111#3 ++ 0#4 ++ 0b1111#4 ++ 0#5 ++ 0#2 ++ 0b1#1 ++ 0#4) = _
    rw [and_append, and_append, and_append, and_append, and_append, and_append, and_append, and_append]
    simp only [BitVec.and_zero]
    rfl
  · simp (disch := decide) only [plainRow, extract_right, extract_left, bit_right, bit_left,
      BitVec.extractLsb'_eq_self, bit_ofBool, Nat.reduceSub]

theorem OwnRow.clrex (sbo sbo2 sbz sbo3) : OwnRow.Statement (.clrex sbo sbo2 sbz sbo3) := by
  refine ⟨4, _, rfl, ?_, ?_⟩
  · show _ &&& (0b111111111111#12 ++ 0#4 ++ 0#4 ++ 0#4 ++ 0b1111#4 ++ 0#4) = _
    rw [and_append, and_append, and_append, and_append, and_append]
    simp only [BitVec.and_zero]
    rfl
  · simp (disch := decide) only [plainRow, extract_right, extract_left, BitVec.extractLsb'_eq_self, Nat.reduceSub]

theorem OwnRow.srs (p u w mode) : OwnRow.Statement (.srs p u w mode) := by
  refine ⟨5, _, rfl, ?_, ?_⟩
  · show _ &&& (0b1111111#7 ++ 0#1 ++ 0#1 ++ 0b1#1 ++ 0#1 ++ 0b1111111111111111#16 ++ 0#5) = _
    rw [and_append, and_append, and_append, and_append, and_append, and_append]
    simp only [BitVec.and_zero]
    rfl
  · simp (disch := decide) only [plainRow, extract_right, bit_right, bit_left, BitVec.extractLsb'_eq_self,
      bit_ofBool, Nat.reduceSub]

theorem OwnRow.rfe (p u w rn) : OwnRow.Statement (.rfe p u w rn) := by
  refine ⟨6, _, rfl, ?_, ?_⟩
  · show _ &&& (0b1111111#7 ++ 0#1 ++ 0#1 ++ 0b1#1 ++ 0#1 ++ 0b1#1 ++ 0#4 ++ 0b1111111111111111#16) = _
    rw [and_append, and_append, and_append, and_append, and_append, and_append, and_append]
    simp only [BitVec.and_zero]
    rfl
  · simp (disch := decide) only [plainRow, extract_right, extract_left, bit_right, bit_left,
      BitVec.extractLsb'_eq_self, bit_ofBool, Nat.reduceSub]

theorem OwnRow.blxLabel (hBit imm24) : OwnRow.Statement (.blxLabel hBit imm24) := by
  refine ⟨7, _, rfl, ?_, ?_⟩
  · show _ &&& (0b1111111#7 ++ 0#1 ++ 0#24) = _
    rw [and_append, and_append]
    simp only [BitVec.and_zero]
    rfl
  · simp (disch := decide) only [plainRow, extract_right, bit_right, bit_left, BitVec.extractLsb'_eq_self,
      bit_ofBool, Nat.reduceSub]

theorem OwnRow.mcrr2 (rn rd cp opc crm) : OwnRow.Statement (.mcrr2 rn rd cp opc crm) := by
  refine ⟨8, _, rfl, ?_, ?_⟩
  · show _ &&& (0b111111111111#12 ++ 0#4 ++ 0#4 ++ 0#4 ++ 0#4 ++ 0#4) = _
    rw [and_append, and_append, and_append, and_append, and_append]
    simp only [BitVec.and_zero]
    rfl
  · simp (disch := decide) only [plainRow, extract_right, extract_left, BitVec.extractLsb'_eq_self, Nat.reduceSub]

theorem OwnRow.mrrc2 (rn rd cp opc crm) : OwnRow.Statement (.mrrc2 rn rd cp opc crm) := by
  refine ⟨9, _, rfl, ?_, ?_⟩
  · show _ &&& (0b111111111111#12 ++ 0#4 ++ 0#4 ++ 0#4 ++ 0#4 ++ 0#4) = _
    rw [and_append, and_append, and_append, and_append, and_append]
    simp only [BitVec.and_zero]
    rfl
  · simp (disch := decide) only [plainRow, extract_right, extract_left, BitVec.extractLsb'_eq_self, Nat.reduceSub]

theorem OwnRow.undefined1 (any any2) : OwnRow.Statement (.undefined1 any any2) := by
  refine ⟨10, _, rfl, ?_, ?_⟩
  · show _ &&& (0b11111111111#11 ++ 0#1 ++ 0#20) = _
    rw [and_append, and_append]
    simp only [BitVec.and_zero]
    rfl
  · simp (disch := decide) only [plainRow, extract_right, bit_right, bit_left, BitVec.extractLsb'_eq_self,
      bit_ofBool, Nat.reduceSub]

theorem OwnRow.stc2 (p u nBit w rn crd cp imm8) : OwnRow.Statement (.stc2 p u nBit w rn crd cp imm8) := by
  refine ⟨11, _, rfl, ?_, ?_⟩
  · show _ &&& (0b1111111#7 ++ 0#1 ++ 0#1 ++ 0#1 ++ 0#1 ++ 0b1#1 ++ 0#4 ++ 0#4 ++ 0#4 ++ 0#8) = _
    rw [and_append, and_append, and_append, and_append, and_append, and_append, and_append, and_append, and_append]
    simp only [BitVec.and_zero]
    rfl
  · simp (disch := decide) only [plainRow, extract_right, extract_left, bit_right, bit_left,
      BitVec.extractLsb'_eq_self, bit_ofBool, Nat.reduceSub]

theorem OwnRow.ldc2 (p u nBit w rn crd cp imm8) : OwnRow.Statement (.ldc2 p u nBit w rn crd cp imm8) := by
  refine ⟨12, _, rfl, ?_, ?_⟩
  · show _ &&& (0b1111111#7 ++ 0#1 ++ 0#1 ++ 0#1 ++ 0#1 ++ 0b1#1 ++ 0#4 ++ 0#4 ++ 0#4 ++ 0#8) = _
    rw [and_append, and_append, and_append, and_append, and_append, and_append, and_append, and_append, and_append]
    simp only [BitVec.and_zero]
    rfl
  · simp (disch := decide) only [plainRow, extract_right, extract_left, bit_right, bit_left,
      BitVec.extractLsb'_eq_self, bit_ofBool, Nat.reduceSub]

theorem OwnRow.cdp2 (opc1 crn crd cp opc2 crm) : OwnRow.Statement (.cdp2 opc1 crn crd cp opc2 crm) := by
  refine ⟨13, _, rfl, ?_, ?_⟩
  · show _ &&& (0b11111111#8 ++ 0#4 ++ 0#4 ++ 0#4 ++ 0#4 ++ 0#3 ++ 0b1#1 ++ 0#4) = _
    rw [and_append, and_append, and_append, and_append, and_append, and_append, and_append]
    simp only [BitVec.and_zero]
    rfl
  · simp (disch := decide) only [plainRow, extract_right, extract_left, BitVec.extractLsb'_eq_self, Nat.reduceSub]

theorem OwnRow.mcr2 (opc1 crn rd cp opc2 crm) : OwnRow.Statement (.mcr2 opc1 crn rd cp opc2 crm) := by
  refine ⟨14, _, rfl, ?_, ?_⟩
  · show _ &&& (0b11111111#8 ++ 0#3 ++ 0b1#1 ++ 0#4 ++ 0#4 ++ 0#4 ++ 0#3 ++ 0b1#1 ++ 0#4) = _
    rw [and_append, and_append, and_append, and_append, and_append, and_append, and_append, and_append]
    simp only [BitVec.and_zero]
    rfl
  · simp (disch := decide) only [plainRow, extract_right, extract_left, BitVec.extractLsb'_eq_self, Nat.reduceSub]

theorem OwnRow.mrc2 (opc1 crn rd cp opc2 crm) : OwnRow.Statement (.mrc2 opc1 crn rd cp opc2 crm) := by
  refine ⟨15, _, rfl, ?_, ?_⟩
  · show _ &&& (0b11111111#8 ++ 0#3 ++ 0b1#1 ++ 0#4 ++ 0#4 ++ 0#4 ++ 0#3 ++ 0b1#1 ++ 0#4) = _
    rw [and_append, and_append, and_append, and_append, and_append, and_append, and_append, and_append]
    simp only [BitVec.and_zero]
    rfl
  · simp (disch := decide) only [plainRow, extract_right, extract_left, BitVec.extractLsb'_eq_self, Nat.reduceSub]

theorem OwnRow.undefined2 (any) : OwnRow.Statement (.undefined2 any) := by
  refine ⟨16, _, rfl, ?_, ?_⟩
  · exact (and_append (0b1111#4) 0b1111#4 (any) 0#28).trans (by rw [BitVec.and_zero]; rfl)
  · simp (disch := decide) only [plainRow, extract_right, BitVec.extractLsb'_eq_self]

theorem OwnRow.mul (cond s rd sbz rs rm) : OwnRow.Statement (.mul cond s rd sbz rs rm) := by
  refine ⟨17, _, rfl, ?_, ?_⟩
  · show _ &&& (0#4 ++ 0b1111111#7 ++ 0#1 ++ 0#4 ++ 0#4 ++ 0#4 ++ 0b1111#4 ++ 0#4) = _
    rw [and_append, and_append, and_append, and_append, and_append, and_append, and_append]
    simp only [BitVec.and_zero]
    rfl
  · simp (disch := decide) only [condRow, extract_right, extract_left, bit_right, bit_left,
      BitVec.extractLsb'_eq_self, bit_ofBool, ofBits_toBits, Option.map_some, Nat.reduceSub]

theorem OwnRow.mla (cond s rd rn rs rm) : OwnRow.Statement (.mla cond s rd rn rs rm) := by
  refine ⟨18, _, rfl, ?_, ?_⟩
  · show _ &&& (0#4 ++ 0b1111111#7 ++ 0#1 ++ 0#4 ++ 0#4 ++ 0#4 ++ 0b1111#4 ++ 0#4) = _
    rw [and_append, and_append, and_append, and_append, and_append, and_append, and_append]
    simp only [BitVec.and_zero]
    rfl
  · simp (disch := decide) only [condRow, extract_right, extract_left, bit_right, bit_left,
      BitVec.extractLsb'_eq_self, bit_ofBool, ofBits_toBits, Option.map_some, Nat.reduceSub]

theorem OwnRow.umaal (cond rdHi rdLo rs rm) : OwnRow.Statement (.umaal cond rdHi rdLo rs rm) := by
  refine ⟨19, _, rfl, ?_, ?_⟩
  · show _ &&& (0#4 ++ 0b11111111#8 ++ 0#4 ++ 0#4 ++ 0#4 ++ 0b1111#4 ++ 0#4) = _
    rw [and_append, and_append, and_append, and_append, and_append, and_append]
    simp only [BitVec.and_zero]
    rfl
  · simp (disch := decide) only [condRow, extract_right, extract_left, BitVec.extractLsb'_eq_self, ofBits_toBits,
      Option.map_some, Nat.reduceSub]

theorem OwnRow.undefined3 (cond any any2) : OwnRow.Statement (.undefined3 cond any any2) := by
  refine ⟨20, _, rfl, ?_, ?_⟩
  · show _ &&& (0#4 ++ 0b11111111#8 ++ 0#12 ++ 0b1111#4 ++ 0#4) = _
    rw [and_append, and_append, and_append, and_append]
    simp only [BitVec.and_zero]
    rfl
  · simp (disch := decide) only [condRow, extract_right, extract_left, BitVec.extractLsb'_eq_self, ofBits_toBits,
      Option.map_some, Nat.reduceSub]

theorem OwnRow.undefined4 (cond any any2 any3) : OwnRow.Statement (.undefined4 cond any any2 any3) := by
  refine ⟨21, _, rfl, ?_, ?_⟩
  · show _ &&& (0#4 ++ 0b1111111#7 ++ 0#1 ++ 0#12 ++ 0b1111#4 ++ 0#4) = _
    rw [and_append, and_append, and_append, and_append, and_append]
    simp only [BitVec.and_zero]
    rfl
  · simp (disch := decide) only [condRow, extract_right, extract_left, bit_right, bit_left,
      BitVec.extractLsb'_eq_self, bit_ofBool, ofBits_toBits, Option.map_some, Nat.reduceSub]

theorem OwnRow.umull (cond s rdHi rdLo rs rm) : OwnRow.Statement (.umull cond s rdHi rdLo rs rm) := by
  refine ⟨22, _, rfl, ?_, ?_⟩
  · show _ &&& (0#4 ++ 0b1111111#7 ++ 0#1 ++ 0#4 ++ 0#4 ++ 0#4 ++ 0b1111#4 ++ 0#4) = _
    rw [and_append, and_append, and_append, and_append, and_append, and_append, and_append]
    simp only [BitVec.and_zero]
    rfl
  · simp (disch := decide) only [condRow, extract_right, extract_left, bit_right, bit_left,
      BitVec.extractLsb'_eq_self, bit_ofBool, ofBits_toBits, Option.map_some, Nat.reduceSub]

theorem OwnRow.umlal (cond s rdHi rdLo rs rm) : OwnRow.Statement (.umlal cond s rdHi rdLo rs rm) := by
  refine ⟨23, _, rfl, ?_, ?_⟩
  · show _ &&& (0#4 ++ 0b1111111#7 ++ 0#1 ++ 0#4 ++ 0#4 ++ 0#4 ++ 0b1111#4 ++ 0#4) = _
    rw [and_append, and_append, and_append, and_append, and_append, and_append, and_append]
    simp only [BitVec.and_zero]
    rfl
  · simp (disch := decide) only [condRow, extract_right, extract_left, bit_right, bit_left,
      BitVec.extractLsb'_eq_self, bit_ofBool, ofBits_toBits, Option.map_some, Nat.reduceSub]

theorem OwnRow.smull (cond s rdHi rdLo rs rm) : OwnRow.Statement (.smull cond s rdHi rdLo rs rm) := by
  refine ⟨24, _, rfl, ?_, ?_⟩
  · show _ &&& (0#4 ++ 0b1111111#7 ++ 0#1 ++ 0#4 ++ 0#4 ++ 0#4 ++ 0b1111#4 ++ 0#4) = _
    rw [and_append, and_append, and_append, and_append, and_append, and_append, and_append]
    simp only [BitVec.and_zero]
    rfl
  · simp (disch := decide) only [condRow, extract_right, extract_left, bit_right, bit_left,
      BitVec.extractLsb'_eq_self, bit_ofBool, ofBits_toBits, Option.map_some, Nat.reduceSub]

theorem OwnRow.smlal (cond s rdHi rdLo rs rm) : OwnRow.Statement (.smlal cond s rdHi rdLo rs rm) := by
  refine ⟨25, _, rfl, ?_, ?_⟩
  · show _ &&& (0#4 ++ 0b1111111#7 ++ 0#1 ++ 0#4 ++ 0#4 ++ 0#4 ++ 0b1111#4 ++ 0#4) = _
    rw [and_append, and_append, and_append, and_append, and_append, and_append, and_append]
    simp only [BitVec.and_zero]
    rfl
  · simp (disch := decide) only [condRow, extract_right, extract_left, bit_right, bit_left,
      BitVec.extractLsb'_eq_self, bit_ofBool, ofBits_toBits, Option.map_some, Nat.reduceSub]

theorem OwnRow.swp (cond rn rd sbz rm) : OwnRow.Statement (.swp cond rn rd sbz rm) := by
  refine ⟨26, _, rfl, ?_, ?_⟩
  · show _ &&& (0#4 ++ 0b11111111#8 ++ 0#4 ++ 0#4 ++ 0#4 ++ 0b1111#4 ++ 0#4) = _
    rw [and_append, and_append, and_append, and_append, and_append, and_append]
    simp only [BitVec.and_zero]
    rfl
  · simp (disch := decide) only [condRow, extract_right, extract_left, BitVec.extractLsb'_eq_self, ofBits_toBits,
      Option.map_some, Nat.reduceSub]

theorem OwnRow.swpb (cond rn rd sbz rm) : OwnRow.Statement (.swpb cond rn rd sbz rm) := by
  refine ⟨27, _, rfl, ?_, ?_⟩
  · show _ &&& (0#4 ++ 0b11111111#8 ++ 0#4 ++ 0#4 ++ 0#4 ++ 0b1111#4 ++ 0#4) = _
    rw [and_append, and_append, and_append, and_append, and_append, and_append]
    simp only [BitVec.and_zero]
    rfl
  · simp (disch := decide) only [condRow, extract_right, extract_left, BitVec.extractLsb'_eq_self, ofBits_toBits,
      Option.map_some, Nat.reduceSub]

theorem OwnRow.undefined5 (cond any any2 any3) : OwnRow.Statement (.undefined5 cond any any2 any3) := by
  refine ⟨28, _, rfl, ?_, ?_⟩
  · show _ &&& (0#4 ++ 0b11111#5 ++ 0#3 ++ 0#12 ++ 0b1111#4 ++ 0#4) = _
    rw [and_append, and_append, and_append, and_append, and_append]
    simp only [BitVec.and_zero]
    rfl
  · simp (disch := decide) only [condRow, extract_right, extract_left, BitVec.extractLsb'_eq_self, ofBits_toBits,
      Option.map_some, Nat.reduceSub]

theorem OwnRow.strex (cond rn rd sbo rm) : OwnRow.Statement (.strex cond rn rd sbo rm) := by
  refine ⟨29, _, rfl, ?_, ?_⟩
  · show _ &&& (0#4 ++ 0b11111111#8 ++ 0#4 ++ 0#4 ++ 0#4 ++ 0b1111#4 ++ 0#4) = _
    rw [and_append, and_append, and_append, and_append, and_append, and_append]
    simp only [BitVec.and_zero]
    rfl
  · simp (disch := decide) only [condRow, extract_right, extract_left, BitVec.extractLsb'_eq_self, ofBits_toBits,
      Option.map_some, Nat.reduceSub]

theorem OwnRow.ldrex (cond rn rd sbo sbo2) : OwnRow.Statement (.ldrex cond rn rd sbo sbo2) := by
  refine ⟨30, _, rfl, ?_, ?_⟩
  · show _ &&& (0#4 ++ 0b11111111#8 ++ 0#4 ++ 0#4 ++ 0#4 ++ 0b1111#4 ++ 0#4) = _
    rw [and_append, and_append, and_append, and_append, and_append, and_append]
    simp only [BitVec.and_zero]
    rfl
  · simp (disch := decide) only [condRow, extract_right, extract_left, BitVec.extractLsb'_eq_self, ofBits_toBits,
      Option.map_some, Nat.reduceSub]

theorem OwnRow.strexd (cond rn rd sbo rm) : OwnRow.Statement (.strexd cond rn rd sbo rm) := by
  refine ⟨31, _, rfl, ?_, ?_⟩
  · show _ &&& (0#4 ++ 0b11111111#8 ++ 0#4 ++ 0#4 ++ 0#4 ++ 0b1111#4 ++ 0#4) = _
    rw [and_append, and_append, and_append, and_append, and_append, and_append]
    simp only [BitVec.and_zero]
    rfl
  · simp (disch := decide) only [condRow, extract_right, extract_left, BitVec.extractLsb'_eq_self, ofBits_toBits,
      Option.map_some, Nat.reduceSub]

theorem OwnRow.ldrexd (cond rn rd sbo sbo2) : OwnRow.Statement (.ldrexd cond rn rd sbo sbo2) := by
  refine ⟨32, _, rfl, ?_, ?_⟩
  · show _ &&& (0#4 ++ 0b11111111#8 ++ 0#4 ++ 0#4 ++ 0#4 ++ 0b1111#4 ++ 0#4) = _
    rw [and_append, and_append, and_append, and_append, and_append, and_append]
    simp only [BitVec.and_zero]
    rfl
  · simp (disch := decide) only [condRow, extract_right, extract_left, BitVec.extractLsb'_eq_self, ofBits_toBits,
      Option.map_some, Nat.reduceSub]

theorem OwnRow.strexb (cond rn rd sbo rm) : OwnRow.Statement (.strexb cond rn rd sbo rm) := by
  refine ⟨33, _, rfl, ?_, ?_⟩
  · show _ &&& (0#4 ++ 0b11111111#8 ++ 0#4 ++ 0#4 ++ 0#4 ++ 0b1111#4 ++ 0#4) = _
    rw [and_append, and_append, and_append, and_append, and_append, and_append]
    simp only [BitVec.and_zero]
    rfl
  · simp (disch := decide) only [condRow, extract_right, extract_left, BitVec.extractLsb'_eq_self, ofBits_toBits,
      Option.map_some, Nat.reduceSub]

theorem OwnRow.ldrexb (cond rn rd sbo sbo2) : OwnRow.Statement (.ldrexb cond rn rd sbo sbo2) := by
  refine ⟨34, _, rfl, ?_, ?_⟩
  · show _ &&& (0#4 ++ 0b11111111#8 ++ 0#4 ++ 0#4 ++ 0#4 ++ 0b1111#4 ++ 0#4) = _
    rw [and_append, and_append, and_append, and_append, and_append, and_append]
    simp only [BitVec.and_zero]
    rfl
  · simp (disch := decide) only [condRow, extract_right, extract_left, BitVec.extractLsb'_eq_self, ofBits_toBits,
      Option.map_some, Nat.reduceSub]

theorem OwnRow.strexh (cond rn rd sbo rm) : OwnRow.Statement (.strexh cond rn rd sbo rm) := by
  refine ⟨35, _, rfl, ?_, ?_⟩
  · show _ &&& (0#4 ++ 0b11111111#8 ++ 0#4 ++ 0#4 ++ 0#4 ++ 0b1111#4 ++ 0#4) = _
    rw [and_append, and_append, and_append, and_append, and_append, and_append]
    simp only [BitVec.and_zero]
    rfl
  · simp (disch := decide) only [condRow, extract_right, extract_left, BitVec.extractLsb'_eq_self, ofBits_toBits,
      Option.map_some, Nat.reduceSub]

theorem OwnRow.ldrexh (cond rn rd sbo sbo2) : OwnRow.Statement (.ldrexh cond rn rd sbo sbo2) := by
  refine ⟨36, _, rfl, ?_, ?_⟩
  · show _ &&& (0#4 ++ 0b11111111#8 ++ 0#4 ++ 0#4 ++ 0#4 ++ 0b1111#4 ++ 0#4) = _
    rw [and_append, and_append, and_append, and_append, and_append, and_append]
    simp only [BitVec.and_zero]
    rfl
  · simp (disch := decide) only [condRow, extract_right, extract_left, BitVec.extractLsb'_eq_self, ofBits_toBits,
      Option.map_some, Nat.reduceSub]

theorem OwnRow.strhImm (cond p u w rn rd immH immL) : OwnRow.Statement (.strhImm cond p u w rn rd immH immL) := by
  refine ⟨37, _, rfl, ?_, ?_⟩
  · show _ &&& (0#4 ++ 0b111#3 ++ 0#1 ++ 0#1 ++ 0b1#1 ++ 0#1 ++ 0b1#1 ++ 0#4 ++ 0#4 ++ 0#4 ++ 0b1111#4 ++ 0#4) = _
    rw [and_append, and_append, and_append, and_append, and_append, and_append, and_append, and_append, and_append, and_append, and_append]
    simp only [BitVec.and_zero]
    rfl
  · simp (disch := decide) only [condRow, extract_right, extract_left, bit_right, bit_left,
      BitVec.extractLsb'_eq_self, bit_ofBool, ofBits_toBits, Option.map_some, Nat.reduceSub]

theorem OwnRow.strhReg (cond p u w rn rd sbz rm) : OwnRow.Statement (.strhReg cond p u w rn rd sbz rm) := by
  refine ⟨38, _, rfl, ?_, ?_⟩
  · show _ &&& (0#4 ++ 0b111#3 ++ 0#1 ++ 0#1 ++ 0b1#1 ++ 0#1 ++ 0b1#1 ++ 0#4 ++ 0#4 ++ 0#4 ++ 0b1111#4 ++ 0#4) = _
    rw [and_append, and_append, and_append, and_append, and_append, and_append, and_append, and_append, and_append, and_append, and_append]
    simp only [BitVec.and_zero]
    rfl
  · simp (disch := decide) only [condRow, extract_right, extract_left, bit_right, bit_left,
      BitVec.extractLsb'_eq_self, bit_ofBool, ofBits_toBits, Option.map_some, Nat.reduceSub]

theorem OwnRow.ldrhImm (cond p u w rn rd immH immL) : OwnRow.Statement (.ldrhImm cond p u w rn rd immH immL) := by
  refine ⟨39, _, rfl, ?_, ?_⟩
  · show _ &&& (0#4 ++ 0b111#3 ++ 0#1 ++ 0#1 ++ 0b1#1 ++ 0#1 ++ 0b1#1 ++ 0#4 ++ 0#4 ++ 0#4 ++ 0b1111#4 ++ 0#4) = _
    rw [and_append, and_append, and_append, and_append, and_append, and_append, and_append, and_append, and_append, and_append, and_append]
    simp only [BitVec.and_zero]
    rfl
  · simp (disch := decide) only [condRow, extract_right, extract_left, bit_right, bit_left,
      BitVec.extractLsb'_eq_self, bit_ofBool, ofBits_toBits, Option.map_some, Nat.reduceSub]

theorem OwnRow.ldrhReg (cond p u w rn rd sbz rm) : OwnRow.Statement (.ldrhReg cond p u w rn rd sbz rm) := by
  refine ⟨40, _, rfl, ?_, ?_⟩
  · show _ &&& (0#4 ++ 0b111#3 ++ 0#1 ++ 0#1 ++ 0b1#1 ++ 0#1 ++ 0b1#1 ++ 0#4 ++ 0#4 ++ 0#4 ++ 0b1111#4 ++ 0#4) = _
    rw [and_append, and_append, and_append, and_append, and_append, and_append, and_append, and_append, and_append, and_append, and_append]
    simp only [BitVec.and_zero]
    rfl
  · simp (disch := decide) only [condRow, extract_right, extract_left, bit_right, bit_left,
      BitVec.extractLsb'_eq_self, bit_ofBool, ofBits_toBits, Option.map_some, Nat.reduceSub]

theorem OwnRow.ldrdImm (cond p u w rn rd immH immL) : OwnRow.Statement (.ldrdImm cond p u w rn rd immH immL) := by
  refine ⟨41, _, rfl, ?_, ?_⟩
  · show _ &&& (0#4 ++ 0b111#3 ++ 0#1 ++ 0#1 ++ 0b1#1 ++ 0#1 ++ 0b1#1 ++ 0#4 ++ 0#4 ++ 0#4 ++ 0b1111#4 ++ 0#4) = _
    rw [and_append, and_append, and_append, and_append, and_append, and_append, and_append, and_append, and_append, and_append, and_append]
    simp only [BitVec.and_zero]
    rfl
  · simp (disch := decide) only [condRow, extract_right, extract_left, bit_right, bit_left,
      BitVec.extractLsb'_eq_self, bit_ofBool, ofBits_toBits, Option.map_some, Nat.reduceSub]

theorem OwnRow.ldrdReg (cond p u w rn rd sbz rm) : OwnRow.Statement (.ldrdReg cond p u w rn rd sbz rm) := by
  refine ⟨42, _, rfl, ?_, ?_⟩
  · show _ &&& (0#4 ++ 0b111#3 ++ 0#1 ++ 0#1 ++ 0b1#1 ++ 0#1 ++ 0b1#1 ++ 0#4 ++ 0#4 ++ 0#4 ++ 0b1111#4 ++ 0#4) = _
    rw [and_append, and_append, and_append, and_append, and_append, and_append, and_append, and_append, and_append, and_append, and_append]
    simp only [BitVec.and_zero]
    rfl
  · simp (disch := decide) only [condRow, extract_right, extract_left, bit_right, bit_left,
      BitVec.extractLsb'_eq_self, bit_ofBool, ofBits_toBits, Option.map_some, Nat.reduceSub]

theorem OwnRow.ldrsbImm (cond p u w rn rd immH immL) : OwnRow.Statement (.ldrsbImm cond p u w rn rd immH immL) := by
  refine ⟨43, _, rfl, ?_, ?_⟩
  · show _ &&& (0#4 ++ 0b111#3 ++ 0#1 ++ 0#1 ++ 0b1#1 ++ 0#1 ++ 0b1#1 ++ 0#4 ++ 0#4 ++ 0#4 ++ 0b1111#4 ++ 0#4) = _
    rw [and_append, and_append, and_append, and_append, and_append, and_append, and_append, and_append, and_append, and_append, and_append]
    simp only [BitVec.and_zero]
    rfl
  · simp (disch := decide) only [condRow, extract_right, extract_left, bit_right, bit_left,
      BitVec.extractLsb'_eq_self, bit_ofBool, ofBits_toBits, Option.map_some, Nat.reduceSub]

theorem OwnRow.ldrsbReg (cond p u w rn rd sbz rm) : OwnRow.Statement (.ldrsbReg cond p u w rn rd sbz rm) := by
  refine ⟨44, _, rfl, ?_, ?_⟩
  · show _ &&& (0#4 ++ 0b111#3 ++ 0#1 ++ 0#1 ++ 0b1#1 ++ 0#1 ++ 0b1#1 ++ 0#4 ++ 0#4 ++ 0#4 ++ 0b1111#4 ++ 0#4) = _
    rw [and_append, and_append, and_append, and_append, and_append, and_append, and_append, and_append, and_append, and_append, and_append]
    simp only [BitVec.and_zero]
    rfl
  · simp (disch := decide) only [condRow, extract_right, extract_left, bit_right, bit_left,
      BitVec.extractLsb'_eq_self, bit_ofBool, ofBits_toBits, Option.map_some, Nat.reduceSub]

theorem OwnRow.strdImm (cond p u w rn rd immH immL) : OwnRow.Statement (.strdImm cond p u w rn rd immH immL) := by
  refine ⟨45, _, rfl, ?_, ?_⟩
  · show _ &&& (0#4 ++ 0b111#3 ++ 0#1 ++ 0#1 ++ 0b1#1 ++ 0#1 ++ 0b1#1 ++ 0#4 ++ 0#4 ++ 0#4 ++ 0b1111#4 ++ 0#4) = _
    rw [and_append, and_append, and_append, and_append, and_append, and_append, and_append, and_append, and_append, and_append, and_append]
    simp only [BitVec.and_zero]
    rfl
  · simp (disch := decide) only [condRow, extract_right, extract_left, bit_right, bit_left,
      BitVec.extractLsb'_eq_self, bit_ofBool, ofBits_toBits, Option.map_some, Nat.reduceSub]

theorem OwnRow.strdReg (cond p u w rn rd sbz rm) : OwnRow.Statement (.strdReg cond p u w rn rd sbz rm) := by
  refine ⟨46, _, rfl, ?_, ?_⟩
  · show _ &&& (0#4 ++ 0b111#3 ++ 0#1 ++ 0#1 ++ 0b1#1 ++ 0#1 ++ 0b1#1 ++ 0#4 ++ 0#4 ++ 0#4 ++ 0b1111#4 ++ 0#4) = _
    rw [and_append, and_append, and_append, and_append, and_append, and_append, and_append, and_append, and_append, and_append, and_append]
    simp only [BitVec.and_zero]
    rfl
  · simp (disch := decide) only [condRow, extract_right, extract_left, bit_right, bit_left,
      BitVec.extractLsb'_eq_self, bit_ofBool, ofBits_toBits, Option.map_some, Nat.reduceSub]

theorem OwnRow.ldrshImm (cond p u w rn rd immH immL) : OwnRow.Statement (.ldrshImm cond p u w rn rd immH immL) := by
  refine ⟨47, _, rfl, ?_, ?_⟩
  · show _ &&& (0#4 ++ 0b111#3 ++ 0#1 ++ 0#1 ++ 0b1#1 ++ 0#1 ++ 0b1#1 ++ 0#4 ++ 0#4 ++ 0#4 ++ 0b1111#4 ++ 0#4) = _
    rw [and_append, and_append, and_append, and_append, and_append, and_append, and_append, and_append, and_append, and_append, and_append]
    simp only [BitVec.and_zero]
    rfl
  · simp (disch := decide) only [condRow, extract_right, extract_left, bit_right, bit_left,
      BitVec.extractLsb'_eq_self, bit_ofBool, ofBits_toBits, Option.map_some, Nat.reduceSub]

theorem OwnRow.ldrshReg (cond p u w rn rd sbz rm) : OwnRow.Statement (.ldrshReg cond p u w rn rd sbz rm) := by
  refine ⟨48, _, rfl, ?_, ?_⟩
  · show _ &&& (0#4 ++ 0b111#3 ++ 0#1 ++ 0#1 ++ 0b1#1 ++ 0#1 ++ 0b1#1 ++ 0#4 ++ 0#4 ++ 0#4 ++ 0b1111#4 ++ 0#4) = _
    rw [and_append, and_append, and_append, and_append, and_append, and_append, and_append, and_append, and_append, and_append, and_append]
    simp only [BitVec.and_zero]
    rfl
  · simp (disch := decide) only [condRow, extract_right, extract_left, bit_right, bit_left,
      BitVec.extractLsb'_eq_self, bit_ofBool, ofBits_toBits, Option.map_some, Nat.reduceSub]

theorem OwnRow.mrs (cond r sbo rd sbz sbz2) : OwnRow.Statement (.mrs cond r sbo rd sbz sbz2) := by
  refine ⟨49, _, rfl, ?_, ?_⟩
  · show _ &&& (0#4 ++ 0b11111#5 ++ 0#1 ++ 0b11#2 ++ 0#4 ++ 0#4 ++ 0#4 ++ 0b1111#4 ++ 0#4) = _
    rw [and_append, and_append, and_append, and_append, and_append, and_append, and_append, and_append]
    simp only [BitVec.and_zero]
    rfl
  · simp (disch := decide) only [condRow, extract_right, extract_left, bit_right, bit_left,
      BitVec.extractLsb'_eq_self, bit_ofBool, ofBits_toBits, Option.map_some, Nat.reduceSub]

theorem OwnRow.msrReg (cond r mask sbo sbz rm) : OwnRow.Statement (.msrReg cond r mask sbo sbz rm) := by
  refine ⟨50, _, rfl, ?_, ?_⟩
  · show _ &&& (0#4 ++ 0b11111#5 ++ 0#1 ++ 0b11#2 ++ 0#4 ++ 0#4 ++ 0#4 ++ 0b1111#4 ++ 0#4) = _
    rw [and_append, and_append, and_append, and_append, and_append, and_append, and_append, and_append]
    simp only [BitVec.and_zero]
    rfl
  · simp (disch := decide) only [condRow, extract_right, extract_left, bit_right, bit_left,
      BitVec.extractLsb'_eq_self, bit_ofBool, ofBits_toBits, Option.map_some, Nat.reduceSub]

theorem OwnRow.bx (cond sbo sbo2 sbo3 rm) : OwnRow.Statement (.bx cond sbo sbo2 sbo3 rm) := by
  refine ⟨51, _, rfl, ?_, ?_⟩
  · show _ &&& (0#4 ++ 0b11111111#8 ++ 0#4 ++ 0#4 ++ 0#4 ++ 0b1111#4 ++ 0#4) = _
    rw [and_append, and_append, and_append, and_append, and_append, and_append]
    simp only [BitVec.and_zero]
    rfl
  · simp (disch := decide) only [condRow, extract_right, extract_left, BitVec.extractLsb'_eq_self, ofBits_toBits,
      Option.map_some, Nat.reduceSub]

theorem OwnRow.clz (cond sbo rd sbo2 rm) : OwnRow.Statement (.clz cond sbo rd sbo2 rm) := by
  refine ⟨52, _, rfl, ?_, ?_⟩
  · show _ &&& (0#4 ++ 0b11111111#8 ++ 0#4 ++ 0#4 ++ 0#4 ++ 0b1111#4 ++ 0#4) = _
    rw [and_append, and_append, and_append, and_append, and_append, and_append]
    simp only [BitVec.and_zero]
    rfl
  · simp (disch := decide) only [condRow, extract_right, extract_left, BitVec.extractLsb'_eq_self, ofBits_toBits,
      Option.map_some, Nat.reduceSub]

theorem OwnRow.bxj (cond sbo sbo2 sbo3 rm) : OwnRow.Statement (.bxj cond sbo sbo2 sbo3 rm) := by
  refine ⟨53, _, rfl, ?_, ?_⟩
  · show _ &&& (0#4 ++ 0b11111111#8 ++ 0#4 ++ 0#4 ++ 0#4 ++ 0b1111#4 ++ 0#4) = _
    rw [and_append, and_append, and_append, and_append, and_append, and_append]
    simp only [BitVec.and_zero]
    rfl
  · simp (disch := decide) only [condRow, extract_right, extract_left, BitVec.extractLsb'_eq_self, ofBits_toBits,
      Option.map_some, Nat.reduceSub]

theorem OwnRow.blxReg (cond sbo sbo2 sbo3 rm) : OwnRow.Statement (.blxReg cond sbo sbo2 sbo3 rm) := by
  refine ⟨54, _, rfl, ?_, ?_⟩
  · show _ &&& (0#4 ++ 0b11111111#8 ++ 0#4 ++ 0#4 ++ 0#4 ++ 0b1111#4 ++ 0#4) = _
    rw [and_append, and_append, and_append, and_append, and_append, and_append]
    simp only [BitVec.and_zero]
    rfl
  · simp (disch := decide) only [condRow, extract_right, extract_left, BitVec.extractLsb'_eq_self, ofBits_toBits,
      Option.map_some, Nat.reduceSub]

theorem OwnRow.qadd (cond rn rd sbz rm) : OwnRow.Statement (.qadd cond rn rd sbz rm) := by
  refine ⟨55, _, rfl, ?_, ?_⟩
  · show _ &&& (0#4 ++ 0b11111111#8 ++ 0#4 ++ 0#4 ++ 0#4 ++ 0b1111#4 ++ 0#4) = _
    rw [and_append, and_append, and_append, and_append, and_append, and_append]
    simp only [BitVec.and_zero]
    rfl
  · simp (disch := decide) only [condRow, extract_right, extract_left, BitVec.extractLsb'_eq_self, ofBits_toBits,
      Option.map_some, Nat.reduceSub]

theorem OwnRow.qsub (cond rn rd sbz rm) : OwnRow.Statement (.qsub cond rn rd sbz rm) := by
  refine ⟨56, _, rfl, ?_, ?_⟩
  · show _ &&& (0#4 ++ 0b11111111#8 ++ 0#4 ++ 0#4 ++ 0#4 ++ 0b1111#4 ++ 0#4) = _
    rw [and_append, and_append, and_append, and_append, and_append, and_append]
    simp only [BitVec.and_zero]
    rfl
  · simp (disch := decide) only [condRow, extract_right, extract_left, BitVec.extractLsb'_eq_self, ofBits_toBits,
      Option.map_some, Nat.reduceSub]

theorem OwnRow.qdadd (cond rn rd sbz rm) : OwnRow.Statement (.qdadd cond rn rd sbz rm) := by
  refine ⟨57, _, rfl, ?_, ?_⟩
  · show _ &&& (0#4 ++ 0b11111111#8 ++ 0#4 ++ 0#4 ++ 0#4 ++ 0b1111#4 ++ 0#4) = _
    rw [and_append, and_append, and_append, and_append, and_append, and_append]
    simp only [BitVec.and_zero]
    rfl
  · simp (disch := decide) only [condRow, extract_right, extract_left, BitVec.extractLsb'_eq_self, ofBits_toBits,
      Option.map_some, Nat.reduceSub]

theorem OwnRow.qdsub (cond rn rd sbz rm) : OwnRow.Statement (.qdsub cond rn rd sbz rm) := by
  refine ⟨58, _, rfl, ?_, ?_⟩
  · show _ &&& (0#4 ++ 0b11111111#8 ++ 0#4 ++ 0#4 ++ 0#4 ++ 0b1111#4 ++ 0#4) = _
    rw [and_append, and_append, and_append, and_append, and_append, and_append]
    simp only [BitVec.and_zero]
    rfl
  · simp (disch := decide) only [condRow, extract_right, extract_left, BitVec.extractLsb'_eq_self, ofBits_toBits,
      Option.map_some, Nat.reduceSub]

theorem OwnRow.bkpt (cond imm12 imm4) : OwnRow.Statement (.bkpt cond imm12 imm4) := by
  refine ⟨59, _, rfl, ?_, ?_⟩
  · show _ &&& (0#4 ++ 0b11111111#8 ++ 0#12 ++ 0b1111#4 ++ 0#4) = _
    rw [and_append, and_append, and_append, and_append]
    simp only [BitVec.and_zero]
    rfl
  · simp (disch := decide) only [condRow, extract_right, extract_left, BitVec.extractLsb'_eq_self, ofBits_toBits,
      Option.map_some, Nat.reduceSub]

theorem OwnRow.smc (cond imm12 imm4) : OwnRow.Statement (.smc cond imm12 imm4) := by
  refine ⟨60, _, rfl, ?_, ?_⟩
  · show _ &&& (0#4 ++ 0b11111111#8 ++ 0#12 ++ 0b1111#4 ++ 0#4) = _
    rw [and_append, and_append, and_append, and_append]
    simp only [BitVec.and_zero]
    rfl
  · simp (disch := decide) only [condRow, extract_right, extract_left, BitVec.extractLsb'_eq_self, ofBits_toBits,
      Option.map_some, Nat.reduceSub]

theorem OwnRow.smlaxy (cond rd rn rs y x rm) : OwnRow.Statement (.smlaxy cond rd rn rs y x rm) := by
  refine ⟨61, _, rfl, ?_, ?_⟩
  · show _ &&& (0#4 ++ 0b11111111#8 ++ 0#4 ++ 0#4 ++ 0#4 ++ 0b1#1 ++ 0#1 ++ 0#1 ++ 0b1#1 ++ 0#4) = _
    rw [and_append, and_append, and_append, and_append, and_append, and_append, and_append, and_append, and_append]
    simp only [BitVec.and_zero]
    rfl
  · simp (disch := decide) only [condRow, extract_right, extract_left, bit_right, bit_left,
      BitVec.extractLsb'_eq_self, bit_ofBool, ofBits_toBits, Option.map_some, Nat.reduceSub]

theorem OwnRow.smlawy (cond rd rn rs y rm) : OwnRow.Statement (.smlawy cond rd rn rs y rm) := by
  refine ⟨62, _, rfl, ?_, ?_⟩
  · show _ &&& (0#4 ++ 0b11111111#8 ++ 0#4 ++ 0#4 ++ 0#4 ++ 0b1#1 ++ 0#1 ++ 0b11#2 ++ 0#4) = _
    rw [and_append, and_append, and_append, and_append, and_append, and_append, and_append, and_append]
    simp only [BitVec.and_zero]
    rfl
  · simp (disch := decide) only [condRow, extract_right, extract_left, bit_right, bit_left,
      BitVec.extractLsb'_eq_self, bit_ofBool, ofBits_toBits, Option.map_some, Nat.reduceSub]

theorem OwnRow.smulwy (cond rd sbz rs y rm) : OwnRow.Statement (.smulwy cond rd sbz rs y rm) := by
  refine ⟨63, _, rfl, ?_, ?_⟩
  · show _ &&& (0#4 ++ 0b11111111#8 ++ 0#4 ++ 0#4 ++ 0#4 ++ 0b1#1 ++ 0#1 ++ 0b11#2 ++ 0#4) = _
    rw [and_append, and_append, and_append, and_append, and_append, and_append, and_append, and_append]
    simp only [BitVec.and_zero]
    rfl
  · simp (disch := decide) only [condRow, extract_right, extract_left, bit_right, bit_left,
      BitVec.extractLsb'_eq_self, bit_ofBool, ofBits_toBits, Option.map_some, Nat.reduceSub]

theorem OwnRow.smlalxy (cond rdHi rdLo rs y x rm) : OwnRow.Statement (.smlalxy cond rdHi rdLo rs y x rm) := by
  refine ⟨64, _, rfl, ?_, ?_⟩
  · show _ &&& (0#4 ++ 0b11111111#8 ++ 0#4 ++ 0#4 ++ 0#4 ++ 0b1#1 ++ 0#1 ++ 0#1 ++ 0b1#1 ++ 0#4) = _
    rw [and_append, and_append, and_append, and_append, and_append, and_append, and_append, and_append, and_append]
    simp only [BitVec.and_zero]
    rfl
  · simp (disch := decide) only [condRow, extract_right, extract_left, bit_right, bit_left,
      BitVec.extractLsb'_eq_self, bit_ofBool, ofBits_toBits, Option.map_some, Nat.reduceSub]

theorem OwnRow.smulxy (cond rd sbz rs y x rm) : OwnRow.Statement (.smulxy cond rd sbz rs y x rm) := by
  refine ⟨65, _, rfl, ?_, ?_⟩
  · show _ &&& (0#4 ++ 0b11111111#8 ++ 0#4 ++ 0#4 ++ 0#4 ++ 0b1#1 ++ 0#1 ++ 0#1 ++ 0b1#1 ++ 0#4) = _
    rw [and_append, and_append, and_append, and_append, and_append, and_append, and_append, and_append, and_append]
    simp only [BitVec.and_zero]
    rfl
  · simp (disch := decide) only [condRow, extract_right, extract_left, bit_right, bit_left,
      BitVec.extractLsb'_eq_self, bit_ofBool, ofBits_toBits, Option.map_some, Nat.reduceSub]

theorem OwnRow.undefined6 (cond any any2 any3 any4) : OwnRow.Statement (.undefined6 cond any any2 any3 any4) := by
  refine ⟨66, _, rfl, ?_, ?_⟩
  · show _ &&& (0#4 ++ 0b11111#5 ++ 0#2 ++ 0b1#1 ++ 0#12 ++ 0b1#1 ++ 0#3 ++ 0#4) = _
    rw [and_append, and_append, and_append, and_append, and_append, and_append, and_append]
    simp only [BitVec.and_zero]
    rfl
  · simp (disch := decide) only [condRow, extract_right, extract_left, BitVec.extractLsb'_eq_self, ofBits_toBits,
      Option.map_some, Nat.reduceSub]

theorem OwnRow.nop (cond sbo sbz) : OwnRow.Statement (.nop cond sbo sbz) := by
  refine ⟨67, _, rfl, ?_, ?_⟩
  · show _ &&& (0#4 ++ 0b111111111111#12 ++ 0#4 ++ 0#4 ++ 0b11111111#8) = _
    rw [and_append, and_append, and_append, and_append]
    simp only [BitVec.and_zero]
    rfl
  · simp (disch := decide) only [condRow, extract_right, extract_left, BitVec.extractLsb'_eq_self, ofBits_toBits,
      Option.map_some, Nat.reduceSub]

theorem OwnRow.yield (cond sbo sbz) : OwnRow.Statement (.yield cond sbo sbz) := by
  refine ⟨68, _, rfl, ?_, ?_⟩
  · show _ &&& (0#4 ++ 0b111111111111#12 ++ 0#4 ++ 0#4 ++ 0b11111111#8) = _
    rw [and_append, and_append, and_append, and_append]
    simp only [BitVec.and_zero]
    rfl
  · simp (disch := decide) only [condRow, extract_right, extract_left, BitVec.extractLsb'_eq_self, ofBits_toBits,
      Option.map_some, Nat.reduceSub]

theorem OwnRow.hint (cond sbo sbz num) : OwnRow.Statement (.hint cond sbo sbz num) := by
  refine ⟨69, _, rfl, ?_, ?_⟩
  · show _ &&& (0#4 ++ 0b111111111111#12 ++ 0#4 ++ 0#4 ++ 0#8) = _
    rw [and_append, and_append, and_append, and_append]
    simp only [BitVec.and_zero]
    rfl
  · simp (disch := decide) only [condRow, extract_right, extract_left, BitVec.extractLsb'_eq_self, ofBits_toBits,
      Option.map_some, Nat.reduceSub]

theorem OwnRow.msrImm (cond r mask sbo rot imm8) : OwnRow.Statement (.msrImm cond r mask sbo rot imm8) := by
  refine ⟨70, _, rfl, ?_, ?_⟩
  · show _ &&& (0#4 ++ 0b11111#5 ++ 0#1 ++ 0b11#2 ++ 0#4 ++ 0#4 ++ 0#4 ++ 0#8) = _
    rw [and_append, and_append, and_append, and_append, and_append, and_append, and_append]
    simp only [BitVec.and_zero]
    rfl
  · simp (disch := decide) only [condRow, extract_right, extract_left, bit_right, bit_left,
      BitVec.extractLsb'_eq_self, bit_ofBool, ofBits_toBits, Option.map_some, Nat.reduceSub]

theorem OwnRow.undefined7 (cond any any2) : OwnRow.Statement (.undefined7 cond any any2) := by
  refine ⟨71, _, rfl, ?_, ?_⟩
  · show _ &&& (0#4 ++ 0b11111#5 ++ 0#1 ++ 0b11#2 ++ 0#20) = _
    rw [and_append, and_append, and_append, and_append]
    simp only [BitVec.and_zero]
    rfl
  · simp (disch := decide) only [condRow, extract_right, extract_left, bit_right, bit_left,
      BitVec.extractLsb'_eq_self, bit_ofBool, ofBits_toBits, Option.map_some, Nat.reduceSub]

theorem OwnRow.andImm (cond s rn rd rot imm8) : OwnRow.Statement (.andImm cond s rn rd rot imm8) := by
  refine ⟨72, _, rfl, ?_, ?_⟩
  · show _ &&& (0#4 ++ 0b1111111#7 ++ 0#1 ++ 0#4 ++ 0#4 ++ 0#4 ++ 0#8) = _
    rw [and_append, and_append, and_append, and_append, and_append, and_append]
    simp only [BitVec.and_zero]
    rfl
  · simp (disch := decide) only [condRow, extract_right, extract_left, bit_right, bit_left,
      BitVec.extractLsb'_eq_self, bit_ofBool, ofBits_toBits, Option.map_some, Nat.reduceSub]

theorem OwnRow.andRegImm (cond s rn rd imm5 shift rm) : OwnRow.Statement (.andRegImm cond s rn rd imm5 shift rm) := by
  refine ⟨73, _, rfl, ?_, ?_⟩
  · show _ &&& (0#4 ++ 0b1111111#7 ++ 0#1 ++ 0#4 ++ 0#4 ++ 0#5 ++ 0#2 ++ 0b1#1 ++ 0#4) = _
    rw [and_append, and_append, and_append, and_append, and_append, and_append, and_append, and_append]
    simp only [BitVec.and_zero]
    rfl
  · simp (disch := decide) only [condRow, extract_right, extract_left, bit_right, bit_left,
      BitVec.extractLsb'_eq_self, bit_ofBool, ofBits_toBits, Option.map_some, Nat.reduceSub]

theorem OwnRow.andRegReg (cond s rn rd rs shift rm) : OwnRow.Statement (.andRegReg cond s rn rd rs shift rm) := by
  refine ⟨74, _, rfl, ?_, ?_⟩
  · show _ &&& (0#4 ++ 0b1111111#7 ++ 0#1 ++ 0#4 ++ 0#4 ++ 0#4 ++ 0b1#1 ++ 0#2 ++ 0b1#1 ++ 0#4) = _
    rw [and_append, and_append, and_append, and_append, and_append, and_append, and_append, and_append, and_append]
    simp only [BitVec.and_zero]
    rfl
  · simp (disch := decide) only [condRow, extract_right, extract_left, bit_right, bit_left,
      BitVec.extractLsb'_eq_self, bit_ofBool, ofBits_toBits, Option.map_some, Nat.reduceSub]

theorem OwnRow.eorImm (cond s rn rd rot imm8) : OwnRow.Statement (.eorImm cond s rn rd rot imm8) := by
  refine ⟨75, _, rfl, ?_, ?_⟩
  · show _ &&& (0#4 ++ 0b1111111#7 ++ 0#1 ++ 0#4 ++ 0#4 ++ 0#4 ++ 0#8) = _
    rw [and_append, and_append, and_append, and_append, and_append, and_append]
    simp only [BitVec.and_zero]
    rfl
  · simp (disch := decide) only [condRow, extract_right, extract_left, bit_right, bit_left,
      BitVec.extractLsb'_eq_self, bit_ofBool, ofBits_toBits, Option.map_some, Nat.reduceSub]

theorem OwnRow.eorRegImm (cond s rn rd imm5 shift rm) : OwnRow.Statement (.eorRegImm cond s rn rd imm5 shift rm) := by
  refine ⟨76, _, rfl, ?_, ?_⟩
  · show _ &&& (0#4 ++ 0b1111111#7 ++ 0#1 ++ 0#4 ++ 0#4 ++ 0#5 ++ 0#2 ++ 0b1#1 ++ 0#4) = _
    rw [and_append, and_append, and_append, and_append, and_append, and_append, and_append, and_append]
    simp only [BitVec.and_zero]
    rfl
  · simp (disch := decide) only [condRow, extract_right, extract_left, bit_right, bit_left,
      BitVec.extractLsb'_eq_self, bit_ofBool, ofBits_toBits, Option.map_some, Nat.reduceSub]

theorem OwnRow.eorRegReg (cond s rn rd rs shift rm) : OwnRow.Statement (.eorRegReg cond s rn rd rs shift rm) := by
  refine ⟨77, _, rfl, ?_, ?_⟩
  · show _ &&& (0#4 ++ 0b1111111#7 ++ 0#1 ++ 0#4 ++ 0#4 ++ 0#4 ++ 0b1#1 ++ 0#2 ++ 0b1#1 ++ 0#4) = _
    rw [and_append, and_append, and_append, and_append, and_append, and_append, and_append, and_append, and_append]
    simp only [BitVec.and_zero]
    rfl
  · simp (disch := decide) only [condRow, extract_right, extract_left, bit_right, bit_left,
      BitVec.extractLsb'_eq_self, bit_ofBool, ofBits_toBits, Option.map_some, Nat.reduceSub]

theorem OwnRow.subImm (cond s rn rd rot imm8) : OwnRow.Statement (.subImm cond s rn rd rot imm8) := by
  refine ⟨78, _, rfl, ?_, ?_⟩
  · show _ &&& (0#4 ++ 0b1111111#7 ++ 0#1 ++ 0#4 ++ 0#4 ++ 0#4 ++ 0#8) = _
    rw [and_append, and_append, and_append, and_append, and_append, and_append]
    simp only [BitVec.and_zero]
    rfl
  · simp (disch := decide) only [condRow, extract_right, extract_left, bit_right, bit_left,
      BitVec.extractLsb'_eq_self, bit_ofBool, ofBits_toBits, Option.map_some, Nat.reduceSub]

theorem OwnRow.subRegImm (cond s rn rd imm5 shift rm) : OwnRow.Statement (.subRegImm cond s rn rd imm5 shift rm) := by
  refine ⟨79, _, rfl, ?_, ?_⟩
  · show _ &&& (0#4 ++ 0b1111111#7 ++ 0#1 ++ 0#4 ++ 0#4 ++ 0#5 ++ 0#2 ++ 0b1#1 ++ 0#4) = _
    rw [and_append, and_append, and_append, and_append, and_append, and_append, and_append, and_append]
    simp only [BitVec.and_zero]
    rfl
  · simp (disch := decide) only [condRow, extract_right, extract_left, bit_right, bit_left,
      BitVec.extractLsb'_eq_self, bit_ofBool, ofBits_toBits, Option.map_some, Nat.reduceSub]

theorem OwnRow.subRegReg (cond s rn rd rs shift rm) : OwnRow.Statement (.subRegReg cond s rn rd rs shift rm) := by
  refine ⟨80, _, rfl, ?_, ?_⟩
  · show _ &&& (0#4 ++ 0b1111111#7 ++ 0#1 ++ 0#4 ++ 0#4 ++ 0#4 ++ 0b1#1 ++ 0#2 ++ 0b1#1 ++ 0#4) = _
    rw [and_append, and_append, and_append, and_append, and_append, and_append, and_append, and_append, and_append]
    simp only [BitVec.and_zero]
    rfl
  · simp (disch := decide) only [condRow, extract_right, extract_left, bit_right, bit_left,
      BitVec.extractLsb'_eq_self, bit_ofBool, ofBits_toBits, Option.map_some, Nat.reduceSub]

theorem OwnRow.rsbImm (cond s rn rd rot imm8) : OwnRow.Statement (.rsbImm cond s rn rd rot imm8) := by
  refine ⟨81, _, rfl, ?_, ?_⟩
  · show _ &&& (0#4 ++ 0b1111111#7 ++ 0#1 ++ 0#4 ++ 0#4 ++ 0#4 ++ 0#8) = _
    rw [and_append, and_append, and_append, and_append, and_append, and_append]
    simp only [BitVec.and_zero]
    rfl
  · simp (disch := decide) only [condRow, extract_right, extract_left, bit_right, bit_left,
      BitVec.extractLsb'_eq_self, bit_ofBool, ofBits_toBits, Option.map_some, Nat.reduceSub]

theorem OwnRow.rsbRegImm (cond s rn rd imm5 shift rm) : OwnRow.Statement (.rsbRegImm cond s rn rd imm5 shift rm) := by
  refine ⟨82, _, rfl, ?_, ?_⟩
  · show _ &&& (0#4 ++ 0b1111111#7 ++ 0#1 ++ 0#4 ++ 0#4 ++ 0#5 ++ 0#2 ++ 0b1#1 ++ 0#4) = _
    rw [and_append, and_append, and_append, and_append, and_append, and_append, and_append, and_append]
    simp only [BitVec.and_zero]
    rfl
  · simp (disch := decide) only [condRow, extract_right, extract_left, bit_right, bit_left,
      BitVec.extractLsb'_eq_self, bit_ofBool, ofBits_toBits, Option.map_some, Nat.reduceSub]

theorem OwnRow.rsbRegReg (cond s rn rd rs shift rm) : OwnRow.Statement (.rsbRegReg cond s rn rd rs shift rm) := by
  refine ⟨83, _, rfl, ?_, ?_⟩
  · show _ &&& (0#4 ++ 0b1111111#7 ++ 0#1 ++ 0#4 ++ 0#4 ++ 0#4 ++ 0b1#1 ++ 0#2 ++ 0b1#1 ++ 0#4) = _
    rw [and_append, and_append, and_append, and_append, and_append, and_append, and_append, and_append, and_append]
    simp only [BitVec.and_zero]
    rfl
  · simp (disch := decide) only [condRow, extract_right, extract_left, bit_right, bit_left,
      BitVec.extractLsb'_eq_self, bit_ofBool, ofBits_toBits, Option.map_some, Nat.reduceSub]

theorem OwnRow.addImm (cond s rn rd rot imm8) : OwnRow.Statement (.addImm cond s rn rd rot imm8) := by
  refine ⟨84, _, rfl, ?_, ?_⟩
  · show _ &&& (0#4 ++ 0b1111111#7 ++ 0#1 ++ 0#4 ++ 0#4 ++ 0#4 ++ 0#8) = _
    rw [and_append, and_append, and_append, and_append, and_append, and_append]
    simp only [BitVec.and_zero]
    rfl
  · simp (disch := decide) only [condRow, extract_right, extract_left, bit_right, bit_left,
      BitVec.extractLsb'_eq_self, bit_ofBool, ofBits_toBits, Option.map_some, Nat.reduceSub]

theorem OwnRow.addRegImm (cond s rn rd imm5 shift rm) : OwnRow.Statement (.addRegImm cond s rn rd imm5 shift rm) := by
  refine ⟨85, _, rfl, ?_, ?_⟩
  · show _ &&& (0#4 ++ 0b1111111#7 ++ 0#1 ++ 0#4 ++ 0#4 ++ 0#5 ++ 0#2 ++ 0b1#1 ++ 0#4) = _
    rw [and_append, and_append, and_append, and_append, and_append, and_append, and_append, and_append]
    simp only [BitVec.and_zero]
    rfl
  · simp (disch := decide) only [condRow, extract_right, extract_left, bit_right, bit_left,
      BitVec.extractLsb'_eq_self, bit_ofBool, ofBits_toBits, Option.map_some, Nat.reduceSub]

theorem OwnRow.addRegReg (cond s rn rd rs shift rm) : OwnRow.Statement (.addRegReg cond s rn rd rs shift rm) := by
  refine ⟨86, _, rfl, ?_, ?_⟩
  · show _ &&& (0#4 ++ 0b1111111#7 ++ 0#1 ++ 0#4 ++ 0#4 ++ 0#4 ++ 0b1#1 ++ 0#2 ++ 0b1#1 ++ 0#4) = _
    rw [and_append, and_append, and_append, and_append, and_append, and_append, and_append, and_append, and_append]
    simp only [BitVec.and_zero]
    rfl
  · simp (disch := decide) only [condRow, extract_right, extract_left, bit_right, bit_left,
      BitVec.extractLsb'_eq_self, bit_ofBool, ofBits_toBits, Option.map_some, Nat.reduceSub]

theorem OwnRow.adcImm (cond s rn rd rot imm8) : OwnRow.Statement (.adcImm cond s rn rd rot imm8) := by
  refine ⟨87, _, rfl, ?_, ?_⟩
  · show _ &&& (0#4 ++ 0b1111111#7 ++ 0#1 ++ 0#4 ++ 0#4 ++ 0#4 ++ 0#8) = _
    rw [and_append, and_append, and_append, and_append, and_append, and_append]
    simp only [BitVec.and_zero]
    rfl
  · simp (disch := decide) only [condRow, extract_right, extract_left, bit_right, bit_left,
      BitVec.extractLsb'_eq_self, bit_ofBool, ofBits_toBits, Option.map_some, Nat.reduceSub]

theorem OwnRow.adcRegImm (cond s rn rd imm5 shift rm) : OwnRow.Statement (.adcRegImm cond s rn rd imm5 shift rm) := by
  refine ⟨88, _, rfl, ?_, ?_⟩
  · show _ &&& (0#4 ++ 0b1111111#7 ++ 0#1 ++ 0#4 ++ 0#4 ++ 0#5 ++ 0#2 ++ 0b1#1 ++ 0#4) = _
    rw [and_append, and_append, and_append, and_append, and_append, and_append, and_append, and_append]
    simp only [BitVec.and_zero]
    rfl
  · simp (disch := decide) only [condRow, extract_right, extract_left, bit_right, bit_left,
      BitVec.extractLsb'_eq_self, bit_ofBool, ofBits_toBits, Option.map_some, Nat.reduceSub]

theorem OwnRow.adcRegReg (cond s rn rd rs shift rm) : OwnRow.Statement (.adcRegReg cond s rn rd rs shift rm) := by
  refine ⟨89, _, rfl, ?_, ?_⟩
  · show _ &&& (0#4 ++ 0b1111111#7 ++ 0#1 ++ 0#4 ++ 0#4 ++ 0#4 ++ 0b1#1 ++ 0#2 ++ 0b1#1 ++ 0#4) = _
    rw [and_append, and_append, and_append, and_append, and_append, and_append, and_append, and_append, and_append]
    simp only [BitVec.and_zero]
    rfl
  · simp (disch := decide) only [condRow, extract_right, extract_left, bit_right, bit_left,
      BitVec.extractLsb'_eq_self, bit_ofBool, ofBits_toBits, Option.map_some, Nat.reduceSub]

theorem OwnRow.sbcImm (cond s rn rd rot imm8) : OwnRow.Statement (.sbcImm cond s rn rd rot imm8) := by
  refine ⟨90, _, rfl, ?_, ?_⟩
  · show _ &&& (0#4 ++ 0b1111111#7 ++ 0#1 ++ 0#4 ++ 0#4 ++ 0#4 ++ 0#8) = _
    rw [and_append, and_append, and_append, and_append, and_append, and_append]
    simp only [BitVec.and_zero]
    rfl
  · simp (disch := decide) only [condRow, extract_right, extract_left, bit_right, bit_left,
      BitVec.extractLsb'_eq_self, bit_ofBool, ofBits_toBits, Option.map_some, Nat.reduceSub]

theorem OwnRow.sbcRegImm (cond s rn rd imm5 shift rm) : OwnRow.Statement (.sbcRegImm cond s rn rd imm5 shift rm) := by
  refine ⟨91, _, rfl, ?_, ?_⟩
  · show _ &&& (0#4 ++ 0b1111111#7 ++ 0#1 ++ 0#4 ++ 0#4 ++ 0#5 ++ 0#2 ++ 0b1#1 ++ 0#4) = _
    rw [and_append, and_append, and_append, and_append, and_append, and_append, and_append, and_append]
    simp only [BitVec.and_zero]
    rfl
  · simp (disch := decide) only [condRow, extract_right, extract_left, bit_right, bit_left,
      BitVec.extractLsb'_eq_self, bit_ofBool, ofBits_toBits, Option.map_some, Nat.reduceSub]

theorem OwnRow.sbcRegReg (cond s rn rd rs shift rm) : OwnRow.Statement (.sbcRegReg cond s rn rd rs shift rm) := by
  refine ⟨92, _, rfl, ?_, ?_⟩
  · show _ &&& (0#4 ++ 0b1111111#7 ++ 0#1 ++ 0#4 ++ 0#4 ++ 0#4 ++ 0b1#1 ++ 0#2 ++ 0b1#1 ++ 0#4) = _
    rw [and_append, and_append, and_append, and_append, and_append, and_append, and_append, and_append, and_append]
    simp only [BitVec.and_zero]
    rfl
  · simp (disch := decide) only [condRow, extract_right, extract_left, bit_right, bit_left,
      BitVec.extractLsb'_eq_self, bit_ofBool, ofBits_toBits, Option.map_some, Nat.reduceSub]

theorem OwnRow.rscImm (cond s rn rd rot imm8) : OwnRow.Statement (.rscImm cond s rn rd rot imm8) := by
  refine ⟨93, _, rfl, ?_, ?_⟩
  · show _ &&& (0#4 ++ 0b1111111#7 ++ 0#1 ++ 0#4 ++ 0#4 ++ 0#4 ++ 0#8) = _
    rw [and_append, and_append, and_append, and_append, and_append, and_append]
    simp only [BitVec.and_zero]
    rfl
  · simp (disch := decide) only [condRow, extract_right, extract_left, bit_right, bit_left,
      BitVec.extractLsb'_eq_self, bit_ofBool, ofBits_toBits, Option.map_some, Nat.reduceSub]

theorem OwnRow.rscRegImm (cond s rn rd imm5 shift rm) : OwnRow.Statement (.rscRegImm cond s rn rd imm5 shift rm) := by
  refine ⟨94, _, rfl, ?_, ?_⟩
  · show _ &&& (0#4 ++ 0b1111111#7 ++ 0#1 ++ 0#4 ++ 0#4 ++ 0#5 ++ 0#2 ++ 0b1#1 ++ 0#4) = _
    rw [and_append, and_append, and_append, and_append, and_append, and_append, and_append, and_append]
    simp only [BitVec.and_zero]
    rfl
  · simp (disch := decide) only [condRow, extract_right, extract_left, bit_right, bit_left,
      BitVec.extractLsb'_eq_self, bit_ofBool, ofBits_toBits, Option.map_some, Nat.reduceSub]

theorem OwnRow.rscRegReg (cond s rn rd rs shift rm) : OwnRow.Statement (.rscRegReg cond s rn rd rs shift rm) := by
  refine ⟨95, _, rfl, ?_, ?_⟩
  · show _ &&& (0#4 ++ 0b1111111#7 ++ 0#1 ++ 0#4 ++ 0#4 ++ 0#4 ++ 0b1#1 ++ 0#2 ++ 0b1#1 ++ 0#4) = _
    rw [and_append, and_append, and_append, and_append, and_append, and_append, and_append, and_append, and_append]
    simp only [BitVec.and_zero]
    rfl
  · simp (disch := decide) only [condRow, extract_right, extract_left, bit_right, bit_left,
      BitVec.extractLsb'_eq_self, bit_ofBool, ofBits_toBits, Option.map_some, Nat.reduceSub]

theorem OwnRow.tstImm (cond rn sbz rot imm8) : OwnRow.Statement (.tstImm cond rn sbz rot imm8) := by
  refine ⟨96, _, rfl, ?_, ?_⟩
  · show _ &&& (0#4 ++ 0b11111111#8 ++ 0#4 ++ 0#4 ++ 0#4 ++ 0#8) = _
    rw [and_append, and_append, and_append, and_append, and_append]
    simp only [BitVec.and_zero]
    rfl
  · simp (disch := decide) only [condRow, extract_right, extract_left, BitVec.extractLsb'_eq_self, ofBits_toBits,
      Option.map_some, Nat.reduceSub]

theorem OwnRow.tstRegImm (cond rn sbz imm5 shift rm) : OwnRow.Statement (.tstRegImm cond rn sbz imm5 shift rm) := by
  refine ⟨97, _, rfl, ?_, ?_⟩
  · show _ &&& (0#4 ++ 0b11111111#8 ++ 0#4 ++ 0#4 ++ 0#5 ++ 0#2 ++ 0b1#1 ++ 0#4) = _
    rw [and_append, and_append, and_append, and_append, and_append, and_append, and_append]
    simp only [BitVec.and_zero]
    rfl
  · simp (disch := decide) only [condRow, extract_right, extract_left, BitVec.extractLsb'_eq_self, ofBits_toBits,
      Option.map_some, Nat.reduceSub]

theorem OwnRow.tstRegReg (cond rn sbz rs shift rm) : OwnRow.Statement (.tstRegReg cond rn sbz rs shift rm) := by
  refine ⟨98, _, rfl, ?_, ?_⟩
  · show _ &&& (0#4 ++ 0b11111111#8 ++ 0#4 ++ 0#4 ++ 0#4 ++ 0b1#1 ++ 0#2 ++ 0b1#1 ++ 0#4) = _
    rw [and_append, and_append, and_append, and_append, and_append, and_append, and_append, and_append]
    simp only [BitVec.and_zero]
    rfl
  · simp (disch := decide) only [condRow, extract_right, extract_left, BitVec.extractLsb'_eq_self, ofBits_toBits,
      Option.map_some, Nat.reduceSub]

theorem OwnRow.teqImm (cond rn sbz rot imm8) : OwnRow.Statement (.teqImm cond rn sbz rot imm8) := by
  refine ⟨99, _, rfl, ?_, ?_⟩
  · show _ &&& (0#4 ++ 0b11111111#8 ++ 0#4 ++ 0#4 ++ 0#4 ++ 0#8) = _
    rw [and_append, and_append, and_append, and_append, and_append]
    simp only [BitVec.and_zero]
    rfl
  · simp (disch := decide) only [condRow, extract_right, extract_left, BitVec.extractLsb'_eq_self, ofBits_toBits,
      Option.map_some, Nat.reduceSub]

theorem OwnRow.teqRegImm (cond rn sbz imm5 shift rm) : OwnRow.Statement (.teqRegImm cond rn sbz imm5 shift rm) := by
  refine ⟨100, _, rfl, ?_, ?_⟩
  · show _ &&& (0#4 ++ 0b11111111#8 ++ 0#4 ++ 0#4 ++ 0#5 ++ 0#2 ++ 0b1#1 ++ 0#4) = _
    rw [and_append, and_append, and_append, and_append, and_append, and_append, and_append]
    simp only [BitVec.and_zero]
    rfl
  · simp (disch := decide) only [condRow, extract_right, extract_left, BitVec.extractLsb'_eq_self, ofBits_toBits,
      Option.map_some, Nat.reduceSub]

theorem OwnRow.teqRegReg (cond rn sbz rs shift rm) : OwnRow.Statement (.teqRegReg cond rn sbz rs shift rm) := by
  refine ⟨101, _, rfl, ?_, ?_⟩
  · show _ &&& (0#4 ++ 0b11111111#8 ++ 0#4 ++ 0#4 ++ 0#4 ++ 0b1#1 ++ 0#2 ++ 0b1#1 ++ 0#4) = _
    rw [and_append, and_append, and_append, and_append, and_append, and_append, and_append, and_append]
    simp only [BitVec.and_zero]
    rfl
  · simp (disch := decide) only [condRow, extract_right, extract_left, BitVec.extractLsb'_eq_self, ofBits_toBits,
      Option.map_some, Nat.reduceSub]

theorem OwnRow.cmpImm (cond rn sbz rot imm8) : OwnRow.Statement (.cmpImm cond rn sbz rot imm8) := by
  refine ⟨102, _, rfl, ?_, ?_⟩
  · show _ &&& (0#4 ++ 0b11111111#8 ++ 0#4 ++ 0#4 ++ 0#4 ++ 0#8) = _
    rw [and_append, and_append, and_append, and_append, and_append]
    simp only [BitVec.and_zero]
    rfl
  · simp (disch := decide) only [condRow, extract_right, extract_left, BitVec.extractLsb'_eq_self, ofBits_toBits,
      Option.map_some, Nat.reduceSub]

theorem OwnRow.cmpRegImm (cond rn sbz imm5 shift rm) : OwnRow.Statement (.cmpRegImm cond rn sbz imm5 shift rm) := by
  refine ⟨103, _, rfl, ?_, ?_⟩
  · show _ &&& (0#4 ++ 0b11111111#8 ++ 0#4 ++ 0#4 ++ 0#5 ++ 0#2 ++ 0b1#1 ++ 0#4) = _
    rw [and_append, and_append, and_append, and_append, and_append, and_append, and_append]
    simp only [BitVec.and_zero]
    rfl
  · simp (disch := decide) only [condRow, extract_right, extract_left, BitVec.extractLsb'_eq_self, ofBits_toBits,
      Option.map_some, Nat.reduceSub]

theorem OwnRow.cmpRegReg (cond rn sbz rs shift rm) : OwnRow.Statement (.cmpRegReg cond rn sbz rs shift rm) := by
  refine ⟨104, _, rfl, ?_, ?_⟩
  · show _ &&& (0#4 ++ 0b11111111#8 ++ 0#4 ++ 0#4 ++ 0#4 ++ 0b1#1 ++ 0#2 ++ 0b1#1 ++ 0#4) = _
    rw [and_append, and_append, and_append, and_append, and_append, and_append, and_append, and_append]
    simp only [BitVec.and_zero]
    rfl
  · simp (disch := decide) only [condRow, extract_right, extract_left, BitVec.extractLsb'_eq_self, ofBits_toBits,
      Option.map_some, Nat.reduceSub]

theorem OwnRow.cmnImm (cond rn sbz rot imm8) : OwnRow.Statement (.cmnImm cond rn sbz rot imm8) := by
  refine ⟨105, _, rfl, ?_, ?_⟩
  · show _ &&& (0#4 ++ 0b11111111#8 ++ 0#4 ++ 0#4 ++ 0#4 ++ 0#8) = _
    rw [and_append, and_append, and_append, and_append, and_append]
    simp only [BitVec.and_zero]
    rfl
  · simp (disch := decide) only [condRow, extract_right, extract_left, BitVec.extractLsb'_eq_self, ofBits_toBits,
      Option.map_some, Nat.reduceSub]

theorem OwnRow.cmnRegImm (cond rn sbz imm5 shift rm) : OwnRow.Statement (.cmnRegImm cond rn sbz imm5 shift rm) := by
  refine ⟨106, _, rfl, ?_, ?_⟩
  · show _ &&& (0#4 ++ 0b11111111#8 ++ 0#4 ++ 0#4 ++ 0#5 ++ 0#2 ++ 0b1#1 ++ 0#4) = _
    rw [and_append, and_append, and_append, and_append, and_append, and_append, and_append]
    simp only [BitVec.and_zero]
    rfl
  · simp (disch := decide) only [condRow, extract_right, extract_left, BitVec.extractLsb'_eq_self, ofBits_toBits,
      Option.map_some, Nat.reduceSub]

theorem OwnRow.cmnRegReg (cond rn sbz rs shift rm) : OwnRow.Statement (.cmnRegReg cond rn sbz rs shift rm) := by
  refine ⟨107, _, rfl, ?_, ?_⟩
  · show _ &&& (0#4 ++ 0b11111111#8 ++ 0#4 ++ 0#4 ++ 0#4 ++ 0b1#1 ++ 0#2 ++ 0b1#1 ++ 0#4) = _
    rw [and_append, and_append, and_append, and_append, and_append, and_append, and_append, and_append]
    simp only [BitVec.and_zero]
    rfl
  · simp (disch := decide) only [condRow, extract_right, extract_left, BitVec.extractLsb'_eq_self, ofBits_toBits,
      Option.map_some, Nat.reduceSub]

theorem OwnRow.orrImm (cond s rn rd rot imm8) : OwnRow.Statement (.orrImm cond s rn rd rot imm8) := by
  refine ⟨108, _, rfl, ?_, ?_⟩
  · show _ &&& (0#4 ++ 0b1111111#7 ++ 0#1 ++ 0#4 ++ 0#4 ++ 0#4 ++ 0#8) = _
    rw [and_append, and_append, and_append, and_append, and_append, and_append]
    simp only [BitVec.and_zero]
    rfl
  · simp (disch := decide) only [condRow, extract_right, extract_left, bit_right, bit_left,
      BitVec.extractLsb'_eq_self, bit_ofBool, ofBits_toBits, Option.map_some, Nat.reduceSub]

theorem OwnRow.orrRegImm (cond s rn rd imm5 shift rm) : OwnRow.Statement (.orrRegImm cond s rn rd imm5 shift rm) := by
  refine ⟨109, _, rfl, ?_, ?_⟩
  · show _ &&& (0#4 ++ 0b1111111#7 ++ 0#1 ++ 0#4 ++ 0#4 ++ 0#5 ++ 0#2 ++ 0b1#1 ++ 0#4) = _
    rw [and_append, and_append, and_append, and_append, and_append, and_append, and_append, and_append]
    simp only [BitVec.and_zero]
    rfl
  · simp (disch := decide) only [condRow, extract_right, extract_left, bit_right, bit_left,
      BitVec.extractLsb'_eq_self, bit_ofBool, ofBits_toBits, Option.map_some, Nat.reduceSub]

theorem OwnRow.orrRegReg (cond s rn rd rs shift rm) : OwnRow.Statement (.orrRegReg cond s rn rd rs shift rm) := by
  refine ⟨110, _, rfl, ?_, ?_⟩
  · show _ &&& (0#4 ++ 0b1111111#7 ++ 0#1 ++ 0#4 ++ 0#4 ++ 0#4 ++ 0b1#1 ++ 0#2 ++ 0b1#1 ++ 0#4) = _
    rw [and_append, and_append, and_append, and_append, and_append, and_append, and_append, and_append, and_append]
    simp only [BitVec.and_zero]
    rfl
  · simp (disch := decide) only [condRow, extract_right, extract_left, bit_right, bit_left,
      BitVec.extractLsb'_eq_self, bit_ofBool, ofBits_toBits, Option.map_some, Nat.reduceSub]

theorem OwnRow.movImm (cond s sbz rd rot imm8) : OwnRow.Statement (.movImm cond s sbz rd rot imm8) := by
  refine ⟨111, _, rfl, ?_, ?_⟩
  · show _ &&& (0#4 ++ 0b1111111#7 ++ 0#1 ++ 0#4 ++ 0#4 ++ 0#4 ++ 0#8) = _
    rw [and_append, and_append, and_append, and_append, and_append, and_append]
    simp only [BitVec.and_zero]
    rfl
  · simp (disch := decide) only [condRow, extract_right, extract_left, bit_right, bit_left,
      BitVec.extractLsb'_eq_self, bit_ofBool, ofBits_toBits, Option.map_some, Nat.reduceSub]

theorem OwnRow.movRegImm (cond s sbz rd imm5 shift rm) : OwnRow.Statement (.movRegImm cond s sbz rd imm5 shift rm) := by
  refine ⟨112, _, rfl, ?_, ?_⟩
  · show _ &&& (0#4 ++ 0b1111111#7 ++ 0#1 ++ 0#4 ++ 0#4 ++ 0#5 ++ 0#2 ++ 0b1#1 ++ 0#4) = _
    rw [and_append, and_append, and_append, and_append, and_append, and_append, and_append, and_append]
    simp only [BitVec.and_zero]
    rfl
  · simp (disch := decide) only [condRow, extract_right, extract_left, bit_right, bit_left,
      BitVec.extractLsb'_eq_self, bit_ofBool, ofBits_toBits, Option.map_some, Nat.reduceSub]

theorem OwnRow.movRegReg (cond s sbz rd rs shift rm) : OwnRow.Statement (.movRegReg cond s sbz rd rs shift rm) := by
  refine ⟨113, _, rfl, ?_, ?_⟩
  · show _ &&& (0#4 ++ 0b1111111#7 ++ 0#1 ++ 0#4 ++ 0#4 ++ 0#4 ++ 0b1#1 ++ 0#2 ++ 0b1#1 ++ 0#4) = _
    rw [and_append, and_append, and_append, and_append, and_append, and_append, and_append, and_append, and_append]
    simp only [BitVec.and_zero]
    rfl
  · simp (disch := decide) only [condRow, extract_right, extract_left, bit_right, bit_left,
      BitVec.extractLsb'_eq_self, bit_ofBool, ofBits_toBits, Option.map_some, Nat.reduceSub]

theorem OwnRow.cpy (cond rd rm) : OwnRow.Statement (.cpy cond rd rm) := by
  refine ⟨114, _, rfl, ?_, ?_⟩
  · show _ &&& (0#4 ++ 0b111111111111#12 ++ 0#4 ++ 0b11111111#8 ++ 0#4) = _
    rw [and_append, and_append, and_append, and_append]
    simp only [BitVec.and_zero]
    rfl
  · simp (disch := decide) only [condRow, extract_right, extract_left, BitVec.extractLsb'_eq_self, ofBits_toBits,
      Option.map_some, Nat.reduceSub]

theorem OwnRow.bicImm (cond s rn rd rot imm8) : OwnRow.Statement (.bicImm cond s rn rd rot imm8) := by
  refine ⟨115, _, rfl, ?_, ?_⟩
  · show _ &&& (0#4 ++ 0b1111111#7 ++ 0#1 ++ 0#4 ++ 0#4 ++ 0#4 ++ 0#8) = _
    rw [and_append, and_append, and_append, and_append, and_append, and_append]
    simp only [BitVec.and_zero]
    rfl
  · simp (disch := decide) only [condRow, extract_right, extract_left, bit_right, bit_left,
      BitVec.extractLsb'_eq_self, bit_ofBool, ofBits_toBits, Option.map_some, Nat.reduceSub]

theorem OwnRow.bicRegImm (cond s rn rd imm5 shift rm) : OwnRow.Statement (.bicRegImm cond s rn rd imm5 shift rm) := by
  refine ⟨116, _, rfl, ?_, ?_⟩
  · show _ &&& (0#4 ++ 0b1111111#7 ++ 0#1 ++ 0#4 ++ 0#4 ++ 0#5 ++ 0#2 ++ 0b1#1 ++ 0#4) = _
    rw [and_append, and_append, and_append, and_append, and_append, and_append, and_append, and_append]
    simp only [BitVec.and_zero]
    rfl
  · simp (disch := decide) only [condRow, extract_right, extract_left, bit_right, bit_left,
      BitVec.extractLsb'_eq_self, bit_ofBool, ofBits_toBits, Option.map_some, Nat.reduceSub]

theorem OwnRow.bicRegReg (cond s rn rd rs shift rm) : OwnRow.Statement (.bicRegReg cond s rn rd rs shift rm) := by
  refine ⟨117, _, rfl, ?_, ?_⟩
  · show _ &&& (0#4 ++ 0b1111111#7 ++ 0#1 ++ 0#4 ++ 0#4 ++ 0#4 ++ 0b1#1 ++ 0#2 ++ 0b1#1 ++ 0#4) = _
    rw [and_append, and_append, and_append, and_append, and_append, and_append, and_append, and_append, and_append]
    simp only [BitVec.and_zero]
    rfl
  · simp (disch := decide) only [condRow, extract_right, extract_left, bit_right, bit_left,
      BitVec.extractLsb'_eq_self, bit_ofBool, ofBits_toBits, Option.map_some, Nat.reduceSub]

theorem OwnRow.mvnImm (cond s sbz rd rot imm8) : OwnRow.Statement (.mvnImm cond s sbz rd rot imm8) := by
  refine ⟨118, _, rfl, ?_, ?_⟩
  · show _ &&& (0#4 ++ 0b1111111#7 ++ 0#1 ++ 0#4 ++ 0#4 ++ 0#4 ++ 0#8) = _
    rw [and_append, and_append, and_append, and_append, and_append, and_append]
    simp only [BitVec.and_zero]
    rfl
  · simp (disch := decide) only [condRow, extract_right, extract_left, bit_right, bit_left,
      BitVec.extractLsb'_eq_self, bit_ofBool, ofBits_toBits, Option.map_some, Nat.reduceSub]

theorem OwnRow.mvnRegImm (cond s sbz rd imm5 shift rm) : OwnRow.Statement (.mvnRegImm cond s sbz rd imm5 shift rm) := by
  refine ⟨119, _, rfl, ?_, ?_⟩
  · show _ &&& (0#4 ++ 0b1111111#7 ++ 0#1 ++ 0#4 ++ 0#4 ++ 0#5 ++ 0#2 ++ 0b1#1 ++ 0#4) = _
    rw [and_append, and_append, and_append, and_append, and_append, and_append, and_append, and_append]
    simp only [BitVec.and_zero]
    rfl
  · simp (disch := decide) only [condRow, extract_right, extract_left, bit_right, bit_left,
      BitVec.extractLsb'_eq_self, bit_ofBool, ofBits_toBits, Option.map_some, Nat.reduceSub]

theorem OwnRow.mvnRegReg (cond s sbz rd rs shift rm) : OwnRow.Statement (.mvnRegReg cond s sbz rd rs shift rm) := by
  refine ⟨120, _, rfl, ?_, ?_⟩
  · show _ &&& (0#4 ++ 0b1111111#7 ++ 0#1 ++ 0#4 ++ 0#4 ++ 0#4 ++ 0b1#1 ++ 0#2 ++ 0b1#1 ++ 0#4) = _
    rw [and_append, and_append, and_append, and_append, and_append, and_append, and_append, and_append, and_append]
    simp only [BitVec.and_zero]
    rfl
  · simp (disch := decide) only [condRow, extract_right, extract_left, bit_right, bit_left,
      BitVec.extractLsb'_eq_self, bit_ofBool, ofBits_toBits, Option.map_some, Nat.reduceSub]

theorem OwnRow.sadd16 (cond rn rd sbo rm) : OwnRow.Statement (.sadd16 cond rn rd sbo rm) := by
  refine ⟨121, _, rfl, ?_, ?_⟩
  · show _ &&& (0#4 ++ 0b11111111#8 ++ 0#4 ++ 0#4 ++ 0#4 ++ 0b1111#4 ++ 0#4) = _
    rw [and_append, and_append, and_append, and_append, and_append, and_append]
    simp only [BitVec.and_zero]
    rfl
  · simp (disch := decide) only [condRow, extract_right, extract_left, BitVec.extractLsb'_eq_self, ofBits_toBits,
      Option.map_some, Nat.reduceSub]

theorem OwnRow.qadd16 (cond rn rd sbo rm) : OwnRow.Statement (.qadd16 cond rn rd sbo rm) := by
  refine ⟨122, _, rfl, ?_, ?_⟩
  · show _ &&& (0#4 ++ 0b11111111#8 ++ 0#4 ++ 0#4 ++ 0#4 ++ 0b1111#4 ++ 0#4) = _
    rw [and_append, and_append, and_append, and_append, and_append, and_append]
    simp only [BitVec.and_zero]
    rfl
  · simp (disch := decide) only [condRow, extract_right, extract_left, BitVec.extractLsb'_eq_self, ofBits_toBits,
      Option.map_some, Nat.reduceSub]

theorem OwnRow.shadd16 (cond rn rd sbo rm) : OwnRow.Statement (.shadd16 cond rn rd sbo rm) := by
  refine ⟨123, _, rfl, ?_, ?_⟩
  · show _ &&& (0#4 ++ 0b11111111#8 ++ 0#4 ++ 0#4 ++ 0#4 ++ 0b1111#4 ++ 0#4) = _
    rw [and_append, and_append, and_append, and_append, and_append, and_append]
    simp only [BitVec.and_zero]
    rfl
  · simp (disch := decide) only [condRow, extract_right, extract_left, BitVec.extractLsb'_eq_self, ofBits_toBits,
      Option.map_some, Nat.reduceSub]

theorem OwnRow.uadd16 (cond rn rd sbo rm) : OwnRow.Statement (.uadd16 cond rn rd sbo rm) := by
  refine ⟨124, _, rfl, ?_, ?_⟩
  · show _ &&& (0#4 ++ 0b11111111#8 ++ 0#4 ++ 0#4 ++ 0#4 ++ 0b1111#4 ++ 0#4) = _
    rw [and_append, and_append, and_append, and_append, and_append, and_append]
    simp only [BitVec.and_zero]
    rfl
  · simp (disch := decide) only [condRow, extract_right, extract_left, BitVec.extractLsb'_eq_self, ofBits_toBits,
      Option.map_some, Nat.reduceSub]

theorem OwnRow.uqadd16 (cond rn rd sbo rm) : OwnRow.Statement (.uqadd16 cond rn rd sbo rm) := by
  refine ⟨125, _, rfl, ?_, ?_⟩
  · show _ &&& (0#4 ++ 0b11111111#8 ++ 0#4 ++ 0#4 ++ 0#4 ++ 0b1111#4 ++ 0#4) = _
    rw [and_append, and_append, and_append, and_append, and_append, and_append]
    simp only [BitVec.and_zero]
    rfl
  · simp (disch := decide) only [condRow, extract_right, extract_left, BitVec.extractLsb'_eq_self, ofBits_toBits,
      Option.map_some, Nat.reduceSub]

theorem OwnRow.uhadd16 (cond rn rd sbo rm) : OwnRow.Statement (.uhadd16 cond rn rd sbo rm) := by
  refine ⟨126, _, rfl, ?_, ?_⟩
  · show _ &&& (0#4 ++ 0b11111111#8 ++ 0#4 ++ 0#4 ++ 0#4 ++ 0b1111#4 ++ 0#4) = _
    rw [and_append, and_append, and_append, and_append, and_append, and_append]
    simp only [BitVec.and_zero]
    rfl
  · simp (disch := decide) only [condRow, extract_right, extract_left, BitVec.extractLsb'_eq_self, ofBits_toBits,
      Option.map_some, Nat.reduceSub]

theorem OwnRow.saddsubx (cond rn rd sbo rm) : OwnRow.Statement (.saddsubx cond rn rd sbo rm) := by
  refine ⟨127, _, rfl, ?_, ?_⟩
  · show _ &&& (0#4 ++ 0b11111111#8 ++ 0#4 ++ 0#4 ++ 0#4 ++ 0b1111#4 ++ 0#4) = _
    rw [and_append, and_append, and_append, and_append, and_append, and_append]
    simp only [BitVec.and_zero]
    rfl
  · simp (disch := decide) only [condRow, extract_right, extract_left, BitVec.extractLsb'_eq_self, ofBits_toBits,
      Option.map_some, Nat.reduceSub]

theorem OwnRow.qaddsubx (cond rn rd sbo rm) : OwnRow.Statement (.qaddsubx cond rn rd sbo rm) := by
  refine ⟨128, _, rfl, ?_, ?_⟩
  · show _ &&& (0#4 ++ 0b11111111#8 ++ 0#4 ++ 0#4 ++ 0#4 ++ 0b1111#4 ++ 0#4) = _
    rw [and_append, and_append, and_append, and_append, and_append, and_append]
    simp only [BitVec.and_zero]
    rfl
  · simp (disch := decide) only [condRow, extract_right, extract_left, BitVec.extractLsb'_eq_self, ofBits_toBits,
      Option.map_some, Nat.reduceSub]

theorem OwnRow.shaddsubx (cond rn rd sbo rm) : OwnRow.Statement (.shaddsubx cond rn rd sbo rm) := by
  refine ⟨129, _, rfl, ?_, ?_⟩
  · show _ &&& (0#4 ++ 0b11111111#8 ++ 0#4 ++ 0#4 ++ 0#4 ++ 0b1111#4 ++ 0#4) = _
    rw [and_append, and_append, and_append, and_append, and_append, and_append]
    simp only [BitVec.and_zero]
    rfl
  · simp (disch := decide) only [condRow, extract_right, extract_left, BitVec.extractLsb'_eq_self, ofBits_toBits,
      Option.map_some, Nat.reduceSub]

theorem OwnRow.uaddsubx (cond rn rd sbo rm) : OwnRow.Statement (.uaddsubx cond rn rd sbo rm) := by
  refine ⟨130, _, rfl, ?_, ?_⟩
  · show _ &&& (0#4 ++ 0b11111111#8 ++ 0#4 ++ 0#4 ++ 0#4 ++ 0b1111#4 ++ 0#4) = _
    rw [and_append, and_append, and_append, and_append, and_append, and_append]
    simp only [BitVec.and_zero]
    rfl
  · simp (disch := decide) only [condRow, extract_right, extract_left, BitVec.extractLsb'_eq_self, ofBits_toBits,
      Option.map_some, Nat.reduceSub]

theorem OwnRow.uqaddsubx (cond rn rd sbo rm) : OwnRow.Statement (.uqaddsubx cond rn rd sbo rm) := by
  refine ⟨131, _, rfl, ?_, ?_⟩
  · show _ &&& (0#4 ++ 0b11111111#8 ++ 0#4 ++ 0#4 ++ 0#4 ++ 0b1111#4 ++ 0#4) = _
    rw [and_append, and_append, and_append, and_append, and_append, and_append]
    simp only [BitVec.and_zero]
    rfl
  · simp (disch := decide) only [condRow, extract_right, extract_left, BitVec.extractLsb'_eq_self, ofBits_toBits,
      Option.map_some, Nat.reduceSub]

theorem OwnRow.uhaddsubx (cond rn rd sbo rm) : OwnRow.Statement (.uhaddsubx cond rn rd sbo rm) := by
  refine ⟨132, _, rfl, ?_, ?_⟩
  · show _ &&& (0#4 ++ 0b11111111#8 ++ 0#4 ++ 0#4 ++ 0#4 ++ 0b1111#4 ++ 0#4) = _
    rw [and_append, and_append, and_append, and_append, and_append, and_append]
    simp only [BitVec.and_zero]
    rfl
  · simp (disch := decide) only [condRow, extract_right, extract_left, BitVec.extractLsb'_eq_self, ofBits_toBits,
      Option.map_some, Nat.reduceSub]

theorem OwnRow.ssubaddx (cond rn rd sbo rm) : OwnRow.Statement (.ssubaddx cond rn rd sbo rm) := by
  refine ⟨133, _, rfl, ?_, ?_⟩
  · show _ &&& (0#4 ++ 0b11111111#8 ++ 0#4 ++ 0#4 ++ 0#4 ++ 0b1111#4 ++ 0#4) = _
    rw [and_append, and_append, and_append, and_append, and_append, and_append]
    simp only [BitVec.and_zero]
    rfl
  · simp (disch := decide) only [condRow, extract_right, extract_left, BitVec.extractLsb'_eq_self, ofBits_toBits,
      Option.map_some, Nat.reduceSub]

theorem OwnRow.qsubaddx (cond rn rd sbo rm) : OwnRow.Statement (.qsubaddx cond rn rd sbo rm) := by
  refine ⟨134, _, rfl, ?_, ?_⟩
  · show _ &&& (0#4 ++ 0b11111111#8 ++ 0#4 ++ 0#4 ++ 0#4 ++ 0b1111#4 ++ 0#4) = _
    rw [and_append, and_append, and_append, and_append, and_append, and_append]
    simp only [BitVec.and_zero]
    rfl
  · simp (disch := decide) only [condRow, extract_right, extract_left, BitVec.extractLsb'_eq_self, ofBits_toBits,
      Option.map_some, Nat.reduceSub]

theorem OwnRow.shsubaddx (cond rn rd sbo rm) : OwnRow.Statement (.shsubaddx cond rn rd sbo rm) := by
  refine ⟨135, _, rfl, ?_, ?_⟩
  · show _ &&& (0#4 ++ 0b11111111#8 ++ 0#4 ++ 0#4 ++ 0#4 ++ 0b1111#4 ++ 0#4) = _
    rw [and_append, and_append, and_append, and_append, and_append, and_append]
    simp only [BitVec.and_zero]
    rfl
  · simp (disch := decide) only [condRow, extract_right, extract_left, BitVec.extractLsb'_eq_self, ofBits_toBits,
      Option.map_some, Nat.reduceSub]

theorem OwnRow.usubaddx (cond rn rd sbo rm) : OwnRow.Statement (.usubaddx cond rn rd sbo rm) := by
  refine ⟨136, _, rfl, ?_, ?_⟩
  · show _ &&& (0#4 ++ 0b11111111#8 ++ 0#4 ++ 0#4 ++ 0#4 ++ 0b1111#4 ++ 0#4) = _
    rw [and_append, and_append, and_append, and_append, and_append, and_append]
    simp only [BitVec.and_zero]
    rfl
  · simp (disch := decide) only [condRow, extract_right, extract_left, BitVec.extractLsb'_eq_self, ofBits_toBits,
      Option.map_some, Nat.reduceSub]

theorem OwnRow.uqsubaddx (cond rn rd sbo rm) : OwnRow.Statement (.uqsubaddx cond rn rd sbo rm) := by
  refine ⟨137, _, rfl, ?_, ?_⟩
  · show _ &&& (0#4 ++ 0b11111111#8 ++ 0#4 ++ 0#4 ++ 0#4 ++ 0b1111#4 ++ 0#4) = _
    rw [and_append, and_append, and_append, and_append, and_append, and_append]
    simp only [BitVec.and_zero]
    rfl
  · simp (disch := decide) only [condRow, extract_right, extract_left, BitVec.extractLsb'_eq_self, ofBits_toBits,
      Option.map_some, Nat.reduceSub]

theorem OwnRow.uhsubaddx (cond rn rd sbo rm) : OwnRow.Statement (.uhsubaddx cond rn rd sbo rm) := by
  refine ⟨138, _, rfl, ?_, ?_⟩
  · show _ &&& (0#4 ++ 0b11111111#8 ++ 0#4 ++ 0#4 ++ 0#4 ++ 0b1111#4 ++ 0#4) = _
    rw [and_append, and_append, and_append, and_append, and_append, and_append]
    simp only [BitVec.and_zero]
    rfl
  · simp (disch := decide) only [condRow, extract_right, extract_left, BitVec.extractLsb'_eq_self, ofBits_toBits,
      Option.map_some, Nat.reduceSub]

theorem OwnRow.ssub16 (cond rn rd sbo rm) : OwnRow.Statement (.ssub16 cond rn rd sbo rm) := by
  refine ⟨139, _, rfl, ?_, ?_⟩
  · show _ &&& (0#4 ++ 0b11111111#8 ++ 0#4 ++ 0#4 ++ 0#4 ++ 0b1111#4 ++ 0#4) = _
    rw [and_append, and_append, and_append, and_append, and_append, and_append]
    simp only [BitVec.and_zero]
    rfl
  · simp (disch := decide) only [condRow, extract_right, extract_left, BitVec.extractLsb'_eq_self, ofBits_toBits,
      Option.map_some, Nat.reduceSub]

theorem OwnRow.qsub16 (cond rn rd sbo rm) : OwnRow.Statement (.qsub16 cond rn rd sbo rm) := by
  refine ⟨140, _, rfl, ?_, ?_⟩
  · show _ &&& (0#4 ++ 0b11111111#8 ++ 0#4 ++ 0#4 ++ 0#4 ++ 0b1111#4 ++ 0#4) = _
    rw [and_append, and_append, and_append, and_append, and_append, and_append]
    simp only [BitVec.and_zero]
    rfl
  · simp (disch := decide) only [condRow, extract_right, extract_left, BitVec.extractLsb'_eq_self, ofBits_toBits,
      Option.map_some, Nat.reduceSub]

theorem OwnRow.shsub16 (cond rn rd sbo rm) : OwnRow.Statement (.shsub16 cond rn rd sbo rm) := by
  refine ⟨141, _, rfl, ?_, ?_⟩
  · show _ &&& (0#4 ++ 0b11111111#8 ++ 0#4 ++ 0#4 ++ 0#4 ++ 0b1111#4 ++ 0#4) = _
    rw [and_append, and_append, and_append, and_append, and_append, and_append]
    simp only [BitVec.and_zero]
    rfl
  · simp (disch := decide) only [condRow, extract_right, extract_left, BitVec.extractLsb'_eq_self, ofBits_toBits,
      Option.map_some, Nat.reduceSub]

theorem OwnRow.usub16 (cond rn rd sbo rm) : OwnRow.Statement (.usub16 cond rn rd sbo rm) := by
  refine ⟨142, _, rfl, ?_, ?_⟩
  · show _ &&& (0#4 ++ 0b11111111#8 ++ 0#4 ++ 0#4 ++ 0#4 ++ 0b1111#4 ++ 0#4) = _
    rw [and_append, and_append, and_append, and_append, and_append, and_append]
    simp only [BitVec.and_zero]
    rfl
  · simp (disch := decide) only [condRow, extract_right, extract_left, BitVec.extractLsb'_eq_self, ofBits_toBits,
      Option.map_some, Nat.reduceSub]

theorem OwnRow.uqsub16 (cond rn rd sbo rm) : OwnRow.Statement (.uqsub16 cond rn rd sbo rm) := by
  refine ⟨143, _, rfl, ?_, ?_⟩
  · show _ &&& (0#4 ++ 0b11111111#8 ++ 0#4 ++ 0#4 ++ 0#4 ++ 0b1111#4 ++ 0#4) = _
    rw [and_append, and_append, and_append, and_append, and_append, and_append]
    simp only [BitVec.and_zero]
    rfl
  · simp (disch := decide) only [condRow, extract_right, extract_left, BitVec.extractLsb'_eq_self, ofBits_toBits,
      Option.map_some, Nat.reduceSub]

theorem OwnRow.uhsub16 (cond rn rd sbo rm) : OwnRow.Statement (.uhsub16 cond rn rd sbo rm) := by
  refine ⟨144, _, rfl, ?_, ?_⟩
  · show _ &&& (0#4 ++ 0b11111111#8 ++ 0#4 ++ 0#4 ++ 0#4 ++ 0b1111#4 ++ 0#4) = _
    rw [and_append, and_append, and_append, and_append, and_append, and_append]
    simp only [BitVec.and_zero]
    rfl
  · simp (disch := decide) only [condRow, extract_right, extract_left, BitVec.extractLsb'_eq_self, ofBits_toBits,
      Option.map_some, Nat.reduceSub]

theorem OwnRow.sadd8 (cond rn rd sbo rm) : OwnRow.Statement (.sadd8 cond rn rd sbo rm) := by
  refine ⟨145, _, rfl, ?_, ?_⟩
  · show _ &&& (0#4 ++ 0b11111111#8 ++ 0#4 ++ 0#4 ++ 0#4 ++ 0b1111#4 ++ 0#4) = _
    rw [and_append, and_append, and_append, and_append, and_append, and_append]
    simp only [BitVec.and_zero]
    rfl
  · simp (disch := decide) only [condRow, extract_right, extract_left, BitVec.extractLsb'_eq_self, ofBits_toBits,
      Option.map_some, Nat.reduceSub]

theorem OwnRow.qadd8 (cond rn rd sbo rm) : OwnRow.Statement (.qadd8 cond rn rd sbo rm) := by
  refine ⟨146, _, rfl, ?_, ?_⟩
  · show _ &&& (0#4 ++ 0b11111111#8 ++ 0#4 ++ 0#4 ++ 0#4 ++ 0b1111#4 ++ 0#4) = _
    rw [and_append, and_append, and_append, and_append, and_append, and_append]
    simp only [BitVec.and_zero]
    rfl
  · simp (disch := decide) only [condRow, extract_right, extract_left, BitVec.extractLsb'_eq_self, ofBits_toBits,
      Option.map_some, Nat.reduceSub]

theorem OwnRow.shadd8 (cond rn rd sbo rm) : OwnRow.Statement (.shadd8 cond rn rd sbo rm) := by
  refine ⟨147, _, rfl, ?_, ?_⟩
  · show _ &&& (0#4 ++ 0b11111111#8 ++ 0#4 ++ 0#4 ++ 0#4 ++ 0b1111#4 ++ 0#4) = _
    rw [and_append, and_append, and_append, and_append, and_append, and_append]
    simp only [BitVec.and_zero]
    rfl
  · simp (disch := decide) only [condRow, extract_right, extract_left, BitVec.extractLsb'_eq_self, ofBits_toBits,
      Option.map_some, Nat.reduceSub]

theorem OwnRow.uadd8 (cond rn rd sbo rm) : OwnRow.Statement (.uadd8 cond rn rd sbo rm) := by
  refine ⟨148, _, rfl, ?_, ?_⟩
  · show _ &&& (0#4 ++ 0b11111111#8 ++ 0#4 ++ 0#4 ++ 0#4 ++ 0b1111#4 ++ 0#4) = _
    rw [and_append, and_append, and_append, and_append, and_append, and_append]
    simp only [BitVec.and_zero]
    rfl
  · simp (disch := decide) only [condRow, extract_right, extract_left, BitVec.extractLsb'_eq_self, ofBits_toBits,
      Option.map_some, Nat.reduceSub]

theorem OwnRow.uqadd8 (cond rn rd sbo rm) : OwnRow.Statement (.uqadd8 cond rn rd sbo rm) := by
  refine ⟨149, _, rfl, ?_, ?_⟩
  · show _ &&& (0#4 ++ 0b11111111#8 ++ 0#4 ++ 0#4 ++ 0#4 ++ 0b1111#4 ++ 0#4) = _
    rw [and_append, and_append, and_append, and_append, and_append, and_append]
    simp only [BitVec.and_zero]
    rfl
  · simp (disch := decide) only [condRow, extract_right, extract_left, BitVec.extractLsb'_eq_self, ofBits_toBits,
      Option.map_some, Nat.reduceSub]

theorem OwnRow.uhadd8 (cond rn rd sbo rm) : OwnRow.Statement (.uhadd8 cond rn rd sbo rm) := by
  refine ⟨150, _, rfl, ?_, ?_⟩
  · show _ &&& (0#4 ++ 0b11111111#8 ++ 0#4 ++ 0#4 ++ 0#4 ++ 0b1111#4 ++ 0#4) = _
    rw [and_append, and_append, and_append, and_append, and_append, and_append]
    simp only [BitVec.and_zero]
    rfl
  · simp (disch := decide) only [condRow, extract_right, extract_left, BitVec.extractLsb'_eq_self, ofBits_toBits,
      Option.map_some, Nat.reduceSub]

theorem OwnRow.ssub8 (cond rn rd sbo rm) : OwnRow.Statement (.ssub8 cond rn rd sbo rm) := by
  refine ⟨151, _, rfl, ?_, ?_⟩
  · show _ &&& (0#4 ++ 0b11111111#8 ++ 0#4 ++ 0#4 ++ 0#4 ++ 0b1111#4 ++ 0#4) = _
    rw [and_append, and_append, and_append, and_append, and_append, and_append]
    simp only [BitVec.and_zero]
    rfl
  · simp (disch := decide) only [condRow, extract_right, extract_left, BitVec.extractLsb'_eq_self, ofBits_toBits,
      Option.map_some, Nat.reduceSub]

theorem OwnRow.qsub8 (cond rn rd sbo rm) : OwnRow.Statement (.qsub8 cond rn rd sbo rm) := by
  refine ⟨152, _, rfl, ?_, ?_⟩
  · show _ &&& (0#4 ++ 0b11111111#8 ++ 0#4 ++ 0#4 ++ 0#4 ++ 0b1111#4 ++ 0#4) = _
    rw [and_append, and_append, and_append, and_append, and_append, and_append]
    simp only [BitVec.and_zero]
    rfl
  · simp (disch := decide) only [condRow, extract_right, extract_left, BitVec.extractLsb'_eq_self, ofBits_toBits,
      Option.map_some, Nat.reduceSub]

theorem OwnRow.shsub8 (cond rn rd sbo rm) : OwnRow.Statement (.shsub8 cond rn rd sbo rm) := by
  refine ⟨153, _, rfl, ?_, ?_⟩
  · show _ &&& (0#4 ++ 0b11111111#8 ++ 0#4 ++ 0#4 ++ 0#4 ++ 0b1111#4 ++ 0#4) = _
    rw [and_append, and_append, and_append, and_append, and_append, and_append]
    simp only [BitVec.and_zero]
    rfl
  · simp (disch := decide) only [condRow, extract_right, extract_left, BitVec.extractLsb'_eq_self, ofBits_toBits,
      Option.map_some, Nat.reduceSub]

theorem OwnRow.usub8 (cond rn rd sbo rm) : OwnRow.Statement (.usub8 cond rn rd sbo rm) := by
  refine ⟨154, _, rfl, ?_, ?_⟩
  · show _ &&& (0#4 ++ 0b11111111#8 ++ 0#4 ++ 0#4 ++ 0#4 ++ 0b1111#4 ++ 0#4) = _
    rw [and_append, and_append, and_append, and_append, and_append, and_append]
    simp only [BitVec.and_zero]
    rfl
  · simp (disch := decide) only [condRow, extract_right, extract_left, BitVec.extractLsb'_eq_self, ofBits_toBits,
      Option.map_some, Nat.reduceSub]

theorem OwnRow.uqsub8 (cond rn rd sbo rm) : OwnRow.Statement (.uqsub8 cond rn rd sbo rm) := by
  refine ⟨155, _, rfl, ?_, ?_⟩
  · show _ &&& (0#4 ++ 0b11111111#8 ++ 0#4 ++ 0#4 ++ 0#4 ++ 0b1111#4 ++ 0#4) = _
    rw [and_append, and_append, and_append, and_append, and_append, and_append]
    simp only [BitVec.and_zero]
    rfl
  · simp (disch := decide) only [condRow, extract_right, extract_left, BitVec.extractLsb'_eq_self, ofBits_toBits,
      Option.map_some, Nat.reduceSub]

theorem OwnRow.uhsub8 (cond rn rd sbo rm) : OwnRow.Statement (.uhsub8 cond rn rd sbo rm) := by
  refine ⟨156, _, rfl, ?_, ?_⟩
  · show _ &&& (0#4 ++ 0b11111111#8 ++ 0#4 ++ 0#4 ++ 0#4 ++ 0b1111#4 ++ 0#4) = _
    rw [and_append, and_append, and_append, and_append, and_append, and_append]
    simp only [BitVec.and_zero]
    rfl
  · simp (disch := decide) only [condRow, extract_right, extract_left, BitVec.extractLsb'_eq_self, ofBits_toBits,
      Option.map_some, Nat.reduceSub]

theorem OwnRow.sel (cond rn rd sbo rm) : OwnRow.Statement (.sel cond rn rd sbo rm) := by
  refine ⟨157, _, rfl, ?_, ?_⟩
  · show _ &&& (0#4 ++ 0b11111111#8 ++ 0#4 ++ 0#4 ++ 0#4 ++ 0b1111#4 ++ 0#4) = _
    rw [and_append, and_append, and_append, and_append, and_append, and_append]
    simp only [BitVec.and_zero]
    rfl
  · simp (disch := decide) only [condRow, extract_right, extract_left, BitVec.extractLsb'_eq_self, ofBits_toBits,
      Option.map_some, Nat.reduceSub]

theorem OwnRow.rev (cond sbo rd sbo2 rm) : OwnRow.Statement (.rev cond sbo rd sbo2 rm) := by
  refine ⟨158, _, rfl, ?_, ?_⟩
  · show _ &&& (0#4 ++ 0b11111111#8 ++ 0#4 ++ 0#4 ++ 0#4 ++ 0b1111#4 ++ 0#4) = _
    rw [and_append, and_append, and_append, and_append, and_append, and_append]
    simp only [BitVec.and_zero]
    rfl
  · simp (disch := decide) only [condRow, extract_right, extract_left, BitVec.extractLsb'_eq_self, ofBits_toBits,
      Option.map_some, Nat.reduceSub]

theorem OwnRow.rev16 (cond sbo rd sbo2 rm) : OwnRow.Statement (.rev16 cond sbo rd sbo2 rm) := by
  refine ⟨159, _, rfl, ?_, ?_⟩
  · show _ &&& (0#4 ++ 0b11111111#8 ++ 0#4 ++ 0#4 ++ 0#4 ++ 0b1111#4 ++ 0#4) = _
    rw [and_append, and_append, and_append, and_append, and_append, and_append]
    simp only [BitVec.and_zero]
    rfl
  · simp (disch := decide) only [condRow, extract_right, extract_left, BitVec.extractLsb'_eq_self, ofBits_toBits,
      Option.map_some, Nat.reduceSub]

theorem OwnRow.revsh (cond sbo rd sbo2 rm) : OwnRow.Statement (.revsh cond sbo rd sbo2 rm) := by
  refine ⟨160, _, rfl, ?_, ?_⟩
  · show _ &&& (0#4 ++ 0b11111111#8 ++ 0#4 ++ 0#4 ++ 0#4 ++ 0b1111#4 ++ 0#4) = _
    rw [and_append, and_append, and_append, and_append, and_append, and_append]
    simp only [BitVec.and_zero]
    rfl
  · simp (disch := decide) only [condRow, extract_right, extract_left, BitVec.extractLsb'_eq_self, ofBits_toBits,
      Option.map_some, Nat.reduceSub]

theorem OwnRow.ssat16 (cond satImm rd sbo rm) : OwnRow.Statement (.ssat16 cond satImm rd sbo rm) := by
  refine ⟨161, _, rfl, ?_, ?_⟩
  · show _ &&& (0#4 ++ 0b11111111#8 ++ 0#4 ++ 0#4 ++ 0#4 ++ 0b1111#4 ++ 0#4) = _
    rw [and_append, and_append, and_append, and_append, and_append, and_append]
    simp only [BitVec.and_zero]
    rfl
  · simp (disch := decide) only [condRow, extract_right, extract_left, BitVec.extractLsb'_eq_self, ofBits_toBits,
      Option.map_some, Nat.reduceSub]

theorem OwnRow.usat16 (cond satImm rd sbo rm) : OwnRow.Statement (.usat16 cond satImm rd sbo rm) := by
  refine ⟨162, _, rfl, ?_, ?_⟩
  · show _ &&& (0#4 ++ 0b11111111#8 ++ 0#4 ++ 0#4 ++ 0#4 ++ 0b1111#4 ++ 0#4) = _
    rw [and_append, and_append, and_append, and_append, and_append, and_append]
    simp only [BitVec.and_zero]
    rfl
  · simp (disch := decide) only [condRow, extract_right, extract_left, BitVec.extractLsb'_eq_self, ofBits_toBits,
      Option.map_some, Nat.reduceSub]

theorem OwnRow.sxtb16 (cond rd rotate sbz rm) : OwnRow.Statement (.sxtb16 cond rd rotate sbz rm) := by
  refine ⟨163, _, rfl, ?_, ?_⟩
  · show _ &&& (0#4 ++ 0b111111111111#12 ++ 0#4 ++ 0#2 ++ 0#2 ++ 0b1111#4 ++ 0#4) = _
    rw [and_append, and_append, and_append, and_append, and_append, and_append]
    simp only [BitVec.and_zero]
    rfl
  · simp (disch := decide) only [condRow, extract_right, extract_left, BitVec.extractLsb'_eq_self, ofBits_toBits,
      Option.map_some, Nat.reduceSub]

theorem OwnRow.sxtab16 (cond rn rd rotate sbz rm) : OwnRow.Statement (.sxtab16 cond rn rd rotate sbz rm) := by
  refine ⟨164, _, rfl, ?_, ?_⟩
  · show _ &&& (0#4 ++ 0b11111111#8 ++ 0#4 ++ 0#4 ++ 0#2 ++ 0#2 ++ 0b1111#4 ++ 0#4) = _
    rw [and_append, and_append, and_append, and_append, and_append, and_append, and_append]
    simp only [BitVec.and_zero]
    rfl
  · simp (disch := decide) only [condRow, extract_right, extract_left, BitVec.extractLsb'_eq_self, ofBits_toBits,
      Option.map_some, Nat.reduceSub]

theorem OwnRow.sxtb (cond rd rotate sbz rm) : OwnRow.Statement (.sxtb cond rd rotate sbz rm) := by
  refine ⟨165, _, rfl, ?_, ?_⟩
  · show _ &&& (0#4 ++ 0b111111111111#12 ++ 0#4 ++ 0#2 ++ 0#2 ++ 0b1111#4 ++ 0#4) = _
    rw [and_append, and_append, and_append, and_append, and_append, and_append]
    simp only [BitVec.and_zero]
    rfl
  · simp (disch := decide) only [condRow, extract_right, extract_left, BitVec.extractLsb'_eq_self, ofBits_toBits,
      Option.map_some, Nat.reduceSub]

theorem OwnRow.sxtab (cond rn rd rotate sbz rm) : OwnRow.Statement (.sxtab cond rn rd rotate sbz rm) := by
  refine ⟨166, _, rfl, ?_, ?_⟩
  · show _ &&& (0#4 ++ 0b11111111#8 ++ 0#4 ++ 0#4 ++ 0#2 ++ 0#2 ++ 0b1111#4 ++ 0#4) = _
    rw [and_append, and_append, and_append, and_append, and_append, and_append, and_append]
    simp only [BitVec.and_zero]
    rfl
  · simp (disch := decide) only [condRow, extract_right, extract_left, BitVec.extractLsb'_eq_self, ofBits_toBits,
      Option.map_some, Nat.reduceSub]

theorem OwnRow.sxth (cond rd rotate sbz rm) : OwnRow.Statement (.sxth cond rd rotate sbz rm) := by
  refine ⟨167, _, rfl, ?_, ?_⟩
  · show _ &&& (0#4 ++ 0b111111111111#12 ++ 0#4 ++ 0#2 ++ 0#2 ++ 0b1111#4 ++ 0#4) = _
    rw [and_append, and_append, and_append, and_append, and_append, and_append]
    simp only [BitVec.and_zero]
    rfl
  · simp (disch := decide) only [condRow, extract_right, extract_left, BitVec.extractLsb'_eq_self, ofBits_toBits,
      Option.map_some, Nat.reduceSub]

theorem OwnRow.sxtah (cond rn rd rotate sbz rm) : OwnRow.Statement (.sxtah cond rn rd rotate sbz rm) := by
  refine ⟨168, _, rfl, ?_, ?_⟩
  · show _ &&& (0#4 ++ 0b11111111#8 ++ 0#4 ++ 0#4 ++ 0#2 ++ 0#2 ++ 0b1111#4 ++ 0#4) = _
    rw [and_append, and_append, and_append, and_append, and_append, and_append, and_append]
    simp only [BitVec.and_zero]
    rfl
  · simp (disch := decide) only [condRow, extract_right, extract_left, BitVec.extractLsb'_eq_self, ofBits_toBits,
      Option.map_some, Nat.reduceSub]

theorem OwnRow.uxtb16 (cond rd rotate sbz rm) : OwnRow.Statement (.uxtb16 cond rd rotate sbz rm) := by
  refine ⟨169, _, rfl, ?_, ?_⟩
  · show _ &&& (0#4 ++ 0b111111111111#12 ++ 0#4 ++ 0#2 ++ 0#2 ++ 0b1111#4 ++ 0#4) = _
    rw [and_append, and_append, and_append, and_append, and_append, and_append]
    simp only [BitVec.and_zero]
    rfl
  · simp (disch := decide) only [condRow, extract_right, extract_left, BitVec.extractLsb'_eq_self, ofBits_toBits,
      Option.map_some, Nat.reduceSub]

theorem OwnRow.uxtab16 (cond rn rd rotate sbz rm) : OwnRow.Statement (.uxtab16 cond rn rd rotate sbz rm) := by
  refine ⟨170, _, rfl, ?_, ?_⟩
  · show _ &&& (0#4 ++ 0b11111111#8 ++ 0#4 ++ 0#4 ++ 0#2 ++ 0#2 ++ 0b1111#4 ++ 0#4) = _
    rw [and_append, and_append, and_append, and_append, and_append, and_append, and_append]
    simp only [BitVec.and_zero]
    rfl
  · simp (disch := decide) only [condRow, extract_right, extract_left, BitVec.extractLsb'_eq_self, ofBits_toBits,
      Option.map_some, Nat.reduceSub]

theorem OwnRow.uxtb (cond rd rotate sbz rm) : OwnRow.Statement (.uxtb cond rd rotate sbz rm) := by
  refine ⟨171, _, rfl, ?_, ?_⟩
  · show _ &&& (0#4 ++ 0b111111111111#12 ++ 0#4 ++ 0#2 ++ 0#2 ++ 0b1111#4 ++ 0#4) = _
    rw [and_append, and_append, and_append, and_append, and_append, and_append]
    simp only [BitVec.and_zero]
    rfl
  · simp (disch := decide) only [condRow, extract_right, extract_left, BitVec.extractLsb'_eq_self, ofBits_toBits,
      Option.map_some, Nat.reduceSub]

theorem OwnRow.uxtab (cond rn rd rotate sbz rm) : OwnRow.Statement (.uxtab cond rn rd rotate sbz rm) := by
  refine ⟨172, _, rfl, ?_, ?_⟩
  · show _ &&& (0#4 ++ 0b11111111#8 ++ 0#4 ++ 0#4 ++ 0#2 ++ 0#2 ++ 0b1111#4 ++ 0#4) = _
    rw [and_append, and_append, and_append, and_append, and_append, and_append, and_append]
    simp only [BitVec.and_zero]
    rfl
  · simp (disch := decide) only [condRow, extract_right, extract_left, BitVec.extractLsb'_eq_self, ofBits_toBits,
      Option.map_some, Nat.reduceSub]

theorem OwnRow.uxth (cond rd rotate sbz rm) : OwnRow.Statement (.uxth cond rd rotate sbz rm) := by
  refine ⟨173, _, rfl, ?_, ?_⟩
  · show _ &&& (0#4 ++ 0b111111111111#12 ++ 0#4 ++ 0#2 ++ 0#2 ++ 0b1111#4 ++ 0#4) = _
    rw [and_append, and_append, and_append, and_append, and_append, and_append]
    simp only [BitVec.and_zero]
    rfl
  · simp (disch := decide) only [condRow, extract_right, extract_left, BitVec.extractLsb'_eq_self, ofBits_toBits,
      Option.map_some, Nat.reduceSub]

theorem OwnRow.uxtah (cond rn rd rotate sbz rm) : OwnRow.Statement (.uxtah cond rn rd rotate sbz rm) := by
  refine ⟨174, _, rfl, ?_, ?_⟩
  · show _ &&& (0#4 ++ 0b11111111#8 ++ 0#4 ++ 0#4 ++ 0#2 ++ 0#2 ++ 0b1111#4 ++ 0#4) = _
    rw [and_append, and_append, and_append, and_append, and_append, and_append, and_append]
    simp only [BitVec.and_zero]
    rfl
  · simp (disch := decide) only [condRow, extract_right, extract_left, BitVec.extractLsb'_eq_self, ofBits_toBits,
      Option.map_some, Nat.reduceSub]

theorem OwnRow.pkhbt (cond rn rd imm5 rm) : OwnRow.Statement (.pkhbt cond rn rd imm5 rm) := by
  refine ⟨175, _, rfl, ?_, ?_⟩
  · show _ &&& (0#4 ++ 0b11111111#8 ++ 0#4 ++ 0#4 ++ 0#5 ++ 0b111#3 ++ 0#4) = _
    rw [and_append, and_append, and_append, and_append, and_append, and_append]
    simp only [BitVec.and_zero]
    rfl
  · simp (disch := decide) only [condRow, extract_right, extract_left, BitVec.extractLsb'_eq_self, ofBits_toBits,
      Option.map_some, Nat.reduceSub]

theorem OwnRow.pkhtb (cond rn rd imm5 rm) : OwnRow.Statement (.pkhtb cond rn rd imm5 rm) := by
  refine ⟨176, _, rfl, ?_, ?_⟩
  · show _ &&& (0#4 ++ 0b11111111#8 ++ 0#4 ++ 0#4 ++ 0#5 ++ 0b111#3 ++ 0#4) = _
    rw [and_append, and_append, and_append, and_append, and_append, and_append]
    simp only [BitVec.and_zero]
    rfl
  · simp (disch := decide) only [condRow, extract_right, extract_left, BitVec.extractLsb'_eq_self, ofBits_toBits,
      Option.map_some, Nat.reduceSub]

theorem OwnRow.ssat (cond satImm rd imm5 shift rm) : OwnRow.Statement (.ssat cond satImm rd imm5 shift rm) := by
  refine ⟨177, _, rfl, ?_, ?_⟩
  · show _ &&& (0#4 ++ 0b1111111#7 ++ 0#5 ++ 0#4 ++ 0#5 ++ 0#1 ++ 0b11#2 ++ 0#4) = _
    rw [and_append, and_append, and_append, and_append, and_append, and_append, and_append]
    simp only [BitVec.and_zero]
    rfl
  · simp (disch := decide) only [condRow, extract_right, extract_left, bit_right, bit_left,
      BitVec.extractLsb'_eq_self, bit_ofBool, ofBits_toBits, Option.map_some, Nat.reduceSub]

theorem OwnRow.usat (cond satImm rd imm5 shift rm) : OwnRow.Statement (.usat cond satImm rd imm5 shift rm) := by
  refine ⟨178, _, rfl, ?_, ?_⟩
  · show _ &&& (0#4 ++ 0b1111111#7 ++ 0#5 ++ 0#4 ++ 0#5 ++ 0#1 ++ 0b11#2 ++ 0#4) = _
    rw [and_append, and_append, and_append, and_append, and_append, and_append, and_append]
    simp only [BitVec.and_zero]
    rfl
  · simp (disch := decide) only [condRow, extract_right, extract_left, bit_right, bit_left,
      BitVec.extractLsb'_eq_self, bit_ofBool, ofBits_toBits, Option.map_some, Nat.reduceSub]

theorem OwnRow.smuad (cond rd rs x rm) : OwnRow.Statement (.smuad cond rd rs x rm) := by
  refine ⟨179, _, rfl, ?_, ?_⟩
  · show _ &&& (0#4 ++ 0b11111111#8 ++ 0#4 ++ 0b1111#4 ++ 0#4 ++ 0b11#2 ++ 0#1 ++ 0b1#1 ++ 0#4) = _
    rw [and_append, and_append, and_append, and_append, and_append, and_append, and_append, and_append]
    simp only [BitVec.and_zero]
    rfl
  · simp (disch := decide) only [condRow, extract_right, extract_left, bit_right, bit_left,
      BitVec.extractLsb'_eq_self, bit_ofBool, ofBits_toBits, Option.map_some, Nat.reduceSub]

theorem OwnRow.smlad (cond rd rn rs x rm) : OwnRow.Statement (.smlad cond rd rn rs x rm) := by
  refine ⟨180, _, rfl, ?_, ?_⟩
  · show _ &&& (0#4 ++ 0b11111111#8 ++ 0#4 ++ 0#4 ++ 0#4 ++ 0b11#2 ++ 0#1 ++ 0b1#1 ++ 0#4) = _
    rw [and_append, and_append, and_append, and_append, and_append, and_append, and_append, and_append]
    simp only [BitVec.and_zero]
    rfl
  · simp (disch := decide) only [condRow, extract_right, extract_left, bit_right, bit_left,
      BitVec.extractLsb'_eq_self, bit_ofBool, ofBits_toBits, Option.map_some, Nat.reduceSub]

theorem OwnRow.smusd (cond rd rs x rm) : OwnRow.Statement (.smusd cond rd rs x rm) := by
  refine ⟨181, _, rfl, ?_, ?_⟩
  · show _ &&& (0#4 ++ 0b11111111#8 ++ 0#4 ++ 0b1111#4 ++ 0#4 ++ 0b11#2 ++ 0#1 ++ 0b1#1 ++ 0#4) = _
    rw [and_append, and_append, and_append, and_append, and_append, and_append, and_append, and_append]
    simp only [BitVec.and_zero]
    rfl
  · simp (disch := decide) only [condRow, extract_right, extract_left, bit_right, bit_left,
      BitVec.extractLsb'_eq_self, bit_ofBool, ofBits_toBits, Option.map_some, Nat.reduceSub]

theorem OwnRow.smlsd (cond rd rn rs x rm) : OwnRow.Statement (.smlsd cond rd rn rs x rm) := by
  refine ⟨182, _, rfl, ?_, ?_⟩
  · show _ &&& (0#4 ++ 0b11111111#8 ++ 0#4 ++ 0#4 ++ 0#4 ++ 0b11#2 ++ 0#1 ++ 0b1#1 ++ 0#4) = _
    rw [and_append, and_append, and_append, and_append, and_append, and_append, and_append, and_append]
    simp only [BitVec.and_zero]
    rfl
  · simp (disch := decide) only [condRow, extract_right, extract_left, bit_right, bit_left,
      BitVec.extractLsb'_eq_self, bit_ofBool, ofBits_toBits, Option.map_some, Nat.reduceSub]

theorem OwnRow.smlald (cond rdHi rdLo rs x rm) : OwnRow.Statement (.smlald cond rdHi rdLo rs x rm) := by
  refine ⟨183, _, rfl, ?_, ?_⟩
  · show _ &&& (0#4 ++ 0b11111111#8 ++ 0#4 ++ 0#4 ++ 0#4 ++ 0b11#2 ++ 0#1 ++ 0b1#1 ++ 0#4) = _
    rw [and_append, and_append, and_append, and_append, and_append, and_append, and_append, and_append]
    simp only [BitVec.and_zero]
    rfl
  · simp (disch := decide) only [condRow, extract_right, extract_left, bit_right, bit_left,
      BitVec.extractLsb'_eq_self, bit_ofBool, ofBits_toBits, Option.map_some, Nat.reduceSub]

theorem OwnRow.smlsld (cond rdHi rdLo rs x rm) : OwnRow.Statement (.smlsld cond rdHi rdLo rs x rm) := by
  refine ⟨184, _, rfl, ?_, ?_⟩
  · show _ &&& (0#4 ++ 0b11111111#8 ++ 0#4 ++ 0#4 ++ 0#4 ++ 0b11#2 ++ 0#1 ++ 0b1#1 ++ 0#4) = _
    rw [and_append, and_append, and_append, and_append, and_append, and_append, and_append, and_append]
    simp only [BitVec.and_zero]
    rfl
  · simp (disch := decide) only [condRow, extract_right, extract_left, bit_right, bit_left,
      BitVec.extractLsb'_eq_self, bit_ofBool, ofBits_toBits, Option.map_some, Nat.reduceSub]

theorem OwnRow.smmul (cond rd rs r rm) : OwnRow.Statement (.smmul cond rd rs r rm) := by
  refine ⟨185, _, rfl, ?_, ?_⟩
  · show _ &&& (0#4 ++ 0b11111111#8 ++ 0#4 ++ 0b1111#4 ++ 0#4 ++ 0b11#2 ++ 0#1 ++ 0b1#1 ++ 0#4) = _
    rw [and_append, and_append, and_append, and_append, and_append, and_append, and_append, and_append]
    simp only [BitVec.and_zero]
    rfl
  · simp (disch := decide) only [condRow, extract_right, extract_left, bit_right, bit_left,
      BitVec.extractLsb'_eq_self, bit_ofBool, ofBits_toBits, Option.map_some, Nat.reduceSub]

theorem OwnRow.smmla (cond rd rn rs r rm) : OwnRow.Statement (.smmla cond rd rn rs r rm) := by
  refine ⟨186, _, rfl, ?_, ?_⟩
  · show _ &&& (0#4 ++ 0b11111111#8 ++ 0#4 ++ 0#4 ++ 0#4 ++ 0b11#2 ++ 0#1 ++ 0b1#1 ++ 0#4) = _
    rw [and_append, and_append, and_append, and_append, and_append, and_append, and_append, and_append]
    simp only [BitVec.and_zero]
    rfl
  · simp (disch := decide) only [condRow, extract_right, extract_left, bit_right, bit_left,
      BitVec.extractLsb'_eq_self, bit_ofBool, ofBits_toBits, Option.map_some, Nat.reduceSub]

theorem OwnRow.smmls (cond rd rn rs r rm) : OwnRow.Statement (.smmls cond rd rn rs r rm) := by
  refine ⟨187, _, rfl, ?_, ?_⟩
  · show _ &&& (0#4 ++ 0b11111111#8 ++ 0#4 ++ 0#4 ++ 0#4 ++ 0b11#2 ++ 0#1 ++ 0b1#1 ++ 0#4) = _
    rw [and_append, and_append, and_append, and_append, and_append, and_append, and_append, and_append]
    simp only [BitVec.and_zero]
    rfl
  · simp (disch := decide) only [condRow, extract_right, extract_left, bit_right, bit_left,
      BitVec.extractLsb'_eq_self, bit_ofBool, ofBits_toBits, Option.map_some, Nat.reduceSub]

theorem OwnRow.usad8 (cond rd rs rm) : OwnRow.Statement (.usad8 cond rd rs rm) := by
  refine ⟨188, _, rfl, ?_, ?_⟩
  · show _ &&& (0#4 ++ 0b11111111#8 ++ 0#4 ++ 0b1111#4 ++ 0#4 ++ 0b1111#4 ++ 0#4) = _
    rw [and_append, and_append, and_append, and_append, and_append, and_append]
    simp only [BitVec.and_zero]
    rfl
  · simp (disch := decide) only [condRow, extract_right, extract_left, BitVec.extractLsb'_eq_self, ofBits_toBits,
      Option.map_some, Nat.reduceSub]

theorem OwnRow.usada8 (cond rd rn rs rm) : OwnRow.Statement (.usada8 cond rd rn rs rm) := by
  refine ⟨189, _, rfl, ?_, ?_⟩
  · show _ &&& (0#4 ++ 0b11111111#8 ++ 0#4 ++ 0#4 ++ 0#4 ++ 0b1111#4 ++ 0#4) = _
    rw [and_append, and_append, and_append, and_append, and_append, and_append]
    simp only [BitVec.and_zero]
    rfl
  · simp (disch := decide) only [condRow, extract_right, extract_left, BitVec.extractLsb'_eq_self, ofBits_toBits,
      Option.map_some, Nat.reduceSub]

theorem OwnRow.undefined8 (cond any any2) : OwnRow.Statement (.undefined8 cond any any2) := by
  refine ⟨190, _, rfl, ?_, ?_⟩
  · show _ &&& (0#4 ++ 0b111#3 ++ 0#20 ++ 0b1#1 ++ 0#4) = _
    rw [and_append, and_append, and_append, and_append]
    simp only [BitVec.and_zero]
    rfl
  · simp (disch := decide) only [condRow, extract_right, extract_left, BitVec.extractLsb'_eq_self, ofBits_toBits,
      Option.map_some, Nat.reduceSub]

theorem OwnRow.ldrtImm (cond u rn rd imm12) : OwnRow.Statement (.ldrtImm cond u rn rd imm12) := by
  refine ⟨191, _, rfl, ?_, ?_⟩
  · show _ &&& (0#4 ++ 0b1111#4 ++ 0#1 ++ 0b111#3 ++ 0#4 ++ 0#4 ++ 0#12) = _
    rw [and_append, and_append, and_append, and_append, and_append, and_append]
    simp only [BitVec.and_zero]
    rfl
  · simp (disch := decide) only [condRow, extract_right, extract_left, bit_right, bit_left,
      BitVec.extractLsb'_eq_self, bit_ofBool, ofBits_toBits, Option.map_some, Nat.reduceSub]

theorem OwnRow.ldrtReg (cond u rn rd imm5 shift rm) : OwnRow.Statement (.ldrtReg cond u rn rd imm5 shift rm) := by
  refine ⟨192, _, rfl, ?_, ?_⟩
  · show _ &&& (0#4 ++ 0b1111#4 ++ 0#1 ++ 0b111#3 ++ 0#4 ++ 0#4 ++ 0#5 ++ 0#2 ++ 0b1#1 ++ 0#4) = _
    rw [and_append, and_append, and_append, and_append, and_append, and_append, and_append, and_append, and_append]
    simp only [BitVec.and_zero]
    rfl
  · simp (disch := decide) only [condRow, extract_right, extract_left, bit_right, bit_left,
      BitVec.extractLsb'_eq_self, bit_ofBool, ofBits_toBits, Option.map_some, Nat.reduceSub]

theorem OwnRow.ldrbtImm (cond u rn rd imm12) : OwnRow.Statement (.ldrbtImm cond u rn rd imm12) := by
  refine ⟨193, _, rfl, ?_, ?_⟩
  · show _ &&& (0#4 ++ 0b1111#4 ++ 0#1 ++ 0b111#3 ++ 0#4 ++ 0#4 ++ 0#12) = _
    rw [and_append, and_append, and_append, and_append, and_append, and_append]
    simp only [BitVec.and_zero]
    rfl
  · simp (disch := decide) only [condRow, extract_right, extract_left, bit_right, bit_left,
      BitVec.extractLsb'_eq_self, bit_ofBool, ofBits_toBits, Option.map_some, Nat.reduceSub]

theorem OwnRow.ldrbtReg (cond u rn rd imm5 shift rm) : OwnRow.Statement (.ldrbtReg cond u rn rd imm5 shift rm) := by
  refine ⟨194, _, rfl, ?_, ?_⟩
  · show _ &&& (0#4 ++ 0b1111#4 ++ 0#1 ++ 0b111#3 ++ 0#4 ++ 0#4 ++ 0#5 ++ 0#2 ++ 0b1#1 ++ 0#4) = _
    rw [and_append, and_append, and_append, and_append, and_append, and_append, and_append, and_append, and_append]
    simp only [BitVec.and_zero]
    rfl
  · simp (disch := decide) only [condRow, extract_right, extract_left, bit_right, bit_left,
      BitVec.extractLsb'_eq_self, bit_ofBool, ofBits_toBits, Option.map_some, Nat.reduceSub]

theorem OwnRow.strtImm (cond u rn rd imm12) : OwnRow.Statement (.strtImm cond u rn rd imm12) := by
  refine ⟨195, _, rfl, ?_, ?_⟩
  · show _ &&& (0#4 ++ 0b1111#4 ++ 0#1 ++ 0b111#3 ++ 0#4 ++ 0#4 ++ 0#12) = _
    rw [and_append, and_append, and_append, and_append, and_append, and_append]
    simp only [BitVec.and_zero]
    rfl
  · simp (disch := decide) only [condRow, extract_right, extract_left, bit_right, bit_left,
      BitVec.extractLsb'_eq_self, bit_ofBool, ofBits_toBits, Option.map_some, Nat.reduceSub]

theorem OwnRow.strtReg (cond u rn rd imm5 shift rm) : OwnRow.Statement (.strtReg cond u rn rd imm5 shift rm) := by
  refine ⟨196, _, rfl, ?_, ?_⟩
  · show _ &&& (0#4 ++ 0b1111#4 ++ 0#1 ++ 0b111#3 ++ 0#4 ++ 0#4 ++ 0#5 ++ 0#2 ++ 0b1#1 ++ 0#4) = _
    rw [and_append, and_append, and_append, and_append, and_append, and_append, and_append, and_append, and_append]
    simp only [BitVec.and_zero]
    rfl
  · simp (disch := decide) only [condRow, extract_right, extract_left, bit_right, bit_left,
      BitVec.extractLsb'_eq_self, bit_ofBool, ofBits_toBits, Option.map_some, Nat.reduceSub]

theorem OwnRow.strbtImm (cond u rn rd imm12) : OwnRow.Statement (.strbtImm cond u rn rd imm12) := by
  refine ⟨197, _, rfl, ?_, ?_⟩
  · show _ &&& (0#4 ++ 0b1111#4 ++ 0#1 ++ 0b111#3 ++ 0#4 ++ 0#4 ++ 0#12) = _
    rw [and_append, and_append, and_append, and_append, and_append, and_append]
    simp only [BitVec.and_zero]
    rfl
  · simp (disch := decide) only [condRow, extract_right, extract_left, bit_right, bit_left,
      BitVec.extractLsb'_eq_self, bit_ofBool, ofBits_toBits, Option.map_some, Nat.reduceSub]

theorem OwnRow.strbtReg (cond u rn rd imm5 shift rm) : OwnRow.Statement (.strbtReg cond u rn rd imm5 shift rm) := by
  refine ⟨198, _, rfl, ?_, ?_⟩
  · show _ &&& (0#4 ++ 0b1111#4 ++ 0#1 ++ 0b111#3 ++ 0#4 ++ 0#4 ++ 0#5 ++ 0#2 ++ 0b1#1 ++ 0#4) = _
    rw [and_append, and_append, and_append, and_append, and_append, and_append, and_append, and_append, and_append]
    simp only [BitVec.and_zero]
    rfl
  · simp (disch := decide) only [condRow, extract_right, extract_left, bit_right, bit_left,
      BitVec.extractLsb'_eq_self, bit_ofBool, ofBits_toBits, Option.map_some, Nat.reduceSub]

theorem OwnRow.ldrImm (cond p u w rn rd imm12) : OwnRow.Statement (.ldrImm cond p u w rn rd imm12) := by
  refine ⟨199, _, rfl, ?_, ?_⟩
  · show _ &&& (0#4 ++ 0b111#3 ++ 0#1 ++ 0#1 ++ 0b1#1 ++ 0#1 ++ 0b1#1 ++ 0#4 ++ 0#4 ++ 0#12) = _
    rw [and_append, and_append, and_append, and_append, and_append, and_append, and_append, and_append, and_append]
    simp only [BitVec.and_zero]
    rfl
  · simp (disch := decide) only [condRow, extract_right, extract_left, bit_right, bit_left,
      BitVec.extractLsb'_eq_self, bit_ofBool, ofBits_toBits, Option.map_some, Nat.reduceSub]

theorem OwnRow.ldrReg (cond p u w rn rd imm5 shift rm) : OwnRow.Statement (.ldrReg cond p u w rn rd imm5 shift rm) := by
  refine ⟨200, _, rfl, ?_, ?_⟩
  · show _ &&& (0#4 ++ 0b111#3 ++ 0#1 ++ 0#1 ++ 0b1#1 ++ 0#1 ++ 0b1#1 ++ 0#4 ++ 0#4 ++ 0#5 ++ 0#2 ++ 0b1#1 ++ 0#4) = _
    rw [and_append, and_append, and_append, and_append, and_append, and_append, and_append, and_append, and_append, and_append, and_append, and_append]
    simp only [BitVec.and_zero]
    rfl
  · simp (disch := decide) only [condRow, extract_right, extract_left, bit_right, bit_left,
      BitVec.extractLsb'_eq_self, bit_ofBool, ofBits_toBits, Option.map_some, Nat.reduceSub]

theorem OwnRow.ldrbImm (cond p u w rn rd imm12) : OwnRow.Statement (.ldrbImm cond p u w rn rd imm12) := by
  refine ⟨201, _, rfl, ?_, ?_⟩
  · show _ &&& (0#4 ++ 0b111#3 ++ 0#1 ++ 0#1 ++ 0b1#1 ++ 0#1 ++ 0b1#1 ++ 0#4 ++ 0#4 ++ 0#12) = _
    rw [and_append, and_append, and_append, and_append, and_append, and_append, and_append, and_append, and_append]
    simp only [BitVec.and_zero]
    rfl
  · simp (disch := decide) only [condRow, extract_right, extract_left, bit_right, bit_left,
      BitVec.extractLsb'_eq_self, bit_ofBool, ofBits_toBits, Option.map_some, Nat.reduceSub]

theorem OwnRow.ldrbReg (cond p u w rn rd imm5 shift rm) : OwnRow.Statement (.ldrbReg cond p u w rn rd imm5 shift rm) := by
  refine ⟨202, _, rfl, ?_, ?_⟩
  · show _ &&& (0#4 ++ 0b111#3 ++ 0#1 ++ 0#1 ++ 0b1#1 ++ 0#1 ++ 0b1#1 ++ 0#4 ++ 0#4 ++ 0#5 ++ 0#2 ++ 0b1#1 ++ 0#4) = _
    rw [and_append, and_append, and_append, and_append, and_append, and_append, and_append, and_append, and_append, and_append, and_append, and_append]
    simp only [BitVec.and_zero]
    rfl
  · simp (disch := decide) only [condRow, extract_right, extract_left, bit_right, bit_left,
      BitVec.extractLsb'_eq_self, bit_ofBool, ofBits_toBits, Option.map_some, Nat.reduceSub]

theorem OwnRow.strImm (cond p u w rn rd imm12) : OwnRow.Statement (.strImm cond p u w rn rd imm12) := by
  refine ⟨203, _, rfl, ?_, ?_⟩
  · show _ &&& (0#4 ++ 0b111#3 ++ 0#1 ++ 0#1 ++ 0b1#1 ++ 0#1 ++ 0b1#1 ++ 0#4 ++ 0#4 ++ 0#12) = _
    rw [and_append, and_append, and_append, and_append, and_append, and_append, and_append, and_append, and_append]
    simp only [BitVec.and_zero]
    rfl
  · simp (disch := decide) only [condRow, extract_right, extract_left, bit_right, bit_left,
      BitVec.extractLsb'_eq_self, bit_ofBool, ofBits_toBits, Option.map_some, Nat.reduceSub]

theorem OwnRow.strReg (cond p u w rn rd imm5 shift rm) : OwnRow.Statement (.strReg cond p u w rn rd imm5 shift rm) := by
  refine ⟨204, _, rfl, ?_, ?_⟩
  · show _ &&& (0#4 ++ 0b111#3 ++ 0#1 ++ 0#1 ++ 0b1#1 ++ 0#1 ++ 0b1#1 ++ 0#4 ++ 0#4 ++ 0#5 ++ 0#2 ++ 0b1#1 ++ 0#4) = _
    rw [and_append, and_append, and_append, and_append, and_append, and_append, and_append, and_append, and_append, and_append, and_append, and_append]
    simp only [BitVec.and_zero]
    rfl
  · simp (disch := decide) only [condRow, extract_right, extract_left, bit_right, bit_left,
      BitVec.extractLsb'_eq_self, bit_ofBool, ofBits_toBits, Option.map_some, Nat.reduceSub]

theorem OwnRow.strbImm (cond p u w rn rd imm12) : OwnRow.Statement (.strbImm cond p u w rn rd imm12) := by
  refine ⟨205, _, rfl, ?_, ?_⟩
  · show _ &&& (0#4 ++ 0b111#3 ++ 0#1 ++ 0#1 ++ 0b1#1 ++ 0#1 ++ 0b1#1 ++ 0#4 ++ 0#4 ++ 0#12) = _
    rw [and_append, and_append, and_append, and_append, and_append, and_append, and_append, and_append, and_append]
    simp only [BitVec.and_zero]
    rfl
  · simp (disch := decide) only [condRow, extract_right, extract_left, bit_right, bit_left,
      BitVec.extractLsb'_eq_self, bit_ofBool, ofBits_toBits, Option.map_some, Nat.reduceSub]

theorem OwnRow.strbReg (cond p u w rn rd imm5 shift rm) : OwnRow.Statement (.strbReg cond p u w rn rd imm5 shift rm) := by
  refine ⟨206, _, rfl, ?_, ?_⟩
  · show _ &&& (0#4 ++ 0b111#3 ++ 0#1 ++ 0#1 ++ 0b1#1 ++ 0#1 ++ 0b1#1 ++ 0#4 ++ 0#4 ++ 0#5 ++ 0#2 ++ 0b1#1 ++ 0#4) = _
    rw [and_append, and_append, and_append, and_append, and_append, and_append, and_append, and_append, and_append, and_append, and_append, and_append]
    simp only [BitVec.and_zero]
    rfl
  · simp (disch := decide) only [condRow, extract_right, extract_left, bit_right, bit_left,
      BitVec.extractLsb'_eq_self, bit_ofBool, ofBits_toBits, Option.map_some, Nat.reduceSub]

theorem OwnRow.ldm3 (cond p u w rn reglist) : OwnRow.Statement (.ldm3 cond p u w rn reglist) := by
  refine ⟨207, _, rfl, ?_, ?_⟩
  · show _ &&& (0#4 ++ 0b111#3 ++ 0#1 ++ 0#1 ++ 0b1#1 ++ 0#1 ++ 0b1#1 ++ 0#4 ++ 0b1#1 ++ 0#15) = _
    rw [and_append, and_append, and_append, and_append, and_append, and_append, and_append, and_append, and_append]
    simp only [BitVec.and_zero]
    rfl
  · simp (disch := decide) only [condRow, extract_right, extract_left, bit_right, bit_left,
      BitVec.extractLsb'_eq_self, bit_ofBool, ofBits_toBits, Option.map_some, Nat.reduceSub]

theorem OwnRow.ldm2 (cond p u sbz rn reglist) : OwnRow.Statement (.ldm2 cond p u sbz rn reglist) := by
  refine ⟨208, _, rfl, ?_, ?_⟩
  · show _ &&& (0#4 ++ 0b111#3 ++ 0#1 ++ 0#1 ++ 0b1#1 ++ 0#1 ++ 0b1#1 ++ 0#4 ++ 0b1#1 ++ 0#15) = _
    rw [and_append, and_append, and_append, and_append, and_append, and_append, and_append, and_append, and_append]
    simp only [BitVec.and_zero]
    rfl
  · simp (disch := decide) only [condRow, extract_right, extract_left, bit_right, bit_left,
      BitVec.extractLsb'_eq_self, bit_ofBool, ofBits_toBits, Option.map_some, Nat.reduceSub]

theorem OwnRow.ldm1 (cond p u w rn reglist) : OwnRow.Statement (.ldm1 cond p u w rn reglist) := by
  refine ⟨209, _, rfl, ?_, ?_⟩
  · show _ &&& (0#4 ++ 0b111#3 ++ 0#1 ++ 0#1 ++ 0b1#1 ++ 0#1 ++ 0b1#1 ++ 0#4 ++ 0#16) = _
    rw [and_append, and_append, and_append, and_append, and_append, and_append, and_append, and_append]
    simp only [BitVec.and_zero]
    rfl
  · simp (disch := decide) only [condRow, extract_right, extract_left, bit_right, bit_left,
      BitVec.extractLsb'_eq_self, bit_ofBool, ofBits_toBits, Option.map_some, Nat.reduceSub]

theorem OwnRow.stm2 (cond p u sbz rn reglist) : OwnRow.Statement (.stm2 cond p u sbz rn reglist) := by
  refine ⟨210, _, rfl, ?_, ?_⟩
  · show _ &&& (0#4 ++ 0b111#3 ++ 0#1 ++ 0#1 ++ 0b1#1 ++ 0#1 ++ 0b1#1 ++ 0#4 ++ 0#16) = _
    rw [and_append, and_append, and_append, and_append, and_append, and_append, and_append, and_append]
    simp only [BitVec.and_zero]
    rfl
  · simp (disch := decide) only [condRow, extract_right, extract_left, bit_right, bit_left,
      BitVec.extractLsb'_eq_self, bit_ofBool, ofBits_toBits, Option.map_some, Nat.reduceSub]

theorem OwnRow.stm1 (cond p u w rn reglist) : OwnRow.Statement (.stm1 cond p u w rn reglist) := by
  refine ⟨211, _, rfl, ?_, ?_⟩
  · show _ &&& (0#4 ++ 0b111#3 ++ 0#1 ++ 0#1 ++ 0b1#1 ++ 0#1 ++ 0b1#1 ++ 0#4 ++ 0#16) = _
    rw [and_append, and_append, and_append, and_append, and_append, and_append, and_append, and_append]
    simp only [BitVec.and_zero]
    rfl
  · simp (disch := decide) only [condRow, extract_right, extract_left, bit_right, bit_left,
      BitVec.extractLsb'_eq_self, bit_ofBool, ofBits_toBits, Option.map_some, Nat.reduceSub]

theorem OwnRow.b (cond imm24) : OwnRow.Statement (.b cond imm24) := by
  refine ⟨212, _, rfl, ?_, ?_⟩
  · show _ &&& (0#4 ++ 0b1111#4 ++ 0#24) = _
    rw [and_append, and_append]
    simp only [BitVec.and_zero]
    rfl
  · simp (disch := decide) only [condRow, extract_right, extract_left, BitVec.extractLsb'_eq_self, ofBits_toBits,
      Option.map_some, Nat.reduceSub]

theorem OwnRow.bl (cond imm24) : OwnRow.Statement (.bl cond imm24) := by
  refine ⟨213, _, rfl, ?_, ?_⟩
  · show _ &&& (0#4 ++ 0b1111#4 ++ 0#24) = _
    rw [and_append, and_append]
    simp only [BitVec.and_zero]
    rfl
  · simp (disch := decide) only [condRow, extract_right, extract_left, BitVec.extractLsb'_eq_self, ofBits_toBits,
      Option.map_some, Nat.reduceSub]

theorem OwnRow.mcrr (cond rn rd cp opc crm) : OwnRow.Statement (.mcrr cond rn rd cp opc crm) := by
  refine ⟨214, _, rfl, ?_, ?_⟩
  · show _ &&& (0#4 ++ 0b11111111#8 ++ 0#4 ++ 0#4 ++ 0#4 ++ 0#4 ++ 0#4) = _
    rw [and_append, and_append, and_append, and_append, and_append, and_append]
    simp only [BitVec.and_zero]
    rfl
  · simp (disch := decide) only [condRow, extract_right, extract_left, BitVec.extractLsb'_eq_self, ofBits_toBits,
      Option.map_some, Nat.reduceSub]

theorem OwnRow.mrrc (cond rn rd cp opc crm) : OwnRow.Statement (.mrrc cond rn rd cp opc crm) := by
  refine ⟨215, _, rfl, ?_, ?_⟩
  · show _ &&& (0#4 ++ 0b11111111#8 ++ 0#4 ++ 0#4 ++ 0#4 ++ 0#4 ++ 0#4) = _
    rw [and_append, and_append, and_append, and_append, and_append, and_append]
    simp only [BitVec.and_zero]
    rfl
  · simp (disch := decide) only [condRow, extract_right, extract_left, BitVec.extractLsb'_eq_self, ofBits_toBits,
      Option.map_some, Nat.reduceSub]

theorem OwnRow.undefined9 (cond any any2) : OwnRow.Statement (.undefined9 cond any any2) := by
  refine ⟨216, _, rfl, ?_, ?_⟩
  · show _ &&& (0#4 ++ 0b1111111#7 ++ 0#1 ++ 0#20) = _
    rw [and_append, and_append, and_append]
    simp only [BitVec.and_zero]
    rfl
  · simp (disch := decide) only [condRow, extract_right, extract_left, bit_right, bit_left,
      BitVec.extractLsb'_eq_self, bit_ofBool, ofBits_toBits, Option.map_some, Nat.reduceSub]

theorem OwnRow.stc (cond p u nBit w rn crd cp imm8) : OwnRow.Statement (.stc cond p u nBit w rn crd cp imm8) := by
  refine ⟨217, _, rfl, ?_, ?_⟩
  · show _ &&& (0#4 ++ 0b111#3 ++ 0#1 ++ 0#1 ++ 0#1 ++ 0#1 ++ 0b1#1 ++ 0#4 ++ 0#4 ++ 0#4 ++ 0#8) = _
    rw [and_append, and_append, and_append, and_append, and_append, and_append, and_append, and_append, and_append, and_append]
    simp only [BitVec.and_zero]
    rfl
  · simp (disch := decide) only [condRow, extract_right, extract_left, bit_right, bit_left,
      BitVec.extractLsb'_eq_self, bit_ofBool, ofBits_toBits, Option.map_some, Nat.reduceSub]

theorem OwnRow.ldc (cond p u nBit w rn crd cp imm8) : OwnRow.Statement (.ldc cond p u nBit w rn crd cp imm8) := by
  refine ⟨218, _, rfl, ?_, ?_⟩
  · show _ &&& (0#4 ++ 0b111#3 ++ 0#1 ++ 0#1 ++ 0#1 ++ 0#1 ++ 0b1#1 ++ 0#4 ++ 0#4 ++ 0#4 ++ 0#8) = _
    rw [and_append, and_append, and_append, and_append, and_append, and_append, and_append, and_append, and_append, and_append]
    simp only [BitVec.and_zero]
    rfl
  · simp (disch := decide) only [condRow, extract_right, extract_left, bit_right, bit_left,
      BitVec.extractLsb'_eq_self, bit_ofBool, ofBits_toBits, Option.map_some, Nat.reduceSub]

theorem OwnRow.cdp (cond opc1 crn crd cp opc2 crm) : OwnRow.Statement (.cdp cond opc1 crn crd cp opc2 crm) := by
  refine ⟨219, _, rfl, ?_, ?_⟩
  · show _ &&& (0#4 ++ 0b1111#4 ++ 0#4 ++ 0#4 ++ 0#4 ++ 0#4 ++ 0#3 ++ 0b1#1 ++ 0#4) = _
    rw [and_append, and_append, and_append, and_append, and_append, and_append, and_append, and_append]
    simp only [BitVec.and_zero]
    rfl
  · simp (disch := decide) only [condRow, extract_right, extract_left, BitVec.extractLsb'_eq_self, ofBits_toBits,
      Option.map_some, Nat.reduceSub]

theorem OwnRow.mcr (cond opc1 crn rd cp opc2 crm) : OwnRow.Statement (.mcr cond opc1 crn rd cp opc2 crm) := by
  refine ⟨220, _, rfl, ?_, ?_⟩
  · show _ &&& (0#4 ++ 0b1111#4 ++ 0#3 ++ 0b1#1 ++ 0#4 ++ 0#4 ++ 0#4 ++ 0#3 ++ 0b1#1 ++ 0#4) = _
    rw [and_append, and_append, and_append, and_append, and_append, and_append, and_append, and_append, and_append]
    simp only [BitVec.and_zero]
    rfl
  · simp (disch := decide) only [condRow, extract_right, extract_left, BitVec.extractLsb'_eq_self, ofBits_toBits,
      Option.map_some, Nat.reduceSub]

theorem OwnRow.mrc (cond opc1 crn rd cp opc2 crm) : OwnRow.Statement (.mrc cond opc1 crn rd cp opc2 crm) := by
  refine ⟨221, _, rfl, ?_, ?_⟩
  · show _ &&& (0#4 ++ 0b1111#4 ++ 0#3 ++ 0b1#1 ++ 0#4 ++ 0#4 ++ 0#4 ++ 0#3 ++ 0b1#1 ++ 0#4) = _
    rw [and_append, and_append, and_append, and_append, and_append, and_append, and_append, and_append, and_append]
    simp only [BitVec.and_zero]
    rfl
  · simp (disch := decide) only [condRow, extract_right, extract_left, BitVec.extractLsb'_eq_self, ofBits_toBits,
      Option.map_some, Nat.reduceSub]

theorem OwnRow.svc (cond imm24) : OwnRow.Statement (.svc cond imm24) := by
  refine ⟨222, _, rfl, ?_, ?_⟩
  · show _ &&& (0#4 ++ 0b1111#4 ++ 0#24) = _
    rw [and_append, and_append]
    simp only [BitVec.and_zero]
    rfl
  · simp (disch := decide) only [condRow, extract_right, extract_left, BitVec.extractLsb'_eq_self, ofBits_toBits,
      Option.map_some, Nat.reduceSub]

theorem OwnRow.tLslImm (imm5 rm rd) : OwnRow.Statement (.tLslImm imm5 rm rd) := by
  refine ⟨0, _, rfl, ?_, ?_⟩
  · show _ &&& (0b11111#5 ++ 0#5 ++ 0#3 ++ 0#3) = _
    rw [and_append, and_append, and_append]
    simp only [BitVec.and_zero]
    rfl
  · simp (disch := decide) only [plainRow, extract_right, extract_left, BitVec.extractLsb'_eq_self, Nat.reduceSub]

theorem OwnRow.tLsrImm (imm5 rm rd) : OwnRow.Statement (.tLsrImm imm5 rm rd) := by
  refine ⟨1, _, rfl, ?_, ?_⟩
  · show _ &&& (0b11111#5 ++ 0#5 ++ 0#3 ++ 0#3) = _
    rw [and_append, and_append, and_append]
    simp only [BitVec.and_zero]
    rfl
  · simp (disch := decide) only [plainRow, extract_right, extract_left, BitVec.extractLsb'_eq_self, Nat.reduceSub]

theorem OwnRow.tAsrImm (imm5 rm rd) : OwnRow.Statement (.tAsrImm imm5 rm rd) := by
  refine ⟨2, _, rfl, ?_, ?_⟩
  · show _ &&& (0b11111#5 ++ 0#5 ++ 0#3 ++ 0#3) = _
    rw [and_append, and_append, and_append]
    simp only [BitVec.and_zero]
    rfl
  · simp (disch := decide) only [plainRow, extract_right, extract_left, BitVec.extractLsb'_eq_self, Nat.reduceSub]

theorem OwnRow.tAddReg (rm rn rd) : OwnRow.Statement (.tAddReg rm rn rd) := by
  refine ⟨3, _, rfl, ?_, ?_⟩
  · show _ &&& (0b1111111#7 ++ 0#3 ++ 0#3 ++ 0#3) = _
    rw [and_append, and_append, and_append]
    simp only [BitVec.and_zero]
    rfl
  · simp (disch := decide) only [plainRow, extract_right, extract_left, BitVec.extractLsb'_eq_self, Nat.reduceSub]

theorem OwnRow.tSubReg (rm rn rd) : OwnRow.Statement (.tSubReg rm rn rd) := by
  refine ⟨4, _, rfl, ?_, ?_⟩
  · show _ &&& (0b1111111#7 ++ 0#3 ++ 0#3 ++ 0#3) = _
    rw [and_append, and_append, and_append]
    simp only [BitVec.and_zero]
    rfl
  · simp (disch := decide) only [plainRow, extract_right, extract_left, BitVec.extractLsb'_eq_self, Nat.reduceSub]

theorem OwnRow.tMovLow (rn rd) : OwnRow.Statement (.tMovLow rn rd) := by
  refine ⟨5, _, rfl, ?_, ?_⟩
  · show _ &&& (0b1111111111#10 ++ 0#3 ++ 0#3) = _
    rw [and_append, and_append]
    simp only [BitVec.and_zero]
    rfl
  · simp (disch := decide) only [plainRow, extract_right, extract_left, BitVec.extractLsb'_eq_self, Nat.reduceSub]

theorem OwnRow.tAddImm3 (imm3 rn rd) : OwnRow.Statement (.tAddImm3 imm3 rn rd) := by
  refine ⟨6, _, rfl, ?_, ?_⟩
  · show _ &&& (0b1111111#7 ++ 0#3 ++ 0#3 ++ 0#3) = _
    rw [and_append, and_append, and_append]
    simp only [BitVec.and_zero]
    rfl
  · simp (disch := decide) only [plainRow, extract_right, extract_left, BitVec.extractLsb'_eq_self, Nat.reduceSub]

theorem OwnRow.tSubImm3 (imm3 rn rd) : OwnRow.Statement (.tSubImm3 imm3 rn rd) := by
  refine ⟨7, _, rfl, ?_, ?_⟩
  · show _ &&& (0b1111111#7 ++ 0#3 ++ 0#3 ++ 0#3) = _
    rw [and_append, and_append, and_append]
    simp only [BitVec.and_zero]
    rfl
  · simp (disch := decide) only [plainRow, extract_right, extract_left, BitVec.extractLsb'_eq_self, Nat.reduceSub]

theorem OwnRow.tMovImm (rd imm8) : OwnRow.Statement (.tMovImm rd imm8) := by
  refine ⟨8, _, rfl, ?_, ?_⟩
  · show _ &&& (0b11111#5 ++ 0#3 ++ 0#8) = _
    rw [and_append, and_append]
    simp only [BitVec.and_zero]
    rfl
  · simp (disch := decide) only [plainRow, extract_right, extract_left, BitVec.extractLsb'_eq_self, Nat.reduceSub]

theorem OwnRow.tCmpImm (rn imm8) : OwnRow.Statement (.tCmpImm rn imm8) := by
  refine ⟨9, _, rfl, ?_, ?_⟩
  · show _ &&& (0b11111#5 ++ 0#3 ++ 0#8) = _
    rw [and_append, and_append]
    simp only [BitVec.and_zero]
    rfl
  · simp (disch := decide) only [plainRow, extract_right, extract_left, BitVec.extractLsb'_eq_self, Nat.reduceSub]

theorem OwnRow.tAddImm8 (rd imm8) : OwnRow.Statement (.tAddImm8 rd imm8) := by
  refine ⟨10, _, rfl, ?_, ?_⟩
  · show _ &&& (0b11111#5 ++ 0#3 ++ 0#8) = _
    rw [and_append, and_append]
    simp only [BitVec.and_zero]
    rfl
  · simp (disch := decide) only [plainRow, extract_right, extract_left, BitVec.extractLsb'_eq_self, Nat.reduceSub]

theorem OwnRow.tSubImm8 (rd imm8) : OwnRow.Statement (.tSubImm8 rd imm8) := by
  refine ⟨11, _, rfl, ?_, ?_⟩
  · show _ &&& (0b11111#5 ++ 0#3 ++ 0#8) = _
    rw [and_append, and_append]
    simp only [BitVec.and_zero]
    rfl
  · simp (disch := decide) only [plainRow, extract_right, extract_left, BitVec.extractLsb'_eq_self, Nat.reduceSub]

theorem OwnRow.tAnd (rm rd) : OwnRow.Statement (.tAnd rm rd) := by
  refine ⟨12, _, rfl, ?_, ?_⟩
  · show _ &&& (0b1111111111#10 ++ 0#3 ++ 0#3) = _
    rw [and_append, and_append]
    simp only [BitVec.and_zero]
    rfl
  · simp (disch := decide) only [plainRow, extract_right, extract_left, BitVec.extractLsb'_eq_self, Nat.reduceSub]

theorem OwnRow.tEor (rm rd) : OwnRow.Statement (.tEor rm rd) := by
  refine ⟨13, _, rfl, ?_, ?_⟩
  · show _ &&& (0b1111111111#10 ++ 0#3 ++ 0#3) = _
    rw [and_append, and_append]
    simp only [BitVec.and_zero]
    rfl
  · simp (disch := decide) only [plainRow, extract_right, extract_left, BitVec.extractLsb'_eq_self, Nat.reduceSub]

theorem OwnRow.tLslReg (rm rd) : OwnRow.Statement (.tLslReg rm rd) := by
  refine ⟨14, _, rfl, ?_, ?_⟩
  · show _ &&& (0b1111111111#10 ++ 0#3 ++ 0#3) = _
    rw [and_append, and_append]
    simp only [BitVec.and_zero]
    rfl
  · simp (disch := decide) only [plainRow, extract_right, extract_left, BitVec.extractLsb'_eq_self, Nat.reduceSub]

theorem OwnRow.tLsrReg (rm rd) : OwnRow.Statement (.tLsrReg rm rd) := by
  refine ⟨15, _, rfl, ?_, ?_⟩
  · show _ &&& (0b1111111111#10 ++ 0#3 ++ 0#3) = _
    rw [and_append, and_append]
    simp only [BitVec.and_zero]
    rfl
  · simp (disch := decide) only [plainRow, extract_right, extract_left, BitVec.extractLsb'_eq_self, Nat.reduceSub]

theorem OwnRow.tAsrReg (rm rd) : OwnRow.Statement (.tAsrReg rm rd) := by
  refine ⟨16, _, rfl, ?_, ?_⟩
  · show _ &&& (0b1111111111#10 ++ 0#3 ++ 0#3) = _
    rw [and_append, and_append]
    simp only [BitVec.and_zero]
    rfl
  · simp (disch := decide) only [plainRow, extract_right, extract_left, BitVec.extractLsb'_eq_self, Nat.reduceSub]

theorem OwnRow.tAdc (rm rd) : OwnRow.Statement (.tAdc rm rd) := by
  refine ⟨17, _, rfl, ?_, ?_⟩
  · show _ &&& (0b1111111111#10 ++ 0#3 ++ 0#3) = _
    rw [and_append, and_append]
    simp only [BitVec.and_zero]
    rfl
  · simp (disch := decide) only [plainRow, extract_right, extract_left, BitVec.extractLsb'_eq_self, Nat.reduceSub]

theorem OwnRow.tSbc (rm rd) : OwnRow.Statement (.tSbc rm rd) := by
  refine ⟨18, _, rfl, ?_, ?_⟩
  · show _ &&& (0b1111111111#10 ++ 0#3 ++ 0#3) = _
    rw [and_append, and_append]
    simp only [BitVec.and_zero]
    rfl
  · simp (disch := decide) only [plainRow, extract_right, extract_left, BitVec.extractLsb'_eq_self, Nat.reduceSub]

theorem OwnRow.tRor (rm rd) : OwnRow.Statement (.tRor rm rd) := by
  refine ⟨19, _, rfl, ?_, ?_⟩
  · show _ &&& (0b1111111111#10 ++ 0#3 ++ 0#3) = _
    rw [and_append, and_append]
    simp only [BitVec.and_zero]
    rfl
  · simp (disch := decide) only [plainRow, extract_right, extract_left, BitVec.extractLsb'_eq_self, Nat.reduceSub]

theorem OwnRow.tTst (rm rd) : OwnRow.Statement (.tTst rm rd) := by
  refine ⟨20, _, rfl, ?_, ?_⟩
  · show _ &&& (0b1111111111#10 ++ 0#3 ++ 0#3) = _
    rw [and_append, and_append]
    simp only [BitVec.and_zero]
    rfl
  · simp (disch := decide) only [plainRow, extract_right, extract_left, BitVec.extractLsb'_eq_self, Nat.reduceSub]

theorem OwnRow.tNeg (rm rd) : OwnRow.Statement (.tNeg rm rd) := by
  refine ⟨21, _, rfl, ?_, ?_⟩
  · show _ &&& (0b1111111111#10 ++ 0#3 ++ 0#3) = _
    rw [and_append, and_append]
    simp only [BitVec.and_zero]
    rfl
  · simp (disch := decide) only [plainRow, extract_right, extract_left, BitVec.extractLsb'_eq_self, Nat.reduceSub]

theorem OwnRow.tCmpLow (rm rd) : OwnRow.Statement (.tCmpLow rm rd) := by
  refine ⟨22, _, rfl, ?_, ?_⟩
  · show _ &&& (0b1111111111#10 ++ 0#3 ++ 0#3) = _
    rw [and_append, and_append]
    simp only [BitVec.and_zero]
    rfl
  · simp (disch := decide) only [plainRow, extract_right, extract_left, BitVec.extractLsb'_eq_self, Nat.reduceSub]

theorem OwnRow.tCmn (rm rd) : OwnRow.Statement (.tCmn rm rd) := by
  refine ⟨23, _, rfl, ?_, ?_⟩
  · show _ &&& (0b1111111111#10 ++ 0#3 ++ 0#3) = _
    rw [and_append, and_append]
    simp only [BitVec.and_zero]
    rfl
  · simp (disch := decide) only [plainRow, extract_right, extract_left, BitVec.extractLsb'_eq_self, Nat.reduceSub]

theorem OwnRow.tOrr (rm rd) : OwnRow.Statement (.tOrr rm rd) := by
  refine ⟨24, _, rfl, ?_, ?_⟩
  · show _ &&& (0b1111111111#10 ++ 0#3 ++ 0#3) = _
    rw [and_append, and_append]
    simp only [BitVec.and_zero]
    rfl
  · simp (disch := decide) only [plainRow, extract_right, extract_left, BitVec.extractLsb'_eq_self, Nat.reduceSub]

theorem OwnRow.tMul (rm rd) : OwnRow.Statement (.tMul rm rd) := by
  refine ⟨25, _, rfl, ?_, ?_⟩
  · show _ &&& (0b1111111111#10 ++ 0#3 ++ 0#3) = _
    rw [and_append, and_append]
    simp only [BitVec.and_zero]
    rfl
  · simp (disch := decide) only [plainRow, extract_right, extract_left, BitVec.extractLsb'_eq_self, Nat.reduceSub]

theorem OwnRow.tBic (rm rd) : OwnRow.Statement (.tBic rm rd) := by
  refine ⟨26, _, rfl, ?_, ?_⟩
  · show _ &&& (0b1111111111#10 ++ 0#3 ++ 0#3) = _
    rw [and_append, and_append]
    simp only [BitVec.and_zero]
    rfl
  · simp (disch := decide) only [plainRow, extract_right, extract_left, BitVec.extractLsb'_eq_self, Nat.reduceSub]

theorem OwnRow.tMvn (rm rd) : OwnRow.Statement (.tMvn rm rd) := by
  refine ⟨27, _, rfl, ?_, ?_⟩
  · show _ &&& (0b1111111111#10 ++ 0#3 ++ 0#3) = _
    rw [and_append, and_append]
    simp only [BitVec.and_zero]
    rfl
  · simp (disch := decide) only [plainRow, extract_right, extract_left, BitVec.extractLsb'_eq_self, Nat.reduceSub]

theorem OwnRow.tAddHigh (d m rm rd) : OwnRow.Statement (.tAddHigh d m rm rd) := by
  refine ⟨28, _, rfl, ?_, ?_⟩
  · show _ &&& (0b11111111#8 ++ 0#1 ++ 0#1 ++ 0#3 ++ 0#3) = _
    rw [and_append, and_append, and_append, and_append]
    simp only [BitVec.and_zero]
    rfl
  · simp (disch := decide) only [plainRow, extract_right, extract_left, bit_right, bit_left,
      BitVec.extractLsb'_eq_self, bit_ofBool, Nat.reduceSub]

theorem OwnRow.tCmpHigh (hn m rm rn) : OwnRow.Statement (.tCmpHigh hn m rm rn) := by
  refine ⟨29, _, rfl, ?_, ?_⟩
  · show _ &&& (0b11111111#8 ++ 0#1 ++ 0#1 ++ 0#3 ++ 0#3) = _
    rw [and_append, and_append, and_append, and_append]
    simp only [BitVec.and_zero]
    rfl
  · simp (disch := decide) only [plainRow, extract_right, extract_left, bit_right, bit_left,
      BitVec.extractLsb'_eq_self, bit_ofBool, Nat.reduceSub]

theorem OwnRow.tMovHigh (d m rm rd) : OwnRow.Statement (.tMovHigh d m rm rd) := by
  refine ⟨30, _, rfl, ?_, ?_⟩
  · show _ &&& (0b11111111#8 ++ 0#1 ++ 0#1 ++ 0#3 ++ 0#3) = _
    rw [and_append, and_append, and_append, and_append]
    simp only [BitVec.and_zero]
    rfl
  · simp (disch := decide) only [plainRow, extract_right, extract_left, bit_right, bit_left,
      BitVec.extractLsb'_eq_self, bit_ofBool, Nat.reduceSub]

theorem OwnRow.tCpy (d m rm rd) : OwnRow.Statement (.tCpy d m rm rd) := by
  refine ⟨31, _, rfl, ?_, ?_⟩
  · show _ &&& (0b11111111#8 ++ 0#1 ++ 0#1 ++ 0#3 ++ 0#3) = _
    rw [and_append, and_append, and_append, and_append]
    simp only [BitVec.and_zero]
    rfl
  · simp (disch := decide) only [plainRow, extract_right, extract_left, bit_right, bit_left,
      BitVec.extractLsb'_eq_self, bit_ofBool, Nat.reduceSub]

theorem OwnRow.tBx (m rm sbz) : OwnRow.Statement (.tBx m rm sbz) := by
  refine ⟨32, _, rfl, ?_, ?_⟩
  · show _ &&& (0b111111111#9 ++ 0#1 ++ 0#3 ++ 0#3) = _
    rw [and_append, and_append, and_append]
    simp only [BitVec.and_zero]
    rfl
  · simp (disch := decide) only [plainRow, extract_right, extract_left, bit_right, bit_left,
      BitVec.extractLsb'_eq_self, bit_ofBool, Nat.reduceSub]

theorem OwnRow.tBlxReg (m rm sbz) : OwnRow.Statement (.tBlxReg m rm sbz) := by
  refine ⟨33, _, rfl, ?_, ?_⟩
  · show _ &&& (0b111111111#9 ++ 0#1 ++ 0#3 ++ 0#3) = _
    rw [and_append, and_append, and_append]
    simp only [BitVec.and_zero]
    rfl
  · simp (disch := decide) only [plainRow, extract_right, extract_left, bit_right, bit_left,
      BitVec.extractLsb'_eq_self, bit_ofBool, Nat.reduceSub]

theorem OwnRow.tLdrPc (rd imm8) : OwnRow.Statement (.tLdrPc rd imm8) := by
  refine ⟨34, _, rfl, ?_, ?_⟩
  · show _ &&& (0b11111#5 ++ 0#3 ++ 0#8) = _
    rw [and_append, and_append]
    simp only [BitVec.and_zero]
    rfl
  · simp (disch := decide) only [plainRow, extract_right, extract_left, BitVec.extractLsb'_eq_self, Nat.reduceSub]

theorem OwnRow.tStrReg (rm rn rd) : OwnRow.Statement (.tStrReg rm rn rd) := by
  refine ⟨35, _, rfl, ?_, ?_⟩
  · show _ &&& (0b1111111#7 ++ 0#3 ++ 0#3 ++ 0#3) = _
    rw [and_append, and_append, and_append]
    simp only [BitVec.and_zero]
    rfl
  · simp (disch := decide) only [plainRow, extract_right, extract_left, BitVec.extractLsb'_eq_self, Nat.reduceSub]

theorem OwnRow.tStrhReg (rm rn rd) : OwnRow.Statement (.tStrhReg rm rn rd) := by
  refine ⟨36, _, rfl, ?_, ?_⟩
  · show _ &&& (0b1111111#7 ++ 0#3 ++ 0#3 ++ 0#3) = _
    rw [and_append, and_append, and_append]
    simp only [BitVec.and_zero]
    rfl
  · simp (disch := decide) only [plainRow, extract_right, extract_left, BitVec.extractLsb'_eq_self, Nat.reduceSub]

theorem OwnRow.tStrbReg (rm rn rd) : OwnRow.Statement (.tStrbReg rm rn rd) := by
  refine ⟨37, _, rfl, ?_, ?_⟩
  · show _ &&& (0b1111111#7 ++ 0#3 ++ 0#3 ++ 0#3) = _
    rw [and_append, and_append, and_append]
    simp only [BitVec.and_zero]
    rfl
  · simp (disch := decide) only [plainRow, extract_right, extract_left, BitVec.extractLsb'_eq_self, Nat.reduceSub]

theorem OwnRow.tLdrsb (rm rn rd) : OwnRow.Statement (.tLdrsb rm rn rd) := by
  refine ⟨38, _, rfl, ?_, ?_⟩
  · show _ &&& (0b1111111#7 ++ 0#3 ++ 0#3 ++ 0#3) = _
    rw [and_append, and_append, and_append]
    simp only [BitVec.and_zero]
    rfl
  · simp (disch := decide) only [plainRow, extract_right, extract_left, BitVec.extractLsb'_eq_self, Nat.reduceSub]

theorem OwnRow.tLdrReg (rm rn rd) : OwnRow.Statement (.tLdrReg rm rn rd) := by
  refine ⟨39, _, rfl, ?_, ?_⟩
  · show _ &&& (0b1111111#7 ++ 0#3 ++ 0#3 ++ 0#3) = _
    rw [and_append, and_append, and_append]
    simp only [BitVec.and_zero]
    rfl
  · simp (disch := decide) only [plainRow, extract_right, extract_left, BitVec.extractLsb'_eq_self, Nat.reduceSub]

theorem OwnRow.tLdrhReg (rm rn rd) : OwnRow.Statement (.tLdrhReg rm rn rd) := by
  refine ⟨40, _, rfl, ?_, ?_⟩
  · show _ &&& (0b1111111#7 ++ 0#3 ++ 0#3 ++ 0#3) = _
    rw [and_append, and_append, and_append]
    simp only [BitVec.and_zero]
    rfl
  · simp (disch := decide) only [plainRow, extract_right, extract_left, BitVec.extractLsb'_eq_self, Nat.reduceSub]

theorem OwnRow.tLdrbReg (rm rn rd) : OwnRow.Statement (.tLdrbReg rm rn rd) := by
  refine ⟨41, _, rfl, ?_, ?_⟩
  · show _ &&& (0b1111111#7 ++ 0#3 ++ 0#3 ++ 0#3) = _
    rw [and_append, and_append, and_append]
    simp only [BitVec.and_zero]
    rfl
  · simp (disch := decide) only [plainRow, extract_right, extract_left, BitVec.extractLsb'_eq_self, Nat.reduceSub]

theorem OwnRow.tLdrsh (rm rn rd) : OwnRow.Statement (.tLdrsh rm rn rd) := by
  refine ⟨42, _, rfl, ?_, ?_⟩
  · show _ &&& (0b1111111#7 ++ 0#3 ++ 0#3 ++ 0#3) = _
    rw [and_append, and_append, and_append]
    simp only [BitVec.and_zero]
    rfl
  · simp (disch := decide) only [plainRow, extract_right, extract_left, BitVec.extractLsb'_eq_self, Nat.reduceSub]

theorem OwnRow.tStrImm (imm5 rn rd) : OwnRow.Statement (.tStrImm imm5 rn rd) := by
  refine ⟨43, _, rfl, ?_, ?_⟩
  · show _ &&& (0b11111#5 ++ 0#5 ++ 0#3 ++ 0#3) = _
    rw [and_append, and_append, and_append]
    simp only [BitVec.and_zero]
    rfl
  · simp (disch := decide) only [plainRow, extract_right, extract_left, BitVec.extractLsb'_eq_self, Nat.reduceSub]

theorem OwnRow.tLdrImm (imm5 rn rd) : OwnRow.Statement (.tLdrImm imm5 rn rd) := by
  refine ⟨44, _, rfl, ?_, ?_⟩
  · show _ &&& (0b11111#5 ++ 0#5 ++ 0#3 ++ 0#3) = _
    rw [and_append, and_append, and_append]
    simp only [BitVec.and_zero]
    rfl
  · simp (disch := decide) only [plainRow, extract_right, extract_left, BitVec.extractLsb'_eq_self, Nat.reduceSub]

theorem OwnRow.tStrbImm (imm5 rn rd) : OwnRow.Statement (.tStrbImm imm5 rn rd) := by
  refine ⟨45, _, rfl, ?_, ?_⟩
  · show _ &&& (0b11111#5 ++ 0#5 ++ 0#3 ++ 0#3) = _
    rw [and_append, and_append, and_append]
    simp only [BitVec.and_zero]
    rfl
  · simp (disch := decide) only [plainRow, extract_right, extract_left, BitVec.extractLsb'_eq_self, Nat.reduceSub]

theorem OwnRow.tLdrbImm (imm5 rn rd) : OwnRow.Statement (.tLdrbImm imm5 rn rd) := by
  refine ⟨46, _, rfl, ?_, ?_⟩
  · show _ &&& (0b11111#5 ++ 0#5 ++ 0#3 ++ 0#3) = _
    rw [and_append, and_append, and_append]
    simp only [BitVec.and_zero]
    rfl
  · simp (disch := decide) only [plainRow, extract_right, extract_left, BitVec.extractLsb'_eq_self, Nat.reduceSub]

theorem OwnRow.tStrhImm (imm5 rn rd) : OwnRow.Statement (.tStrhImm imm5 rn rd) := by
  refine ⟨47, _, rfl, ?_, ?_⟩
  · show _ &&& (0b11111#5 ++ 0#5 ++ 0#3 ++ 0#3) = _
    rw [and_append, and_append, and_append]
    simp only [BitVec.and_zero]
    rfl
  · simp (disch := decide) only [plainRow, extract_right, extract_left, BitVec.extractLsb'_eq_self, Nat.reduceSub]

theorem OwnRow.tLdrhImm (imm5 rn rd) : OwnRow.Statement (.tLdrhImm imm5 rn rd) := by
  refine ⟨48, _, rfl, ?_, ?_⟩
  · show _ &&& (0b11111#5 ++ 0#5 ++ 0#3 ++ 0#3) = _
    rw [and_append, and_append, and_append]
    simp only [BitVec.and_zero]
    rfl
  · simp (disch := decide) only [plainRow, extract_right, extract_left, BitVec.extractLsb'_eq_self, Nat.reduceSub]

theorem OwnRow.tStrSp (rd imm8) : OwnRow.Statement (.tStrSp rd imm8) := by
  refine ⟨49, _, rfl, ?_, ?_⟩
  · show _ &&& (0b11111#5 ++ 0#3 ++ 0#8) = _
    rw [and_append, and_append]
    simp only [BitVec.and_zero]
    rfl
  · simp (disch := decide) only [plainRow, extract_right, extract_left, BitVec.extractLsb'_eq_self, Nat.reduceSub]

theorem OwnRow.tLdrSp (rd imm8) : OwnRow.Statement (.tLdrSp rd imm8) := by
  refine ⟨50, _, rfl, ?_, ?_⟩
  · show _ &&& (0b11111#5 ++ 0#3 ++ 0#8) = _
    rw [and_append, and_append]
    simp only [BitVec.and_zero]
    rfl
  · simp (disch := decide) only [plainRow, extract_right, extract_left, BitVec.extractLsb'_eq_self, Nat.reduceSub]

theorem OwnRow.tAddPc (rd imm8) : OwnRow.Statement (.tAddPc rd imm8) := by
  refine ⟨51, _, rfl, ?_, ?_⟩
  · show _ &&& (0b11111#5 ++ 0#3 ++ 0#8) = _
    rw [and_append, and_append]
    simp only [BitVec.and_zero]
    rfl
  · simp (disch := decide) only [plainRow, extract_right, extract_left, BitVec.extractLsb'_eq_self, Nat.reduceSub]

theorem OwnRow.tAddSp (rd imm8) : OwnRow.Statement (.tAddSp rd imm8) := by
  refine ⟨52, _, rfl, ?_, ?_⟩
  · show _ &&& (0b11111#5 ++ 0#3 ++ 0#8) = _
    rw [and_append, and_append]
    simp only [BitVec.and_zero]
    rfl
  · simp (disch := decide) only [plainRow, extract_right, extract_left, BitVec.extractLsb'_eq_self, Nat.reduceSub]

theorem OwnRow.tAddSpImm (imm7) : OwnRow.Statement (.tAddSpImm imm7) := by
  refine ⟨53, _, rfl, ?_, ?_⟩
  · exact (and_append (0b101100000#9) 0b111111111#9 (imm7) 0#7).trans (by rw [BitVec.and_zero]; rfl)
  · simp (disch := decide) only [plainRow, extract_right, BitVec.extractLsb'_eq_self]

theorem OwnRow.tSubSpImm (imm7) : OwnRow.Statement (.tSubSpImm imm7) := by
  refine ⟨54, _, rfl, ?_, ?_⟩
  · exact (and_append (0b101100001#9) 0b111111111#9 (imm7) 0#7).trans (by rw [BitVec.and_zero]; rfl)
  · simp (disch := decide) only [plainRow, extract_right, BitVec.extractLsb'_eq_self]

theorem OwnRow.tSxth (rm rd) : OwnRow.Statement (.tSxth rm rd) := by
  refine ⟨55, _, rfl, ?_, ?_⟩
  · show _ &&& (0b1111111111#10 ++ 0#3 ++ 0#3) = _
    rw [and_append, and_append]
    simp only [BitVec.and_zero]
    rfl
  · simp (disch := decide) only [plainRow, extract_right, extract_left, BitVec.extractLsb'_eq_self, Nat.reduceSub]

theorem OwnRow.tSxtb (rm rd) : OwnRow.Statement (.tSxtb rm rd) := by
  refine ⟨56, _, rfl, ?_, ?_⟩
  · show _ &&& (0b1111111111#10 ++ 0#3 ++ 0#3) = _
    rw [and_append, and_append]
    simp only [BitVec.and_zero]
    rfl
  · simp (disch := decide) only [plainRow, extract_right, extract_left, BitVec.extractLsb'_eq_self, Nat.reduceSub]

theorem OwnRow.tUxth (rm rd) : OwnRow.Statement (.tUxth rm rd) := by
  refine ⟨57, _, rfl, ?_, ?_⟩
  · show _ &&& (0b1111111111#10 ++ 0#3 ++ 0#3) = _
    rw [and_append, and_append]
    simp only [BitVec.and_zero]
    rfl
  · simp (disch := decide) only [plainRow, extract_right, extract_left, BitVec.extractLsb'_eq_self, Nat.reduceSub]

theorem OwnRow.tUxtb (rm rd) : OwnRow.Statement (.tUxtb rm rd) := by
  refine ⟨58, _, rfl, ?_, ?_⟩
  · show _ &&& (0b1111111111#10 ++ 0#3 ++ 0#3) = _
    rw [and_append, and_append]
    simp only [BitVec.and_zero]
    rfl
  · simp (disch := decide) only [plainRow, extract_right, extract_left, BitVec.extractLsb'_eq_self, Nat.reduceSub]

theorem OwnRow.tPush (r reglist) : OwnRow.Statement (.tPush r reglist) := by
  refine ⟨59, _, rfl, ?_, ?_⟩
  · show _ &&& (0b1111111#7 ++ 0#1 ++ 0#8) = _
    rw [and_append, and_append]
    simp only [BitVec.and_zero]
    rfl
  · simp (disch := decide) only [plainRow, extract_right, bit_right, bit_left, BitVec.extractLsb'_eq_self,
      bit_ofBool, Nat.reduceSub]

theorem OwnRow.tSetend (eBit sbz) : OwnRow.Statement (.tSetend eBit sbz) := by
  refine ⟨60, _, rfl, ?_, ?_⟩
  · show _ &&& (0b111111111111#12 ++ 0#1 ++ 0#3) = _
    rw [and_append, and_append]
    simp only [BitVec.and_zero]
    rfl
  · simp (disch := decide) only [plainRow, extract_right, bit_right, bit_left, BitVec.extractLsb'_eq_self,
      bit_ofBool, Nat.reduceSub]

theorem OwnRow.tCps (imod sbz aBit iBit fBit) : OwnRow.Statement (.tCps imod sbz aBit iBit fBit) := by
  refine ⟨61, _, rfl, ?_, ?_⟩
  · show _ &&& (0b11111111111#11 ++ 0#1 ++ 0#1 ++ 0#1 ++ 0#1 ++ 0#1) = _
    rw [and_append, and_append, and_append, and_append, and_append]
    simp only [BitVec.and_zero]
    rfl
  · simp (disch := decide) only [plainRow, bit_right, bit_left, bit_ofBool, Nat.reduceSub]

theorem OwnRow.tRev (rm rd) : OwnRow.Statement (.tRev rm rd) := by
  refine ⟨62, _, rfl, ?_, ?_⟩
  · show _ &&& (0b1111111111#10 ++ 0#3 ++ 0#3) = _
    rw [and_append, and_append]
    simp only [BitVec.and_zero]
    rfl
  · simp (disch := decide) only [plainRow, extract_right, extract_left, BitVec.extractLsb'_eq_self, Nat.reduceSub]

theorem OwnRow.tRev16 (rm rd) : OwnRow.Statement (.tRev16 rm rd) := by
  refine ⟨63, _, rfl, ?_, ?_⟩
  · show _ &&& (0b1111111111#10 ++ 0#3 ++ 0#3) = _
    rw [and_append, and_append]
    simp only [BitVec.and_zero]
    rfl
  · simp (disch := decide) only [plainRow, extract_right, extract_left, BitVec.extractLsb'_eq_self, Nat.reduceSub]

theorem OwnRow.tRevsh (rm rd) : OwnRow.Statement (.tRevsh rm rd) := by
  refine ⟨64, _, rfl, ?_, ?_⟩
  · show _ &&& (0b1111111111#10 ++ 0#3 ++ 0#3) = _
    rw [and_append, and_append]
    simp only [BitVec.and_zero]
    rfl
  · simp (disch := decide) only [plainRow, extract_right, extract_left, BitVec.extractLsb'_eq_self, Nat.reduceSub]

theorem OwnRow.tPop (r reglist) : OwnRow.Statement (.tPop r reglist) := by
  refine ⟨65, _, rfl, ?_, ?_⟩
  · show _ &&& (0b1111111#7 ++ 0#1 ++ 0#8) = _
    rw [and_append, and_append]
    simp only [BitVec.and_zero]
    rfl
  · simp (disch := decide) only [plainRow, extract_right, bit_right, bit_left, BitVec.extractLsb'_eq_self,
      bit_ofBool, Nat.reduceSub]

theorem OwnRow.tBkpt (imm8) : OwnRow.Statement (.tBkpt imm8) := by
  refine ⟨66, _, rfl, ?_, ?_⟩
  · exact (and_append (0b10111110#8) 0b11111111#8 (imm8) 0#8).trans (by rw [BitVec.and_zero]; rfl)
  · simp (disch := decide) only [plainRow, extract_right, BitVec.extractLsb'_eq_self]

theorem OwnRow.tUndefined1 (any) : OwnRow.Statement (.tUndefined1 any) := by
  refine ⟨67, _, rfl, ?_, ?_⟩
  · exact (and_append (0b1011#4) 0b1111#4 (any) 0#12).trans (by rw [BitVec.and_zero]; rfl)
  · simp (disch := decide) only [plainRow, extract_right, BitVec.extractLsb'_eq_self]

theorem OwnRow.tStmia (rn reglist) : OwnRow.Statement (.tStmia rn reglist) := by
  refine ⟨68, _, rfl, ?_, ?_⟩
  · show _ &&& (0b11111#5 ++ 0#3 ++ 0#8) = _
    rw [and_append, and_append]
    simp only [BitVec.and_zero]
    rfl
  · simp (disch := decide) only [plainRow, extract_right, extract_left, BitVec.extractLsb'_eq_self, Nat.reduceSub]

theorem OwnRow.tLdmia (rn reglist) : OwnRow.Statement (.tLdmia rn reglist) := by
  refine ⟨69, _, rfl, ?_, ?_⟩
  · show _ &&& (0b11111#5 ++ 0#3 ++ 0#8) = _
    rw [and_append, and_append]
    simp only [BitVec.and_zero]
    rfl
  · simp (disch := decide) only [plainRow, extract_right, extract_left, BitVec.extractLsb'_eq_self, Nat.reduceSub]

theorem OwnRow.tUndefined2 (any) : OwnRow.Statement (.tUndefined2 any) := by
  refine ⟨70, _, rfl, ?_, ?_⟩
  · exact (and_append (0b11011110#8) 0b11111111#8 (any) 0#8).trans (by rw [BitVec.and_zero]; rfl)
  · simp (disch := decide) only [plainRow, extract_right, BitVec.extractLsb'_eq_self]

theorem OwnRow.tSvc (imm8) : OwnRow.Statement (.tSvc imm8) := by
  refine ⟨71, _, rfl, ?_, ?_⟩
  · exact (and_append (0b11011111#8) 0b11111111#8 (imm8) 0#8).trans (by rw [BitVec.and_zero]; rfl)
  · simp (disch := decide) only [plainRow, extract_right, BitVec.extractLsb'_eq_self]

theorem OwnRow.tBCond (cond imm8) : OwnRow.Statement (.tBCond cond imm8) := by
  refine ⟨72, _, rfl, ?_, ?_⟩
  · show _ &&& (0b1111#4 ++ 0#4 ++ 0#8) = _
    rw [and_append, and_append]
    simp only [BitVec.and_zero]
    rfl
  · simp (disch := decide) only [plainRow, extract_right, extract_left, BitVec.extractLsb'_eq_self, Nat.reduceSub]

theorem OwnRow.tB (imm11) : OwnRow.Statement (.tB imm11) := by
  refine ⟨73, _, rfl, ?_, ?_⟩
  · exact (and_append (0b11100#5) 0b11111#5 (imm11) 0#11).trans (by rw [BitVec.and_zero]; rfl)
  · simp (disch := decide) only [plainRow, extract_right, BitVec.extractLsb'_eq_self]

theorem OwnRow.tBlxSecond (imm11) : OwnRow.Statement (.tBlxSecond imm11) := by
  refine ⟨74, _, rfl, ?_, ?_⟩
  · show _ &&& (0b11111#5 ++ 0#10 ++ 0b1#1) = _
    rw [and_append, and_append]
    simp only [BitVec.and_zero]
    rfl
  · simp (disch := decide) only [plainRow, extract_right, extract_left, BitVec.extractLsb'_eq_self, Nat.reduceSub]

theorem OwnRow.tUndefined3 (any) : OwnRow.Statement (.tUndefined3 any) := by
  refine ⟨75, _, rfl, ?_, ?_⟩
  · show _ &&& (0b11111#5 ++ 0#10 ++ 0b1#1) = _
    rw [and_append, and_append]
    simp only [BitVec.and_zero]
    rfl
  · simp (disch := decide) only [plainRow, extract_right, extract_left, BitVec.extractLsb'_eq_self, Nat.reduceSub]

theorem OwnRow.tBlFirst (imm11) : OwnRow.Statement (.tBlFirst imm11) := by
  refine ⟨76, _, rfl, ?_, ?_⟩
  · exact (and_append (0b11110#5) 0b11111#5 (imm11) 0#11).trans (by rw [BitVec.and_zero]; rfl)
  · simp (disch := decide) only [plainRow, extract_right, BitVec.extractLsb'_eq_self]

theorem OwnRow.tBlSecond (imm11) : OwnRow.Statement (.tBlSecond imm11) := by
  refine ⟨77, _, rfl, ?_, ?_⟩
  · exact (and_append (0b11111#5) 0b11111#5 (imm11) 0#11).trans (by rw [BitVec.and_zero]; rfl)
  · simp (disch := decide) only [plainRow, extract_right, BitVec.extractLsb'_eq_self]

end

end Sys2Proof.Laws
end

