-- ==== Sys2Proof/Laws/Step.lean ====
section
/-!
SUPPORT. What a step of the core can do between two instructions: with no DMA running, no watchpoint and no halting request
only an interrupt comes before the fetch, and with no event after it the instruction runs.
-/
namespace Sys2Proof.Machine

/-- Where no channel runs, a step is the core's alone. -/
theorem dmaOutcome_idle {s : State} (h : s.dma.ch0.state ≠ .running ∧ s.dma.ch1.state ≠ .running) (k : State → Result) :
    s.dmaOutcome k = k s := by
  cases h' : s.activity <;> simp [State.dmaOutcome, State.dmaTick, h', h.1, h.2]

/-- Between two instructions a step takes an interrupt, or fetches and runs. -/
theorem step_between {s : State} (h : s.Between) :
    step s = s.takeInterrupt.andThen s.pmuEnables State.fetchAndRun := by
  have h1 : s.takeWatch = .go s := by simp [State.takeWatch, h.noWatch]
  have h2 : s.takeDebugRequest = .go s := by
    rcases h.noHalt with h | ⟨h, h'⟩
    · simp [State.takeDebugRequest, h]
    · simp [State.takeDebugRequest, h, h']
  simp only [step, State.stepOne, h.agenda, State.event, dmaOutcome_idle h.noDma, State.coreStep, h.running, State.boundary,
    h.noWait, h1, h2, Decision.andThen, Bool.false_eq_true, if_false]

/-- With no interrupt to take the step goes on as it is. -/
theorem takeInterrupt_none {s : State} (h : s.NoInterrupt) : s.takeInterrupt = .go s := by
  rcases h with h | ⟨h1, h2⟩
  · simp [State.takeInterrupt, h]
  · have e1 : (!s.pins.nFIQ && !s.bitF) = false := by rcases h1 with h | h <;> simp [h]
    have e2 : (!s.pins.nIRQ && !s.bitI) = false := by rcases h2 with h | h <;> simp [h]
    simp only [State.takeInterrupt, e1, e2]; split <;> rfl

/-- With no event after the fetch the step goes on as it is. -/
theorem afterFetch_none {u : State} (h : u.NoEvent) : u.afterFetch = .go u := by
  obtain ⟨h1, h2, h3⟩ := h
  have : (if u.bitA then none else u.pendingAbort) = none := by rcases h1 with h | h <;> simp [h]
  simp [State.afterFetch, this, h2, h3]

end Sys2Proof.Machine
end

