-- ==== Sys2Proof/Laws/Translation.lean ====
section
/-!
SUPPORT. What a translation answers: the permission table as readable and writable, an entry as the mapping it stands for,
and what a walk may leave in the lockdown region (21_mmu.md R649, R651, R676, R685, R705).
-/
namespace Sys2Proof.Machine

/-- The permission bits as the table has them: readable and writable, for privileged and for User code. -/
theorem Mapping.permits_eq (m : Mapping) (sBit rBit priv : Bool) (kind : Access) :
    m.permits sBit rBit priv kind =
      (if priv then (permissions m.apx m.ap sBit rBit).1 else (permissions m.apx m.ap sBit rBit).2).allows kind := by
  have h : ∀ (x : Bool) (ap : BitVec 2) (sBit rBit priv : Bool) (kind : Access),
      Mapping.permits ⟨false, 0, false, 0, x, ap, false, none⟩ sBit rBit priv kind =
        (if priv then (permissions x ap sBit rBit).1 else (permissions x ap sBit rBit).2).allows kind := by
    intro x ap sBit rBit priv kind
    revert x ap sBit rBit priv
    cases kind <;> decide
  exact h m.apx m.ap sBit rBit priv kind

/-- The attributes of an entry are those its bits select. -/
theorem Cp15.entryAttrs_eq (s : State) (ns : Bool) (e : TlbEntry) :
    s.cp15.entryAttrs ns e = s.descriptorAttrs ns e.tex e.c e.b e.s := by
  have h : ∀ a b c : Bool, (BitVec.ofBool a ++ BitVec.ofBool b ++ BitVec.ofBool c).toNat =
      (if a then 4 else 0) + (if b then 2 else 0) + (if c then 1 else 0) := by decide
  simp only [Cp15.entryAttrs, State.descriptorAttrs, h]

/-- What an entry says of an address. -/
def State.entryMapping (s : State) (r : Request) (e : TlbEntry) : Mapping :=
  { isSection := e.isSection, pa := e.paAt r.mva, ns := r.ns || e.nsa, domain := e.domain, apx := e.apx, ap := e.apAt r.mva
    xn := e.xn, attrs := s.descriptorAttrs r.ns e.tex e.c e.b e.s }

/-- The checks of an entry and its translation are the outcome of its mapping. -/
theorem State.mappingOutcome_entry (s : State) (r : Request) (e : TlbEntry) :
    s.mappingOutcome r (s.entryMapping r e) =
      match s.checkEntry r e with
      | some f => .error f
      | none => .ok (s.entryTranslation r e) := by
  have hd : ∀ d : BitVec 2, (d = 0b00 ∨ d = 0b10) = ((!d.getLsbD 0) = true) := by decide
  have hq : ∀ (d : BitVec 2) (x y : Bool), (d = 0b01 ∧ (x = false ∨ (r.kind = .fetch ∧ y = true))) =
      ((decide (d = 0b01) && (!x || (r.kind == .fetch && y))) = true) := by
    intro d x y
    simp only [Bool.and_eq_true, Bool.or_eq_true, decide_eq_true_eq, Bool.not_eq_true', beq_iff_eq]
  unfold State.mappingOutcome State.checkEntry State.entryTranslation State.entryMapping usesSR
  simp only [Mapping.permits_eq, Cp15.entryAttrs_eq, hd, hq]
  split
  · rfl
  · split
    · rfl
    · split <;> split <;> rfl

/-- With the MMU on a translation answers what the mapping of its entry answers. -/
theorem run_translate_on {s : State} {r : Request} (h : (s.cp15.sctlr r.ns).getLsbD 0 = true) :
    (translate r).run s = match s.findEntry r with
      | (.error f, u) => .ok (.error f) u
      | (.ok e, u) => .ok (s.mappingOutcome r (s.entryMapping r e)) u := by
  show EStateM.Result.ok (s.translate r).1 (s.translate r).2 = _
  unfold State.translate State.translateDeferred
  rw [h]
  rcases s.findEntry r with ⟨f | e, u⟩
  · rfl
  · simp only [State.mappingOutcome_entry, Bool.not_true, Bool.false_eq_true, if_false]
    cases s.checkEntry r e <;> rfl

/-- A walk writes the lockdown region at most, and that only with P set. -/
theorem State.insertEntry_frame (s : State) (e : TlbEntry) :
    (s.cp15.tlbLockdown.getLsbD 0 = false → s.insertEntry e = s) ∧
      ∃ tlb lockdown, s.insertEntry e = { s with cp15 := { s.cp15 with tlb := tlb, tlbLockdown := lockdown } } := by
  refine ⟨fun h => ?_, ?_⟩
  · simp only [State.insertEntry, h, Bool.false_and, Bool.false_eq_true, if_false]
  · simp only [State.insertEntry]
    split
    · exact ⟨_, _, rfl⟩
    · exact ⟨s.cp15.tlb, s.cp15.tlbLockdown, rfl⟩

end Sys2Proof.Machine
end

