-- ==== Sys2Proof/Tests/Slice0.lean ====
section
/-!
SUPPORT. The model's own tests: ill-formed terms that WellFormed refuses, a word of its encoding for every constructor,
states and operands that meet the hypotheses of every statement, and single steps with results from the worked examples
of spec/95_test_vectors.md, of spec/96_derived_vectors.md and of the section files.
-/
namespace Sys2Proof.Tests

open Sys2Proof Sys2Proof.Machine

/- One theorem at a time: each of the many short kernel evaluations below would otherwise hold a thread of its own. -/
set_option Elab.async false

noncomputable section

/-! ### Small states -/

/-- ARM state in Secure Supervisor mode at 0x8000, no mask set. -/
def base : State := { State.reset with cpsr := 0x13, pc := 0x8000 }

/-- A register by its index in State. -/
def setR (s : State) (n : Nat) (v : Word) : State := { s with regs := s.regs.set! n v }

/-- An SPSR by its index in State. -/
def setSpsr (s : State) (n : Nat) (v : Word) : State := { s with spsr := s.spsr.set! n v }

/-- Another CPSR. -/
def psr (s : State) (v : Word) : State := { s with cpsr := v }

/-- Other CP15 registers. -/
def onCp15 (s : State) (f : Cp15 → Cp15) : State := { s with cp15 := f s.cp15 }

/-- Other Secure copies. -/
def onSecure (s : State) (f : Banked → Banked) : State := onCp15 s fun c => { c with s := f c.s }

/-- Another Control Register (Secure copy). -/
def ctl (s : State) (v : Word) : State := onSecure s fun b => { b with sctlr := v }

/-- Another SCR. -/
def scr (s : State) (v : Word) : State := onCp15 s fun c => { c with scr := v }

/-- Other debug registers. -/
def onDebug (s : State) (f : Debug → Debug) : State := { s with dbg := f s.dbg }

/-- A pin at a level. -/
def pin (s : State) (p : PinName) (high : Bool) : State := { s with pins := s.pins.setPin p high }

/-- Inputs to come. -/
def inputs (s : State) (l : List Event) : State := { s with agenda := l }

/-- Little-endian words from an address on. -/
def pokeCells (m : List Host.Cell) (a : Nat) : List Nat → List Host.Cell
  | [] => m
  | w :: ws => pokeCells ((List.range 4).foldl (fun m k => writeCell m (a + k) (byteOf w k)) m) (a + 4) ws

/-- Words in memory. -/
def poke (s : State) (a : Nat) (ws : List Nat) : State := { s with mem := pokeCells s.mem a ws }

/-- The little-endian word at an address. -/
def peek (s : State) (a : Nat) : Word := s.physWord (BitVec.ofNat 32 a)

/-- The MMU on, unaligned accesses allowed, the first megabyte a section of Normal memory of a client domain with full
access, the next one for privileged code only, the third one invalid. -/
def mapped (s : State) : State :=
  poke (onSecure s fun b => { b with sctlr := 0x00C00001, ttbr0 := 0x4000, dacr := 1 }) 0x4000 [0x00000C0E, 0x0010040E]

/-- Debug is permitted, in Halting debug-mode. -/
def halting (s : State) : State := onDebug (pin s .dbgen true) fun d => { d with dscr := 0x4002 }

/-- In Debug state. -/
def stopped (s : State) : State := { halting s with activity := .debug }

/-- The outcome is a next state of which `p` holds. -/
def runs (r : Result) (p : State → Bool) : Bool :=
  match r with
  | .next t => p t
  | .fault _ => false
  | .refused _ => false

/-- The outcome is the refusal `x`. -/
def refuses (r : Result) (x : Refusal) : Bool :=
  match r with
  | .next _ => false
  | .fault _ => false
  | .refused y => y == x

/-- `n` steps, each to a next state. -/
def after : Nat → State → Option State
  | 0, s => some s
  | n + 1, s =>
    match step s with
    | .next t => after n t
    | .fault _ => none
    | .refused _ => none

/-- What `n` steps lead to. -/
def leads (n : Nat) (s : State) (p : State → Bool) : Bool := (after n s).any p

theorem next_of_runs {r : Result} {p : State → Bool} (h : runs r p = true) : ∃ t, r = .next t := by
  cases r with
  | next t => exact ⟨t, rfl⟩
  | fault f => cases h
  | refused x => cases h

/-- The place of a data address, where its translation leaves the state as it is. -/
def placeOf (s : State) (va : Word) (kind : Access) (priv : Bool) : Option Place :=
  match locate va kind priv s with
  | .ok (.ok p) t => if t = s then some p else none
  | .ok (.error _) _ => none
  | .error _ _ => none

theorem at_of {s : State} {va : Word} {kind : Access} {priv : Bool} {p : Place}
    (h : placeOf s va kind priv = some p ∧ s.placeError p kind priv = none) : s.At va kind priv p := by
  obtain ⟨h, he⟩ := h
  refine ⟨?_, he⟩
  unfold placeOf at h
  split at h
  · next q t e =>
    split at h
    · next ht => subst ht; injection h with h; subst h; exact e
    · cases h
  · cases h
  · cases h

/-- The fault of a data address, where its translation leaves the state as it is. -/
def faultOf (s : State) (va : Word) (kind : Access) (priv : Bool) : Option MmuFault :=
  match locate va kind priv s with
  | .ok (.error f) t => if t = s then some f else none
  | .ok (.ok _) _ => none
  | .error _ _ => none

theorem fault_of {s : State} {va : Word} {kind : Access} {priv : Bool} {f : MmuFault}
    (h : faultOf s va kind priv = some f) : locate va kind priv s = .ok (.error f) s := by
  unfold faultOf at h
  split at h
  · next q t e =>
    split at h
    · next ht => subst ht; injection h with h; subst h; exact e
    · cases h
  · cases h
  · cases h

/-- The word a fetch reads, where it leaves the state as it is. -/
def fetched (s : State) : Option Words :=
  match fetchInsn s with
  | .ok (.ok w) t => if t = s then some w else none
  | .ok (.error _) _ => none
  | .error _ _ => none

theorem fetch_of {s : State} {w : Words} (h : fetched s = some w) : fetchInsn s = .ok (.ok w) s := by
  unfold fetched at h
  split at h
  · next q t e =>
    split at h
    · next ht => subst ht; injection h with h; subst h; exact e
    · cases h
  · cases h
  · cases h

/-- The abort of a fetch, where it leaves the state as it is. -/
def fetchFault (s : State) : Option FetchAbort :=
  match fetchInsn s with
  | .ok (.error a) t => if t = s then some a else none
  | .ok (.ok _) _ => none
  | .error _ _ => none

theorem fetchFault_of {s : State} {a : FetchAbort} (h : fetchFault s = some a) : fetchInsn s = .ok (.error a) s := by
  unfold fetchFault at h
  split at h
  · next q t e =>
    split at h
    · next ht => subst ht; injection h with h; subst h; exact e
    · cases h
  · cases h
  · cases h

/-- A translation that leaves the state as it is. -/
def translated (s : State) (r : Request) : Option Translation :=
  match translate r s with
  | .ok (.ok t) u => if u = s then some t else none
  | .ok (.error _) _ => none
  | .error _ _ => none

theorem translate_of {s : State} {r : Request} {t : Translation} (h : translated s r = some t) :
    translate r s = .ok (.ok t) s := by
  unfold translated at h
  split at h
  · next q u e =>
    split at h
    · next ht => subst ht; injection h with h; subst h; exact e
    · cases h
  · cases h
  · cases h

/-- A place of Strongly Ordered memory: the MMU is off. -/
def ram (a : Word) : Place := { pa := a, nsAttr := false, tcm := none, type := .stronglyOrdered, shared := true, domain := 0 }

/-- A place of Normal memory. -/
def normal (a : Word) : Place := { pa := a, nsAttr := false, tcm := none, type := .normal, shared := false, domain := 0 }

/-- Main memory and the TCMs are in canonical form, as a Boolean. -/
def canonical (s : State) : Bool :=
  Memory.wf memoryBytes s.mem && Memory.wf Tcm.itcm0.size s.itcm0 && Memory.wf Tcm.itcm1.size s.itcm1 &&
    Memory.wf Tcm.dtcm0.size s.dtcm0 && Memory.wf Tcm.dtcm1.size s.dtcm1

theorem memoryOk_of {s : State} (h : canonical s = true) : s.MemoryOk := by
  simp only [canonical, Bool.and_eq_true] at h
  exact ⟨h.1.1.1.1, h.1.1.1.2, h.1.1.2, h.1.2, h.2⟩

/-! ### Well-formedness -/

/-- A term whose word belongs to an earlier row of the table is refused, for every check of `Instr.wf`. -/
theorem test_wf_refuses : ([
    .stc2 false false true false 1 5 14 0, .ldc2 false false true false 1 5 14 0,
    .stc .al false false true false 1 5 14 0, .ldc .al false false true false 1 5 14 0,
    .undefined2 0x5D0F000, .undefined5 .al 0 0 0, .undefined5 .al 4 0 0, .undefined6 .al 0 0 0 0, .undefined8 .al 0x10000 1,
    .tUndefined1 0x000, .tUndefined1 0xE00, .hint .al 15 0 0, .hint .al 15 0 1, .msrImm .al false 0 15 0 0,
    .sxtab16 .al 15 1 0 0 2, .sxtab .al 15 1 0 0 2, .sxtah .al 15 1 0 0 2, .uxtab16 .al 15 1 0 0 2, .uxtab .al 15 1 0 0 2,
    .uxtah .al 15 1 0 0 2, .smlad .al 1 15 2 false 3, .smlsd .al 1 15 2 false 3, .smmla .al 1 15 2 false 3,
    .usada8 .al 1 15 2 3, .ldrImm .al false true true 1 2 0, .ldrReg .al false true true 1 2 0 0 3,
    .ldrbImm .al false true true 1 2 0, .ldrbReg .al false true true 1 2 0 0 3, .strImm .al false true true 1 2 0,
    .strReg .al false true true 1 2 0 0 3, .strbImm .al false true true 1 2 0, .strbReg .al false true true 1 2 0 0 3,
    .tAddImm3 0 1 2, .tBCond 14 0, .tBCond 15 0] : List Instr).all (fun i => !i.wf) = true := by
  decide +kernel

/-! ### Decoding

A word of its encoding for every constructor, the should-be fields as they should be; the two CPY rows, whose words
the rows of MOV match first, give the MOV. -/

/-- ARM instructions of rows 0 to 23, each with a word of its encoding. -/
def armWords0 : List (Word × Instr) :=
  [(0xF104011C, .cps 1 false 0x0 true false false 0x1c), (0xF1010200, .setend 0 0x0 true false 0),
    (0xF553FA2D, .pldImm false 3 0xa2d), (0xF7D7F5AB, .pldReg true 7 0xb 1 11), (0xF57FF01F, .clrex 15 15 0 15),
    (0xF9CD0510, .srs true true false 0x10), (0xF8BD0A00, .rfe false true true 13),
    (0xFAB070E3, .blxLabel false 0xb070e3), (0xFC4BEE83, .mcrr2 11 14 14 8 3), (0xFC560FA6, .mrrc2 6 0 15 10 6),
    (0xFC01FCA7, .undefined1 false 0x1fca7), (0xFDA65E53, .stc2 true true false true 6 5 14 0x53),
    (0xFC3EDE34, .ldc2 false false false true 14 13 14 0x34), (0xFE0B3EED, .cdp2 0 11 3 14 7 13),
    (0xFE4D5F91, .mcr2 2 13 5 15 4 1), (0xFE5D9E3F, .mrc2 2 13 9 14 1 15), (0xF76DA03A, .undefined2 0x76da03a),
    (0xE0070A94, .mul .al false 7 0 10 4), (0xE02BD593, .mla .al false 11 13 5 3),
    (0xE041D092, .umaal .al 1 13 0 2), (0xE053C595, .undefined3 .al 0x3c5 5),
    (0xE06CD994, .undefined4 .al false 0xcd9 4), (0xE08EC29D, .umull .al false 14 12 2 13),
    (0xE0ABC99E, .umlal .al false 11 12 9 14)]

theorem test_decode_armWords0 : (armWords0.all fun x =>
    decide (decode (.arm x.1) = .instr x.2 ∧ encode x.2 = .arm x.1 ∧ x.2.wf = true)) = true := by
  decide +kernel

/-- ARM instructions of rows 24 to 47, each with a word of its encoding. -/
def armWords1 : List (Word × Instr) :=
  [(0xE0CBA190, .smull .al false 11 10 1 0), (0xE0F3AE98, .smlal .al true 3 10 14 8),
    (0xE109B091, .swp .al 9 11 0 1), (0xE1412095, .swpb .al 1 2 0 5), (0xE1207692, .undefined5 .al 2 0x76 2),
    (0xE18DAF93, .strex .al 13 10 15 3), (0xE1932F9F, .ldrex .al 3 2 15 15), (0xE1A23F96, .strexd .al 2 3 15 6),
    (0xE1B5AF9F, .ldrexd .al 5 10 15 15), (0xE1C09F97, .strexb .al 0 9 15 7),
    (0xE1D60F9F, .ldrexb .al 6 0 15 15), (0xE1EEAF93, .strexh .al 14 10 15 3),
    (0xE1FE2F9F, .ldrexh .al 14 2 15 15), (0xE1C2D7BE, .strhImm .al true true false 2 13 7 14),
    (0xE08010B6, .strhReg .al false true false 0 1 0 6), (0xE0F06EB0, .ldrhImm .al false true true 0 6 14 0),
    (0x401D20B9, .ldrhReg .mi false false false 13 2 0 9), (0xE0EB68D2, .ldrdImm .al false true true 11 6 8 2),
    (0x010860DC, .ldrdReg .eq true false false 8 6 0 12), (0xE1DE4EDD, .ldrsbImm .al true true false 14 4 14 13),
    (0xE036C0D8, .ldrsbReg .al false false true 6 12 0 8), (0xE0E56CF7, .strdImm .al false true true 5 6 12 7),
    (0xE0AE70F0, .strdReg .al false true true 14 7 0 0), (0xE1D62AF5, .ldrshImm .al true true false 6 2 10 5)]

theorem test_decode_armWords1 : (armWords1.all fun x =>
    decide (decode (.arm x.1) = .instr x.2 ∧ encode x.2 = .arm x.1 ∧ x.2.wf = true)) = true := by
  decide +kernel

/-- ARM instructions of rows 48 to 71, each with a word of its encoding. -/
def armWords2 : List (Word × Instr) :=
  [(0xE1BC80F9, .ldrshReg .al true true true 12 8 0 9), (0xE10F6000, .mrs .al false 15 6 0 0),
    (0x7165F00A, .msrReg .vc true 5 15 0 10), (0xE12FFF12, .bx .al 15 15 15 2), (0xE16F3F11, .clz .al 15 3 15 1),
    (0x412FFF24, .bxj .mi 15 15 15 4), (0xE12FFF3C, .blxReg .al 15 15 15 12), (0xE10BD057, .qadd .al 11 13 0 7),
    (0xE124B059, .qsub .al 4 11 0 9), (0x114C305A, .qdadd .ne 12 3 0 10), (0xD16E6052, .qdsub .le 14 6 0 2),
    (0xE125417A, .bkpt .al 0x541 10), (0x816D2D7C, .smc .hi 0xd2d 12),
    (0xE10682CB, .smlaxy .al 6 8 2 true false 11), (0xE1280285, .smlawy .al 8 0 2 false 5),
    (0xE12709A8, .smulwy .al 7 0 9 false 8), (0xE14E2AC5, .smlalxy .al 14 2 10 true false 5),
    (0xE1620BE4, .smulxy .al 2 0 11 true true 4), (0xE141D730, .undefined6 .al 2 0x1d7 3 0),
    (0xE320F000, .nop .al 15 0), (0xE320F001, .yield .al 15 0), (0xE320F035, .hint .al 15 0 0x35),
    (0xE36BF3AB, .msrImm .al true 11 15 3 0xab), (0xE30A7E08, .undefined7 .al false 0xa7e08)]

theorem test_decode_armWords2 : (armWords2.all fun x =>
    decide (decode (.arm x.1) = .instr x.2 ∧ encode x.2 = .arm x.1 ∧ x.2.wf = true)) = true := by
  decide +kernel

/-- ARM instructions of rows 72 to 95, each with a word of its encoding. -/
def armWords3 : List (Word × Instr) :=
  [(0xE2040A36, .andImm .al false 4 0 10 0x36), (0xE013E4E8, .andRegImm .al true 3 14 0x9 3 8),
    (0xE00CA613, .andRegReg .al false 12 10 6 0 3), (0xE2205C6A, .eorImm .al false 0 5 12 0x6a),
    (0x802A7301, .eorRegImm .hi false 10 7 0x6 0 1), (0xE03ED77A, .eorRegReg .al true 14 13 7 3 10),
    (0xE244CC1D, .subImm .al false 4 12 12 0x1d), (0xE05D1567, .subRegImm .al true 13 1 0xa 3 7),
    (0xA04D8470, .subRegReg .ge false 13 8 4 3 0), (0xE27EBE6D, .rsbImm .al true 14 11 14 0x6d),
    (0xE06233E4, .rsbRegImm .al false 2 3 0x7 3 4), (0x207D4E75, .rsbRegReg .cs true 13 4 14 3 5),
    (0xE28254C8, .addImm .al false 2 5 4 0xc8), (0xE0930AEC, .addRegImm .al true 3 0 0x15 3 12),
    (0x4097E532, .addRegReg .mi true 7 14 5 1 2), (0xE2AC71C8, .adcImm .al false 12 7 1 0xc8),
    (0x30A1D2C3, .adcRegImm .cc false 1 13 0x5 2 3), (0x30AD9176, .adcRegReg .cc false 13 9 1 3 6),
    (0xC2C4DEE3, .sbcImm .gt false 4 13 14 0xe3), (0xE0D3B300, .sbcRegImm .al true 3 11 0x6 0 0),
    (0xE0D26E7A, .sbcRegReg .al true 2 6 14 3 10), (0xE2F267ED, .rscImm .al true 2 6 7 0xed),
    (0xE0EA5121, .rscRegImm .al false 10 5 0x2 1 1), (0x80E23C76, .rscRegReg .hi false 2 3 12 3 6)]

theorem test_decode_armWords3 : (armWords3.all fun x =>
    decide (decode (.arm x.1) = .instr x.2 ∧ encode x.2 = .arm x.1 ∧ x.2.wf = true)) = true := by
  decide +kernel

/-- ARM instructions of rows 96 to 119, each with a word of its encoding. -/
def armWords4 : List (Word × Instr) :=
  [(0xE31B050B, .tstImm .al 11 0 5 0xb), (0xE1120EE4, .tstRegImm .al 2 0 0x1d 3 4),
    (0xE11A067C, .tstRegReg .al 10 0 6 3 12), (0x533E0175, .teqImm .pl 14 0 1 0x75),
    (0xE1340F09, .teqRegImm .al 4 0 0x1e 0 9), (0xE1330731, .teqRegReg .al 3 0 7 1 1),
    (0xE3580445, .cmpImm .al 8 0 4 0x45), (0xE15C0208, .cmpRegImm .al 12 0 0x4 0 8),
    (0x81590A1C, .cmpRegReg .hi 9 0 10 0 12), (0xE3720466, .cmnImm .al 2 0 4 0x66),
    (0xE17C052D, .cmnRegImm .al 12 0 0xa 1 13), (0xA175023C, .cmnRegReg .ge 5 0 2 1 12),
    (0xE38B006A, .orrImm .al false 11 0 0 0x6a), (0x91831D6D, .orrRegImm .ls false 3 1 0x1a 3 13),
    (0xE18B837D, .orrRegReg .al false 11 8 3 3 13), (0xE3B07302, .movImm .al true 0 7 3 0x2),
    (0xE1B06C60, .movRegImm .al true 0 6 0x18 3 0), (0xE1B0DC35, .movRegReg .al true 0 13 12 1 5),
    (0xE1A03007, .movRegImm .al false 0 3 0 0 7), (0xE3CD1D29, .bicImm .al false 13 1 13 0x29),
    (0xE1D9EC43, .bicRegImm .al true 9 14 0x18 2 3), (0xE1D41953, .bicRegReg .al true 4 1 9 2 3),
    (0xE3F0E30C, .mvnImm .al true 0 14 3 0xc), (0x01E0574D, .mvnRegImm .eq false 0 5 0xe 2 13)]

theorem test_decode_armWords4 : (armWords4.all fun x =>
    decide (decode (.arm x.1) = .instr x.2 ∧ encode x.2 = .arm x.1 ∧ x.2.wf = true)) = true := by
  decide +kernel

/-- ARM instructions of rows 120 to 143, each with a word of its encoding. -/
def armWords5 : List (Word × Instr) :=
  [(0xE1F03814, .mvnRegReg .al true 0 3 8 0 4), (0xE612CF1B, .sadd16 .al 2 12 15 11),
    (0xE62E2F1C, .qadd16 .al 14 2 15 12), (0xE638EF15, .shadd16 .al 8 14 15 5),
    (0xE650AF16, .uadd16 .al 0 10 15 6), (0xE6662F1D, .uqadd16 .al 6 2 15 13),
    (0xE679DF11, .uhadd16 .al 9 13 15 1), (0xE61E4F3B, .saddsubx .al 14 4 15 11),
    (0xE6265F30, .qaddsubx .al 6 5 15 0), (0x063D1F37, .shaddsubx .eq 13 1 15 7),
    (0xC65DCF36, .uaddsubx .gt 13 12 15 6), (0xE669DF30, .uqaddsubx .al 9 13 15 0),
    (0xE6710F3C, .uhaddsubx .al 1 0 15 12), (0xE611DF5A, .ssubaddx .al 1 13 15 10),
    (0xD62E7F51, .qsubaddx .le 14 7 15 1), (0xE632CF57, .shsubaddx .al 2 12 15 7),
    (0xE6593F50, .usubaddx .al 9 3 15 0), (0xE664BF57, .uqsubaddx .al 4 11 15 7),
    (0xE67E9F5D, .uhsubaddx .al 14 9 15 13), (0xE6104F75, .ssub16 .al 0 4 15 5),
    (0x56272F78, .qsub16 .pl 7 2 15 8), (0x9634EF73, .shsub16 .ls 4 14 15 3),
    (0xE65BAF76, .usub16 .al 11 10 15 6), (0xE6667F74, .uqsub16 .al 6 7 15 4)]

theorem test_decode_armWords5 : (armWords5.all fun x =>
    decide (decode (.arm x.1) = .instr x.2 ∧ encode x.2 = .arm x.1 ∧ x.2.wf = true)) = true := by
  decide +kernel

/-- ARM instructions of rows 144 to 167, each with a word of its encoding. -/
def armWords6 : List (Word × Instr) :=
  [(0xE6772F79, .uhsub16 .al 7 2 15 9), (0xE6197F93, .sadd8 .al 9 7 15 3), (0x062E6F95, .qadd8 .eq 14 6 15 5),
    (0x8636BF9C, .shadd8 .hi 6 11 15 12), (0xE65BEF9C, .uadd8 .al 11 14 15 12),
    (0xE661CF96, .uqadd8 .al 1 12 15 6), (0xE67C7F90, .uhadd8 .al 12 7 15 0), (0xE6179FFC, .ssub8 .al 7 9 15 12),
    (0xE6210FFA, .qsub8 .al 1 0 15 10), (0x863A3FFD, .shsub8 .hi 10 3 15 13), (0xE65B1FF0, .usub8 .al 11 1 15 0),
    (0xE669DFFB, .uqsub8 .al 9 13 15 11), (0xE67EAFF6, .uhsub8 .al 14 10 15 6), (0xE68C3FB6, .sel .al 12 3 15 6),
    (0xE6BF1F30, .rev .al 15 1 15 0), (0xE6BF0FBA, .rev16 .al 15 0 15 10), (0xE6FF2FB5, .revsh .al 15 2 15 5),
    (0xE6AEEF30, .ssat16 .al 14 14 15 0), (0x16E70F35, .usat16 .ne 7 0 15 5), (0xE68F587A, .sxtb16 .al 5 2 0 10),
    (0xE684A076, .sxtab16 .al 4 10 0 0 6), (0xE6AF8471, .sxtb .al 8 1 0 1), (0xE6A24C77, .sxtab .al 2 4 3 0 7),
    (0x56BFE879, .sxth .pl 14 2 0 9)]

theorem test_decode_armWords6 : (armWords6.all fun x =>
    decide (decode (.arm x.1) = .instr x.2 ∧ encode x.2 = .arm x.1 ∧ x.2.wf = true)) = true := by
  decide +kernel

/-- ARM instructions of rows 168 to 191, each with a word of its encoding. -/
def armWords7 : List (Word × Instr) :=
  [(0x66B7A471, .sxtah .vs 7 10 1 0 1), (0x66CFD87E, .uxtb16 .vs 13 2 0 14),
    (0xE6C35472, .uxtab16 .al 3 5 1 0 2), (0x26EF7C75, .uxtb .cs 7 3 0 5), (0xE6E65078, .uxtab .al 6 5 0 0 8),
    (0x76FF007C, .uxth .vc 0 0 0 12), (0xE6FBE475, .uxtah .al 11 14 1 0 5),
    (0xE68BCF1E, .pkhbt .al 11 12 0x1e 14), (0xE685DD57, .pkhtb .al 5 13 0x1a 7),
    (0xE6AB26D9, .ssat .al 0xb 2 0xd true 9), (0x26F0999A, .usat .cs 0x10 9 0x13 false 10),
    (0xB705F01A, .smuad .lt 5 0 false 10), (0x17068C34, .smlad .ne 6 8 12 true 4),
    (0xE705FB7A, .smusd .al 5 11 true 10), (0xE7041079, .smlsd .al 4 1 0 true 9),
    (0xE7415012, .smlald .al 1 5 0 false 2), (0x674B485D, .smlsld .vs 11 4 8 false 13),
    (0xA75AFD37, .smmul .ge 10 13 true 7), (0xE752861D, .smmla .al 2 8 6 false 13),
    (0xE75359FE, .smmls .al 3 5 9 true 14), (0x278AFC10, .usad8 .cs 10 12 0), (0x87854018, .usada8 .hi 5 4 0 8),
    (0xE78FE9FB, .undefined8 .al 0xc7f4f 11), (0xE436E00A, .ldrtImm .al false 6 14 0xa)]

theorem test_decode_armWords7 : (armWords7.all fun x =>
    decide (decode (.arm x.1) = .instr x.2 ∧ encode x.2 = .arm x.1 ∧ x.2.wf = true)) = true := by
  decide +kernel

/-- ARM instructions of rows 192 to 215, each with a word of its encoding. -/
def armWords8 : List (Word × Instr) :=
  [(0xE636C427, .ldrtReg .al false 6 12 0x8 1 7), (0xE4F84C63, .ldrbtImm .al true 8 4 0xc63),
    (0x96FA6A62, .ldrbtReg .ls true 10 6 0x14 3 2), (0xE4AE0823, .strtImm .al true 14 0 0x823),
    (0x362B41C5, .strtReg .cc false 11 4 0x3 2 5), (0xE4638A80, .strbtImm .al false 3 8 0xa80),
    (0xD6E421E6, .strbtReg .le true 4 2 0x3 3 6), (0xE5926D33, .ldrImm .al true true false 2 6 0xd33),
    (0x361D8327, .ldrReg .cc false false false 13 8 0x6 1 7),
    (0xE5FA53B8, .ldrbImm .al true true true 10 5 0x3b8),
    (0xE7F45CAA, .ldrbReg .al true true true 4 5 0x19 1 10), (0xE58416FF, .strImm .al true true false 4 1 0x6ff),
    (0xE609DCE5, .strReg .al false false false 9 13 0x19 3 5),
    (0xE5E0919A, .strbImm .al true true true 0 9 0x19a), (0xE7E20EC5, .strbReg .al true true true 2 0 0x1d 2 5),
    (0xE8F797C4, .ldm3 .al false true true 7 0x17c4), (0xE8D3131C, .ldm2 .al false true false 3 0x131c),
    (0xB93775E7, .ldm1 .lt true false true 7 0x75e7), (0xE94BC2FD, .stm2 .al true false false 11 0xc2fd),
    (0xE9AECDC8, .stm1 .al true true true 14 0xcdc8), (0x1A39491E, .b .ne 0x39491e),
    (0xEB59E04A, .bl .al 0x59e04a), (0x6C414EAA, .mcrr .vs 1 4 14 10 10), (0xEC571E83, .mrrc .al 7 1 14 8 3)]

theorem test_decode_armWords8 : (armWords8.all fun x =>
    decide (decode (.arm x.1) = .instr x.2 ∧ encode x.2 = .arm x.1 ∧ x.2.wf = true)) = true := by
  decide +kernel

/-- ARM instructions of rows 216 to 222, each with a word of its encoding. -/
def armWords9 : List (Word × Instr) :=
  [(0x8C02933F, .undefined9 .hi false 0x2933f), (0x4C23CEB4, .stc .mi false false false true 3 12 14 0xb4),
    (0xED598FC1, .ldc .al true false true false 9 8 15 0xc1), (0xEE321E6E, .cdp .al 3 2 1 14 3 14),
    (0xEE2DDFFC, .mcr .al 1 13 13 15 7 12), (0x3EFC4EBB, .mrc .cc 7 12 4 14 5 11),
    (0xEFE4A9F6, .svc .al 0xe4a9f6)]

theorem test_decode_armWords9 : (armWords9.all fun x =>
    decide (decode (.arm x.1) = .instr x.2 ∧ encode x.2 = .arm x.1 ∧ x.2.wf = true)) = true := by
  decide +kernel

/-- Thumb instructions of rows 0 to 23, each with a word of its encoding. -/
def thumbWords0 : List (Half × Instr) :=
  [(0x0514, .tLslImm 0x14 2 4), (0x0E0C, .tLsrImm 0x18 1 4), (0x10DF, .tAsrImm 0x3 3 7),
    (0x18A5, .tAddReg 2 4 5), (0x1BF1, .tSubReg 7 6 1), (0x1C13, .tMovLow 2 3), (0x1CF1, .tAddImm3 3 6 1),
    (0x1E45, .tSubImm3 1 0 5), (0x2549, .tMovImm 5 0x49), (0x29AC, .tCmpImm 1 0xac), (0x30AE, .tAddImm8 0 0xae),
    (0x3C3B, .tSubImm8 4 0x3b), (0x401F, .tAnd 3 7), (0x4047, .tEor 0 7), (0x4087, .tLslReg 0 7),
    (0x40CD, .tLsrReg 1 5), (0x411A, .tAsrReg 3 2), (0x414F, .tAdc 1 7), (0x41A7, .tSbc 4 7),
    (0x41D8, .tRor 3 0), (0x4229, .tTst 5 1), (0x4275, .tNeg 6 5), (0x42A2, .tCmpLow 4 2), (0x42E6, .tCmn 4 6)]

theorem test_decode_thumbWords0 : (thumbWords0.all fun x =>
    decide (decode (.thumb x.1) = .instr x.2 ∧ encode x.2 = .thumb x.1 ∧ x.2.wf = true)) = true := by
  decide +kernel

/-- Thumb instructions of rows 24 to 47, each with a word of its encoding. -/
def thumbWords1 : List (Half × Instr) :=
  [(0x4321, .tOrr 4 1), (0x435E, .tMul 3 6), (0x4397, .tBic 2 7), (0x43FB, .tMvn 7 3),
    (0x44CA, .tAddHigh true true 1 2), (0x455A, .tCmpHigh false true 3 2), (0x46BA, .tMovHigh true false 7 2),
    (0x4641, .tMovHigh false true 0 1), (0x4708, .tBx false 1 0), (0x47D8, .tBlxReg true 3 0),
    (0x4DE1, .tLdrPc 5 0xe1), (0x50F1, .tStrReg 3 6 1), (0x5232, .tStrhReg 0 6 2), (0x558F, .tStrbReg 6 1 7),
    (0x5781, .tLdrsb 6 0 1), (0x58D4, .tLdrReg 3 2 4), (0x5B18, .tLdrhReg 4 3 0), (0x5D97, .tLdrbReg 6 2 7),
    (0x5FA9, .tLdrsh 6 5 1), (0x6408, .tStrImm 0x10 1 0), (0x6A69, .tLdrImm 0x9 5 1),
    (0x74CE, .tStrbImm 0x13 1 6), (0x7B3A, .tLdrbImm 0xc 7 2), (0x858F, .tStrhImm 0x16 1 7)]

theorem test_decode_thumbWords1 : (thumbWords1.all fun x =>
    decide (decode (.thumb x.1) = .instr x.2 ∧ encode x.2 = .thumb x.1 ∧ x.2.wf = true)) = true := by
  decide +kernel

/-- Thumb instructions of rows 48 to 71, each with a word of its encoding. -/
def thumbWords2 : List (Half × Instr) :=
  [(0x8C6E, .tLdrhImm 0x11 5 6), (0x96C6, .tStrSp 6 0xc6), (0x99FB, .tLdrSp 1 0xfb), (0xA1DE, .tAddPc 1 0xde),
    (0xAD74, .tAddSp 5 0x74), (0xB041, .tAddSpImm 0x41), (0xB097, .tSubSpImm 0x17), (0xB20E, .tSxth 1 6),
    (0xB24C, .tSxtb 1 4), (0xB29F, .tUxth 3 7), (0xB2CE, .tUxtb 1 6), (0xB4B1, .tPush false 0xb1),
    (0xB650, .tSetend false 0), (0xB674, .tCps true false true false false), (0xBA0F, .tRev 1 7),
    (0xBA46, .tRev16 0 6), (0xBAE7, .tRevsh 4 7), (0xBDCC, .tPop true 0xcc), (0xBECA, .tBkpt 0xca),
    (0xBF80, .tUndefined1 0xf80), (0xC576, .tStmia 5 0x76), (0xCE72, .tLdmia 6 0x72),
    (0xDE49, .tUndefined2 0x49), (0xDF8F, .tSvc 0x8f)]

theorem test_decode_thumbWords2 : (thumbWords2.all fun x =>
    decide (decode (.thumb x.1) = .instr x.2 ∧ encode x.2 = .thumb x.1 ∧ x.2.wf = true)) = true := by
  decide +kernel

/-- Thumb instructions of rows 72 to 77, each with a word of its encoding. -/
def thumbWords3 : List (Half × Instr) :=
  [(0xD22E, .tBCond 2 0x2e), (0xE337, .tB 0x337), (0xEF0C, .tBlxSecond 0x386), (0xECAF, .tUndefined3 0x257),
    (0xF481, .tBlFirst 0x481), (0xF9A7, .tBlSecond 0x1a7)]

theorem test_decode_thumbWords3 : (thumbWords3.all fun x =>
    decide (decode (.thumb x.1) = .instr x.2 ∧ encode x.2 = .thumb x.1 ∧ x.2.wf = true)) = true := by
  decide +kernel

/-! ### What the statements assume

For every statement with hypotheses a state and operands that meet all of them together, each clause apart, at boundary
values; where the conclusion can be computed, it is. -/

theorem witness_DecodingAnEncodedInstructionGivesIt :
    (Instr.ldrImm .al true true true 15 15 0xFFF).wf = true ∧ (Instr.tBCond 13 0xFF).wf = true ∧ (Instr.cpy .eq 0 15).wf = true ∧
      decode (encode (.cpy .eq 0 15)) = .instr (.movRegImm .eq false 0 0 0 0 15) := by
  decide +kernel

theorem witness_EncodingADecodedWordGivesIt :
    decode (.arm 0) = .instr (.andRegImm .eq false 0 0 0 0 0) ∧ decode (.arm 0xFFFFFFFF) = .instr (.undefined2 0xFFFFFFF) ∧
      decode (.thumb 0) = .instr (.tLslImm 0 0 0) ∧ decode (.thumb 0xFFFF) = .instr (.tBlSecond 0x7FF) := by
  decide +kernel

/-- A store to the last word of memory. -/
def storing : State := poke (setR base 1 0xFFFFFFFC) 0x8000 [0xE5810000]

theorem witness_EveryStepKeepsMemoryCanonical :
    (setR storing 0 0x80000001).MemoryOk ∧ ∃ t, step (setR storing 0 0x80000001) = .next t :=
  ⟨memoryOk_of (by decide +kernel), next_of_runs (p := fun t => t.mem.length == 4) (by decide +kernel)⟩

theorem witness_EveryStepKeepsTheStatusLegal :
    State.reset.ModeOk ∧ State.reset.CpsrReservedOk ∧ ∃ t, step State.reset = .next t :=
  ⟨by unfold State.ModeOk; decide +kernel, by unfold State.CpsrReservedOk; decide +kernel,
    next_of_runs (p := fun t => t.pc == 4) (by decide +kernel)⟩

theorem witness_EveryStepKeepsThePcAligned :
    (∀ s ∈ [State.reset, psr base 0x33, { base with pc := 0x8001, activity := .debug }], s.PcOk) ∧
      ∃ t, step (psr base 0x33) = .next t := by
  refine ⟨?_, next_of_runs (p := fun t => t.pc == 0x8002) (by decide +kernel)⟩
  intro s hs
  simp only [List.mem_cons, List.not_mem_nil, or_false] at hs
  rcases hs with rfl | rfl | rfl
  · intro _; show _ = _; decide +kernel
  · intro _; show _ = _; decide +kernel
  · intro h; cases h

/-- Held in reset, about to be released. -/
def held (k : ResetKind) (vinithi : Bool) : State :=
  inputs { pin (poke base 0x8000 [0xE0912003]) .vinithi vinithi with activity := .heldInReset k } [.releaseReset]

theorem witness_ReleasingResetBeginsAtTheResetVector :
    ∀ (k : ResetKind) (v : Bool), (held k v).agenda = .releaseReset :: [] ∧ (held k v).activity = .heldInReset k ∧
      runs (step (held k v)) (fun t => t.pc == (if v then 0xFFFF0000 else 0) && t.cpsr == 0x1D3 && t.mem.length == 4) = true := by
  intro k v
  refine ⟨rfl, rfl, ?_⟩
  cases k <;> cases v <;> decide +kernel

/-- ADDS R2, R1, R3 at 0x8000. -/
def adding : State := poke (setR (setR base 1 0xFFFFFFFF) 3 1) 0x8000 [0xE0912003]

theorem base_between : base.Between := ⟨rfl, rfl, by decide, rfl, rfl, .inl rfl⟩

theorem adding_between : adding.Between := ⟨rfl, rfl, by decide, rfl, rfl, .inl rfl⟩

theorem witness_StepRunsTheDecodedInstruction :
    adding.Between ∧ adding.NoInterrupt ∧ fetchInsn adding = .ok (.ok (.arm 0xE0912003)) adding ∧ adding.NoEvent ∧
      adding.bitJ = false ∧ decode (.arm 0xE0912003) = .instr (.addRegImm .al true 1 2 0 0 3) ∧
      runs (step adding) (fun t => t.reg 2 == 0 && t.cpsr == 0x60000013 && t.pc == 0x8004) = true :=
  ⟨adding_between, .inr ⟨.inl rfl, .inl rfl⟩, fetch_of (by decide +kernel), ⟨.inr rfl, by decide +kernel⟩, by decide +kernel⟩

/-- The translation with the MMU off. -/
def flat (a : Word) : Translation :=
  { pa := a, nsAttr := false, attrs := some { type := .stronglyOrdered, shared := true, inner := 0, outer := 0 }, domain := 0 }

theorem witness_FetchReadsTheInstructionAtThePc :
    ∀ s ∈ [adding, psr adding 0x33, psr (onCp15 adding fun c => { c with sctlrCommon := 0x80 }) 0x33],
      translate { mva := s.cp15.mva s.nonSecure s.pc, kind := .fetch, priv := s.privileged, ns := s.nonSecure } s =
        .ok (.ok (flat 0x8000)) s ∧
      (flat 0x8000).attrs.isSome = true ∧
      s.busError (Access.fetch.onBus (flat 0x8000).pa (flat 0x8000).nsAttr s.privileged) = none ∧
      (fetched s).any (fun w => [Words.arm 0xE0912003, .thumb 0x2003, .thumb 0xE091].contains w) = true := by
  intro s hs
  simp only [List.mem_cons, List.not_mem_nil, or_false] at hs
  rcases hs with rfl | rfl | rfl <;>
    exact ⟨translate_of (by decide +kernel), rfl, by decide +kernel⟩

/-- The PC in the third megabyte, which is not mapped. -/
def unmapped : State := { mapped base with pc := 0x200000 }

theorem witness_StepTakesThePrefetchAbort :
    unmapped.Between ∧ unmapped.NoInterrupt ∧
      fetchInsn unmapped = .ok (.error { status := 0b00101, external := false, slverr := false }) unmapped ∧
      unmapped.inDebug = false ∧
      runs (step unmapped) (fun t => t.pc == 0x0C && t.regs[27] == 0x200004 && t.cp15.s.ifsr == 5 &&
        t.cp15.s.ifar == 0x200000) = true :=
  ⟨⟨rfl, rfl, by decide, rfl, rfl, .inl rfl⟩, .inr ⟨.inl rfl, .inl rfl⟩, fetchFault_of (by decide +kernel), rfl,
    by decide +kernel⟩

/-- An IRQ is asserted; with `vic` the VIC port is in use and IRQADDRV is at a level. -/
def interrupted (vic valid : Bool) : State :=
  pin (pin (ctl base (if vic then 0x01000000 else 0)) .nIRQ false) .irqAddrV valid

theorem interrupted_between (vic valid : Bool) : (interrupted vic valid).Between :=
  ⟨rfl, rfl, by cases vic <;> cases valid <;> decide, rfl, rfl, .inl rfl⟩

theorem witness_StepTakesAsynchronousExceptions :
    (pin base .nFIQ false).Between ∧
    ((pin base .nFIQ false).dbg.dscr.getLsbD 11 = false ∧ (pin base .nFIQ false).bitF = false ∧
      runs (step (pin base .nFIQ false)) (fun t => t.pc == 0x1C && t.cpsr == 0x1D1) = true) ∧
    (∀ vic valid, (interrupted vic valid).Between ∧ (interrupted vic valid).pins.nFIQ = true ∧
      (interrupted vic valid).pins.nIRQ = false ∧ (interrupted vic valid).bitI = false ∧
      (interrupted vic valid).usesVic = vic ∧ (interrupted vic valid).pins.irqAddrV = valid ∧
      runs (step (interrupted vic valid)) (fun t => if vic && !valid then t.irqAck else t.mode == .irq) = true) ∧
    (let s := { adding with pendingAbort := some { slverr := true, write := true, ns := false } }
     s.Between ∧ s.NoInterrupt ∧ fetchInsn s = .ok (.ok (.arm 0xE0912003)) s ∧ s.bitA = false ∧
      runs (step s) (fun t => t.pc == 0x10 && t.regs[27] == 0x8008 && t.cp15.s.dfsr == 0x1C06) = true) := by
  refine ⟨⟨rfl, rfl, by decide, rfl, rfl, .inl rfl⟩, by decide +kernel, ?_,
    ⟨rfl, rfl, by decide, rfl, rfl, .inl rfl⟩, .inr ⟨.inl rfl, .inl rfl⟩, fetch_of (by decide +kernel), by decide +kernel⟩
  intro vic valid
  refine ⟨interrupted_between vic valid, ?_⟩
  cases vic <;> cases valid <;> decide +kernel

theorem witness_TakingAnExceptionSavesAndVectors :
    ((Exn.smc = .smc → true = true) ∧ (Exn.irq = .smc → false = true)) ∧
      ((psr base 0x60000010).takeException .undef 0x8004 false).cpsr = 0x6000009B ∧
      ((psr base 0x60000010).takeException .undef 0x8004 false).pc = 0x04 := by
  refine ⟨⟨fun _ => rfl, fun h => by cases h⟩, ?_⟩
  decide +kernel

theorem witness_CallsAndBreakpointsTakeTheirException :
    base.inDebug = false ∧ base.condPassed .al = true ∧ base.privileged = true ∧ (psr base 0x10).privileged = false ∧
      base.debugPermitted = false ∧ (onDebug (pin base .dbgen true) fun d => { d with dscr := 2 }).dbgMode = .none ∧
      runs (exec (.svc .al 0) base) (fun t => t.pc == 0x08 && t.regs[25] == 0x8004) = true ∧
      runs (exec (.smc .al 0 0) base) (fun t => t.pc == 0x08 && t.regs[31] == 0x8004 && t.cpsr == 0x1D6) = true ∧
      runs (exec (.smc .al 0 0) (psr base 0x10)) (fun t => t.pc == 0x04) = true ∧
      runs (exec (.tBkpt 0xFF) (psr base 0x33)) (fun t => t.pc == 0x0C && t.cp15.s.ifsr == 2) = true := by
  decide +kernel

theorem witness_UndefinedWordsTakeTheUndefinedException :
    base.inDebug = false ∧ base.condPassed .al = true ∧ (13 : BitVec 4) ≠ 14 ∧ (13 : BitVec 4) ≠ 15 ∧ (15 : BitVec 4) ≠ 14 ∧
      runs (exec (.cdp .al 0 0 0 13 0 0) base) (fun t => t.pc == 0x04 && t.cpsr == 0x9B && t.regs[29] == 0x8004) = true := by
  decide +kernel

theorem witness_AFailedConditionOnlyMovesThePc :
    (Instr.ldrImm .ne true true false 0 15 0).condition = some .ne ∧ (psr base 0x40000013).condPassed .ne = false ∧
      (psr base 0x40000013).inDebug = false ∧ (Instr.tBCond 0 0x80).condition = some .eq ∧ base.condPassed .eq = false := by
  decide +kernel

theorem witness_OnlyStoresWriteMemory :
    (Instr.swp .al 0 1 0 2).stores = true ∧ (Instr.ldrImm .al true true false 1 0 0).stores = false ∧
      ∃ t, exec (.ldrImm .al true true false 1 0 0) base = .next t :=
  ⟨by decide +kernel, by decide +kernel, next_of_runs (p := fun t => t.mem.isEmpty) (by decide +kernel)⟩

theorem witness_OnlyDestinationsAreWritten :
    runs (exec (.umull .al false 2 1 3 4) base) (fun t => t.mode == base.mode) = true ∧ (0 : BitVec 4) ≠ 14 ∧
      (13 : BitVec 4) ≠ 15 ∧ (0 : BitVec 4) ∉ (Instr.umull .al false 2 1 3 4).destinations ∧
      (13 : BitVec 4) ∉ (Instr.umull .al false 2 1 3 4).destinations := by
  decide +kernel

/-- The Non-secure world. -/
def nonSecure : State := onCp15 (scr base 0x09) fun c => { c with mvbar := 0x4000 }

/-- The platform answers DECERR to a privileged data read of the word at 0 in either world. -/
def refused : BusRegion :=
  { first := 0, last := 3, secure := true, nonSecure := true, privileged := true, user := false, insn := false, data := true
    reads := true, writes := false, answer := .decerr }

theorem witness_NonSecureCodeCannotChangeTheSecureWorld :
    nonSecure.inDebug = false ∧ nonSecure.nonSecure = true ∧
      runs (exec (.smc .al 0 0) nonSecure) (fun t => t.mode == .mon && t.pc == 0x4008 && t.cp15.scr == 9) = true ∧
      runs (exec (.mcr .al 0 1 0 15 0 1) nonSecure) (fun t => t.mode == .und && t.cp15.scr == 9) = true ∧
      runs (exec (.ldrImm .al true true false 1 0 0)
        { nonSecure with regions := [refused] }) (fun t => t.mode == .mon && t.pc == 0x4010) = true := by
  decide +kernel

theorem witness_UserCodeCannotChangeTheSystem :
    (psr base 0x10).inDebug = false ∧ (psr base 0x10).mode = .usr ∧
      runs (exec (.msrImm .al false 15 15 0 0xD3) (psr base 0x10)) (fun t => t.cpsr == 0x10) = true ∧
      runs (exec (.svc .al 0) (psr base 0x10)) (fun t => t.mode == .svc && t.pc == 0x08) = true := by
  decide +kernel

theorem base_passes : base.Passes .al := ⟨rfl, rfl⟩

theorem witness_DataProcessingWritesResultAndFlags :
    base.Passes .al ∧ (14 : BitVec 4) ≠ 15 ∧ (Operand2.imm 15 0xFF).regShiftPc 15 14 = false ∧
      (Operand2.shifted 31 3 15).regShiftPc 15 14 = false ∧ (Operand2.shiftedByReg 14 3 14).regShiftPc 14 14 = false ∧
      runs (exec (.subImm .al true 15 14 0 0xFF) base) (fun t => t.reg 14 == 0x7F09 && t.cpsr == 0x20000013) = true ∧
      runs (exec (.movRegReg .al true 0 1 2 0 3) (setR (setR base 2 32) 3 1)) (fun t => t.reg 1 == 0 && t.cpsr == 0x60000013) =
        true :=
  ⟨base_passes, by decide +kernel⟩

theorem witness_DataProcessingToThePcBranchesOrReturns :
    base.Passes .al ∧ (Operand2.imm 0 4).regShiftPc 14 15 = false ∧ spsrSlot base.mode = some 2 ∧
      spsrSlot (psr base 0x1F).mode = none ∧
      runs (exec (.subImm .al true 14 15 0 4) (setSpsr (setR base 25 0x9004) 2 0x80000010))
        (fun t => t.pc == 0x9000 && t.cpsr == 0x80000010) = true ∧
      runs (exec (.subImm .al false 14 15 0 1) (setR base 25 0x9004)) (fun t => t.pc == 0x9000) = true ∧
      refuses (exec (.subImm .al true 14 15 0 4) (psr base 0x1F)) .spsrAbsent = true :=
  ⟨base_passes, by decide +kernel⟩

theorem witness_ComparisonsOnlySetTheFlags :
    base.Passes .al ∧ (Operand2.shiftedByReg 14 1 14).regShiftPc 14 0 = false ∧ (Operand2.imm 0 0).regShiftPc 15 0 = false ∧
      runs (exec (.cmpImm .al 0 0 0 0) base) (fun t => t.cpsr == 0x60000013 && t.pc == 0x8004) = true :=
  ⟨base_passes, by decide +kernel⟩

theorem witness_ShiftsGiveTheValueAndTheCarryOut :
    0 < 1 ∧ 0 < 255 ∧ shiftC 0b00 0x80000001 32 false = (0, true) ∧ shiftC 0b01 0x80000000 32 false = (0, true) ∧
      shiftC 0b10 0x80000000 33 false = (0xFFFFFFFF, true) ∧ shiftC 0b11 0x80000001 32 false = (0x80000001, true) := by
  decide +kernel

theorem witness_MultipliesWriteTheProduct :
    base.Passes .al ∧ (14 : BitVec 4) ≠ 15 ∧ (0 : BitVec 4) ≠ 15 ∧ (14 : BitVec 4) ≠ 0 ∧
      runs (exec (.smull .al true 14 0 1 2) (setR (setR base 1 0x80000000) 2 0xFFFFFFFF))
        (fun t => t.reg 14 == 0 && t.reg 0 == 0x80000000 && t.cpsr == 0x13) = true ∧
      runs (exec (.umaal .al 4 5 1 1) (setR (setR (setR base 1 0xFFFFFFFF) 4 0xFFFFFFFF) 5 0xFFFFFFFF))
        (fun t => t.reg 4 == 0xFFFFFFFF && t.reg 5 == 0xFFFFFFFF) = true :=
  ⟨base_passes, by decide +kernel⟩

theorem witness_SaturationHoldsTheResultAndSetsQ :
    base.Passes .al ∧ (0 : BitVec 4) ≠ 15 ∧ (14 : BitVec 4) ≠ 15 ∧
      runs (exec (.qdadd .al 2 1 0 3) (setR (setR base 2 0x40000000) 3 0xFFFFFFFF))
        (fun t => t.reg 1 == 0x7FFFFFFE && t.cpsr == 0x08000013) = true ∧
      runs (exec (.usat .al 0 1 0 true 2) (setR base 2 0x80000000)) (fun t => t.reg 1 == 0 && t.cpsr == 0x08000013) = true ∧
      runs (exec (.ssat16 .al 15 1 15 2) (setR base 2 0x80007FFF)) (fun t => t.reg 1 == 0x80007FFF && t.cpsr == 0x13) = true :=
  ⟨base_passes, by decide +kernel⟩

theorem witness_SignedMultipliesNarrowTheExactResult :
    base.Passes .al ∧ (0 : BitVec 4) ≠ 15 ∧ (14 : BitVec 4) ≠ 15 ∧ (0 : BitVec 4) ≠ 14 ∧
      runs (exec (.smuad .al 1 2 false 2) (setR base 2 0x80008000))
        (fun t => t.reg 1 == 0x80000000 && t.cpsr == 0x08000013) = true ∧
      runs (exec (.smlalxy .al 1 0 2 true false 2) (setR base 2 0x80000001))
        (fun t => t.reg 1 == 0xFFFFFFFF && t.reg 0 == 0xFFFF8000) = true ∧
      runs (exec (.smmul .al 1 2 true 3) (setR (setR base 2 1) 3 0x80000000)) (fun t => t.reg 1 == 0) = true :=
  ⟨base_passes, by decide +kernel⟩

theorem witness_ParallelInstructionsWorkLaneByLane :
    base.Passes .al ∧ (0 : BitVec 4) ≠ 15 ∧ (14 : BitVec 4) ≠ 15 ∧ ParOp.add8.width * 3 < 32 ∧ ParOp.sub16.width * 1 < 32 ∧
      runs (exec (.uadd8 .al 1 0 15 2) (setR (setR base 1 0xFF010080) 2 0x01010080))
        (fun t => t.reg 0 == 0x00020000 && t.cpsr == 0x00090013) = true ∧
      runs (exec (.saddsubx .al 1 0 15 2) (setR (setR base 1 0x00010000) 2 0x00010002))
        (fun t => t.reg 0 == 0x0003FFFF && t.cpsr == 0x000C0013) = true :=
  ⟨base_passes, by decide +kernel⟩

theorem witness_ExtendsRotateExtendAndAdd :
    base.Passes .al ∧ (0 : BitVec 4) ≠ 15 ∧ (14 : BitVec 4) ≠ 15 ∧
      runs (exec (.sxtab16 .al 1 0 1 0 2) (setR (setR base 1 0x0001FFFF) 2 0x80FF01FF)) (fun t => t.reg 0 == 0xFF810000) = true ∧
      runs (exec (.uxth .al 0 3 0 2) (setR base 2 0x12345678)) (fun t => t.reg 0 == 0x7812) = true :=
  ⟨base_passes, by decide +kernel⟩

theorem witness_ByteInstructionsSelectAndCount :
    base.Passes .al ∧ (0 : BitVec 4) ≠ 15 ∧ (14 : BitVec 4) ≠ 15 ∧
      runs (exec (.clz .al 15 0 15 1) base) (fun t => t.reg 0 == 32) = true ∧
      runs (exec (.pkhtb .al 1 0 0 2) (setR base 2 0x80000000)) (fun t => t.reg 0 == 0x0000FFFF) = true ∧
      runs (exec (.usad8 .al 0 2 1) (setR (setR base 1 0xFF00FF00) 2 0x00FF00FF)) (fun t => t.reg 0 == 1020) = true ∧
      runs (exec (.sel .al 1 0 15 2) (psr (setR (setR base 1 0x11223344) 2 0xAABBCCDD) 0x00090013))
        (fun t => t.reg 0 == 0x11BBCC44) = true :=
  ⟨base_passes, by decide +kernel⟩

theorem witness_BranchesGoToTheirTarget :
    base.Passes .al ∧ base.bitT = false ∧ (14 : BitVec 4) ≠ 15 ∧ (base.operand 15).extractLsb' 0 2 ≠ 0b10#2 ∧
      ((setR base 25 0x9001).operand 14).extractLsb' 0 2 ≠ 0b10#2 ∧ ((setR base 0 2).operand 0).extractLsb' 0 2 = 0b10#2 ∧
      runs (exec (.b .al 0x800000) base) (fun t => t.pc == 0xFE008008) = true ∧
      runs (exec (.bl .al 0x7FFFFF) base) (fun t => t.pc == 0x02008004 && t.reg 14 == 0x8004) = true ∧
      runs (exec (.blxLabel true 0xFFFFFE) base) (fun t => t.pc == 0x8002 && t.cpsr == 0x33 && t.reg 14 == 0x8004) = true ∧
      runs (exec (.bx .al 15 15 15 15) base) (fun t => t.pc == 0x8008 && t.cpsr == 0x13) = true ∧
      runs (exec (.blxReg .al 15 15 15 14) (setR base 25 0x9001)) (fun t => t.pc == 0x9000 && t.cpsr == 0x33 && t.reg 14 == 0x8004) =
        true ∧
      refuses (exec (.bxj .al 15 15 15 0) (setR base 0 2)) .branchAddress = true :=
  ⟨base_passes, by decide +kernel⟩

theorem witness_StatusRegistersAreReadAndWritten :
    base.Passes .al ∧ (0 : BitVec 4) ≠ 15 ∧ (14 : BitVec 4) ≠ 15 ∧
      runs (exec (.msrImm .al false 8 15 2 0xFF) base) (fun t => t.cpsr == 0xF0000013) = true ∧
      runs (exec (.msrReg .al false 15 15 0 0) (setR base 0 0xFFFFFFDF)) (fun t => t.cpsr == 0xF80F03DF) = true ∧
      runs (exec (.msrReg .al true 8 15 0 0) (setR base 0 0xFFFFFFFF)) (fun t => t.spsr[2] == 0xF9000000) = true ∧
      refuses (exec (.msrReg .al false 1 15 0 0) base) .unassignedMode = true ∧
      refuses (exec (.mrs .al true 15 0 0 0) (psr base 0x1F)) .spsrAbsent = true :=
  ⟨base_passes, by decide +kernel⟩

theorem witness_CpsAndSetendWriteTheStatus :
    base.inDebug = false ∧ Mode.ofBits 0x16 = some .mon ∧ Mode.ofBits 0x10 = some .usr ∧ (false || false || true) = true ∧
      runs (exec (.cps 0b11 true 0 true true true 0x1F) base) (fun t => t.cpsr == 0x1DF && t.pc == 0x8004) = true ∧
      runs (exec (.cps 0b11 true 0 true true true 0x16) nonSecure) (fun t => t.cpsr == 0x93) = true ∧
      runs (exec (.tCps true false false false true) (psr base 0x30)) (fun t => t.cpsr == 0x30 && t.pc == 0x8002) = true ∧
      runs (exec (.tSetend true 0) (psr base 0x30)) (fun t => t.cpsr == 0x230) = true := by
  decide +kernel

/-! Memory: the MMU off, or the sections of `mapped`. -/

theorem holds_of {s : State} {t : AccessType} {n : Nat} {priv : Bool} {va a w : Word} {p : Place}
    (h : s.reservedEndian = false ∧ s.NoWatch) (ha : s.AccessAddress t va a)
    (hp : placeOf s a .read priv = some p ∧ s.placeError p .read priv = none)
    (hw : w = (s.assemble (s.partBytes p 0 n)).rotateRight (if t = .wordLoad then 8 * (va.extractLsb' 0 2).toNat else 0)) :
    s.Holds t n priv va w :=
  ⟨h.1, h.2, .inl ⟨a, p, ha, at_of hp, hw⟩⟩

theorem storedAs_of {s : State} {t : AccessType} {n : Nat} {priv : Bool} {va a v : Word} {p : Place}
    (h : s.reservedEndian = false ∧ s.NoWatch) (ha : s.AccessAddress t va a)
    (hp : placeOf s a .write priv = some p ∧ s.placeError p .write priv = none) :
    s.StoredAs t n priv va v (s.writePart p 0 (s.scatter v n)) :=
  ⟨h.1, h.2, .inl ⟨a, p, ha, at_of hp, rfl⟩⟩

theorem quiet {s : State} (h : (!s.reservedEndian && !s.dbg.wcr[0].getLsbD 0 && !s.dbg.wcr[1].getLsbD 0) = true) :
    s.reservedEndian = false ∧ s.NoWatch := by
  simp only [Bool.and_eq_true, Bool.not_eq_true'] at h
  exact ⟨h.1.1, h.1.2, h.2⟩

/-- The word 0x80FF7F01 at the top of memory, R1 one of its bytes. -/
def top (k : Word) : State := poke (setR base 1 (0xFFFFFFFC + k)) 0xFFFFFFFC [0x80FF7F01]

/-- The same word across 0x8FFE and 0x9002, in Normal memory. -/
def across (va : Word) : State := poke (setR (mapped base) 1 va) 0x8FFC [0x7F010000, 0x000080FF]

theorem witness_LoadsWriteTheItemAndTheBase :
    (LoadOp.ldr.instr .al ⟨true, true, false⟩ 1 0 (.imm12 0) = some (.ldrImm .al true true false 1 0 0) ∧
      LoadOp.ldrt.instr .al ⟨false, true, true⟩ 1 0 (.imm12 0xFFF) = some (.ldrtImm .al true 1 0 0xFFF) ∧
      LoadOp.ldrsb.instr .al ⟨false, false, false⟩ 1 14 (.reg 0) = some (.ldrsbReg .al false false false 1 14 0 0) ∧
      LoadOp.ldrsh.instr .al ⟨true, true, true⟩ 1 0 (.imm8 0 0) = some (.ldrshImm .al true true true 1 0 0 0)) ∧
    (top 0).Holds .wordLoad 4 true 0xFFFFFFFC 0x80FF7F01 ∧ (top 3).Holds .wordLoad 4 false 0xFFFFFFFF 0xFF7F0180 ∧
    (top 3).Holds .byte 1 true 0xFFFFFFFF 0x80 ∧ (top 3).Holds .half 2 true 0xFFFFFFFF 0x80FF ∧
    (across 0x8FFD).Holds .half 2 true 0x8FFD 0x0100 ∧ (across 0x8FFE).Holds .wordLoad 4 true 0x8FFE 0x80FF7F01 ∧
    base.Passes .al ∧ badTransfer ⟨false, true, true⟩ 1 0 (.imm 0xFFF) = false ∧
    badTransfer ⟨true, true, false⟩ 15 15 (.reg 31 3 14) = false ∧ (14 : BitVec 4) ≠ 15 ∧
    runs (exec (.ldrtImm .al true 1 0 0xFFF) (top 3)) (fun t => t.reg 0 == 0xFF7F0180 && t.reg 1 == 0xFFE) = true ∧
    runs (exec (.ldrsbReg .al false false false 1 14 0 0) (top 3)) (fun t => t.reg 14 == 0xFFFFFF80) = true ∧
    runs (exec (.ldrImm .al true true false 1 0 0) (across 0x8FFE)) (fun t => t.reg 0 == 0x80FF7F01) = true := by
  refine ⟨by decide +kernel, ?_, ?_, ?_, ?_, ?_, ?_, base_passes, by decide +kernel⟩
  · exact holds_of (p := ram 0xFFFFFFFC) (quiet (by decide +kernel)) (.inl ⟨by decide +kernel, rfl⟩) (by decide +kernel)
      (by decide +kernel)
  · exact holds_of (p := ram 0xFFFFFFFC) (quiet (by decide +kernel)) (.inr ⟨2, by decide +kernel, rfl⟩) (by decide +kernel)
      (by decide +kernel)
  · exact holds_of (p := ram 0xFFFFFFFF) (quiet (by decide +kernel)) (.inl ⟨by decide +kernel, rfl⟩) (by decide +kernel)
      (by decide +kernel)
  · exact holds_of (p := ram 0xFFFFFFFE) (quiet (by decide +kernel)) (.inr ⟨1, by decide +kernel, rfl⟩) (by decide +kernel)
      (by decide +kernel)
  · have q := quiet (s := across 0x8FFD) (by decide +kernel)
    exact ⟨q.1, q.2, .inr ⟨by decide +kernel, .inl ⟨⟨0x8FFD, 2, 2⟩, normal 0x8FFD, by decide +kernel,
      at_of (by decide +kernel), rfl, by decide +kernel⟩⟩⟩
  · have q := quiet (s := across 0x8FFE) (by decide +kernel)
    exact ⟨q.1, q.2, .inr ⟨by decide +kernel, .inr ⟨⟨0x8FFE, 2, 4⟩, ⟨0x9000, 2, 4⟩, normal 0x8FFE, normal 0x9000,
      by decide +kernel, at_of (by decide +kernel), rfl, at_of (by decide +kernel), rfl, by decide +kernel⟩⟩⟩

/-- Alignment checking on (A). -/
def strict (va : Word) : State := setR (ctl base 2) 1 va

/-- A word at 0 that is an address to branch to. -/
def vectored (w : Nat) : State := poke base 0 [w]

theorem witness_LoadingThePcBranches :
    LoadOp.ldr.instr .al ⟨true, true, false⟩ 0 15 (.imm12 0) = some (.ldrImm .al true true false 0 15 0) ∧
    base.Passes .al ∧ (badTransfer ⟨true, true, false⟩ 0 15 (.imm 0) = false ∧
      (vectored 0x9001).alignment .wordLoad 0 = .normal ∧ (top 3).alignment .wordLoad 0xFFFFFFFF = .forced 2 ∧
      (across 0x8FFF).alignment .wordLoad 0x8FFF = .unaligned ∧ (across 0x8FFF).reservedEndian = false ∧
      (strict 0xFFFFFFFF).alignment .wordLoad 0xFFFFFFFF = .fault) ∧
    (vectored 0x9001).Holds .wordLoad 4 true 0 0x9001 ∧
    (top 3).Holds .wordLoad 4 true 0xFFFFFFFF 0xFF7F0180 ∧
    runs (exec (.ldrImm .al true true false 1 15 0) (top 3)) (fun t => t.pc == 0xFF7F0180 && t.cpsr == 0x13) = true ∧
    runs (exec (.ldrImm .al true true true 1 15 0) (across 0x8FFF)) (fun t => t.pc == 0x10 && t.cp15.s.dfsr == 1 &&
      t.cp15.s.far == 0x8FFF && t.regs[1] == 0x8FFF) = true ∧
    runs (exec (.ldrImm .al true true false 0 15 0) (vectored 0x9001)) (fun t => t.pc == 0x9000 && t.cpsr == 0x33) = true ∧
    runs (exec (.ldrImm .al true true false 0 15 0) (onCp15 (vectored 0x9001) fun c => { c with sctlrCommon := 0x8000 }))
      (fun t => t.pc == 0x9000 && t.cpsr == 0x13) = true ∧
    refuses (exec (.ldrImm .al true true false 0 15 0) (vectored 0x9002)) .branchAddress = true := by
  refine ⟨by decide +kernel, base_passes, by decide +kernel, ?_, ?_, by decide +kernel⟩
  · exact holds_of (p := ram 0) (quiet (by decide +kernel)) (.inl ⟨by decide +kernel, rfl⟩) (by decide +kernel)
      (by decide +kernel)
  · exact holds_of (p := ram 0xFFFFFFFC) (quiet (by decide +kernel)) (.inr ⟨2, by decide +kernel, rfl⟩) (by decide +kernel)
      (by decide +kernel)

theorem witness_StoresWriteTheItemAndTheBase :
    (StoreOp.str.instr .al ⟨true, true, true⟩ 1 15 (.imm12 0) = some (.strImm .al true true true 1 15 0) ∧
      StoreOp.strt.instr .al ⟨false, true, true⟩ 1 0 (.imm12 4) = some (.strtImm .al true 1 0 4) ∧
      StoreOp.strh.instr .al ⟨true, false, false⟩ 1 0 (.imm8 0 0) = some (.strhImm .al true false false 1 0 0 0) ∧
      StoreOp.strb.instr .al ⟨true, true, false⟩ 1 0 (.shifted 0 3 2) = some (.strbReg .al true true false 1 0 0 3 2)) ∧
    (top 0).StoredAs .wordStore 4 true 0xFFFFFFFC ((top 0).storeValue 15)
      ((top 0).writePart (ram 0xFFFFFFFC) 0 ((top 0).scatter ((top 0).storeValue 15) 4)) ∧
    (∃ u, (top 3).StoredAs .wordStore 4 false 0xFFFFFFFF 0 u) ∧ (∃ u, (across 0x8FFF).StoredAs .half 2 true 0x8FFF 0 u) ∧
    (∃ u, (top 3).StoredAs .byte 1 true 0xFFFFFFFF 0 u) ∧
    base.Passes .al ∧ badTransfer ⟨true, true, true⟩ 1 15 (.imm 0) = false ∧ ((15 : BitVec 4) = 15 → StoreOp.str = .str) ∧
    runs (exec (.strtImm .al true 1 0 4) (setR (top 3) 0 0x11223344))
      (fun t => peek t 0xFFFFFFFC == 0x11223344 && t.reg 1 == 3) = true ∧
    runs (exec (.strhImm .al true false false 1 0 0 0) (setR (across 0x8FFF) 0 0x1234))
      (fun t => peek t 0x8FFC == 0x34010000 && peek t 0x9000 == 0x8012) = true := by
  refine ⟨by decide +kernel, ?_, ?_, ?_, ?_, base_passes, by decide +kernel, fun _ => rfl, by decide +kernel⟩
  · exact storedAs_of (quiet (by decide +kernel)) (.inl ⟨by decide +kernel, rfl⟩) (by decide +kernel)
  · exact ⟨_, storedAs_of (p := ram 0xFFFFFFFC) (quiet (by decide +kernel)) (.inr ⟨2, by decide +kernel, rfl⟩)
      (by decide +kernel)⟩
  · have q := quiet (s := across 0x8FFF) (by decide +kernel)
    exact ⟨_, q.1, q.2, .inr ⟨by decide +kernel, .inr ⟨⟨0x8FFF, 1, 2⟩, ⟨0x9000, 1, 2⟩, normal 0x8FFF, normal 0x9000,
      by decide +kernel, at_of (by decide +kernel), rfl, rfl, at_of (by decide +kernel), rfl⟩⟩⟩
  · exact ⟨_, storedAs_of (p := ram 0xFFFFFFFF) (quiet (by decide +kernel)) (.inl ⟨by decide +kernel, rfl⟩)
      (by decide +kernel)⟩

/-- Words that memory holds from an address on. -/
def heldWords (s : State) (priv : Bool) : Word → List Word → Bool
  | _, [] => true
  | va, w :: ws =>
    match placeOf s va .read priv with
    | some p => (decide (s.placeError p .read priv = none) && w == s.assemble (s.partBytes p 0 4)) && heldWords s priv (va + 4) ws
    | none => false

theorem holdsWords_of {s : State} {priv : Bool} : ∀ {ws : List Word} {va : Word}, heldWords s priv va ws = true →
    s.HoldsWords priv va ws
  | [], _, _ => trivial
  | w :: ws, va, h => by
    unfold heldWords at h
    split at h
    · next p e =>
      simp only [Bool.and_eq_true, decide_eq_true_eq, beq_iff_eq] at h
      exact ⟨⟨p, at_of ⟨e, h.1.1⟩, h.1.2⟩, holdsWords_of h.2⟩
    · cases h

/-- What storing words from an address on leaves. -/
def storeAll (priv : Bool) : State → Word → List Word → Option State
  | s, _, [] => some s
  | s, va, w :: ws =>
    match placeOf s va .write priv with
    | some p =>
      if s.placeError p .write priv = none then storeAll priv (s.writePart p 0 (s.scatter w 4)) (va + 4) ws else none
    | none => none

theorem storedWords_of {priv : Bool} {u : State} : ∀ {ws : List Word} {s : State} {va : Word},
    storeAll priv s va ws = some u → s.StoredWords priv va ws u
  | [], s, va, h => by
    rw [State.StoredWords]
    injection h with h
    exact h.symm
  | w :: ws, s, va, h => by
    unfold storeAll at h
    split at h
    · next p e =>
      split at h
      · next he =>
        rw [State.StoredWords]
        exact ⟨p, at_of ⟨e, he⟩, storedWords_of h⟩
      · cases h
    · cases h

theorem block_of {s : State} {t : AccessType} {start a : Word} {ws : List Word} (h : s.reservedEndian = false ∧ s.NoWatch)
    (ha : s.AccessAddress t start a) (hw : heldWords s s.privileged a ws = true) : s.HoldsBlock t start ws :=
  ⟨h.1, h.2, a, ha, holdsWords_of hw⟩

theorem stored_of {s : State} {t : AccessType} {start a : Word} {ws : List Word} (h : s.reservedEndian = false ∧ s.NoWatch)
    (ha : s.AccessAddress t start a) (hw : (storeAll s.privileged s a ws).isSome = true) : ∃ u, s.StoredBlock t start ws u := by
  obtain ⟨u, hu⟩ := Option.isSome_iff_exists.1 hw
  exact ⟨u, h.1, h.2, a, ha, storedWords_of hu⟩

/-- Two words at the end of memory, then, past the wrap, the word at 0. -/
def wrapped : State := poke (poke (setR base 1 0xFFFFFFF8) 0xFFFFFFF8 [0x11, 0x22]) 0 [0x9000]

theorem witness_DoubleTransfersMoveTwoWords :
    base.Passes .al ∧
    (doubleInstr true .al ⟨true, true, false⟩ 1 2 (.imm8 0 0) = some (.ldrdImm .al true true false 1 2 0 0) ∧
      doubleInstr false .al ⟨true, true, false⟩ 1 2 (.reg 0) = some (.strdReg .al true true false 1 2 0 0) ∧
      (13 : BitVec 4).getLsbD 0 = true ∧ (2 : BitVec 4).getLsbD 0 = false ∧
      badDouble true ⟨true, true, false⟩ 1 2 (.imm 0) = false ∧ badDouble false ⟨true, true, false⟩ 1 12 (.reg 0 0 0) = false) ∧
    wrapped.HoldsBlock .twoWord 0xFFFFFFF8 [0x11, 0x22] ∧
    (∃ u, wrapped.StoredBlock .twoWord 0xFFFFFFF8 [wrapped.reg 2, wrapped.reg 3] u) ∧
    runs (exec (.ldrdImm .al true true false 1 2 0 0) wrapped) (fun t => t.reg 2 == 0x11 && t.reg 3 == 0x22) = true ∧
    runs (exec (.ldrdImm .al true true false 1 13 0 0) wrapped) (fun t => t.pc == 4 && t.mode == .und) = true := by
  refine ⟨base_passes, by decide +kernel, ?_, ?_, by decide +kernel⟩
  · exact block_of (quiet (by decide +kernel)) (.inl ⟨by decide +kernel, rfl⟩) (by decide +kernel)
  · exact stored_of (quiet (by decide +kernel)) (.inl ⟨by decide +kernel, rfl⟩) (by decide +kernel)

theorem witness_HintsOnlyMoveThePc :
    base.inDebug = false ∧ (0 : BitVec 4) ≠ 15 ∧ base.condPassed .eq = false ∧ base.condPassed .ne = true ∧
      runs (exec (.hint .eq 0 1 0xFF) base) (fun t => t.pc == 0x8004) = true := by
  decide +kernel

theorem witness_LoadMultipleFillsTheList :
    base.Passes .al ∧
    ((1 : BitVec 4) ≠ 15 ∧ (0x8005 : BitVec 16) ≠ 0 ∧ (0x8005 : BitVec 16).getLsbD (1 : BitVec 4).toNat = false ∧
      [0x11, 0x22, (0x9000 : Word)].length = (listRegs 0x8005).length ∧
      (List.replicate 16 (0 : Word)).length = (listRegs 0xFFFF).length ∧
      (0x6000 : BitVec 15) ≠ 0 ∧ base.mode ≠ .usr ∧ base.mode ≠ .sys ∧
      [0x11, (0x22 : Word)].length = (listRegs ((0x6000 : BitVec 15).setWidth 16)).length) ∧
    wrapped.HoldsBlock .multi (blockStart false true 3 (wrapped.reg 1)) [0x11, 0x22, 0x9000] ∧
    base.HoldsBlock .multi (blockStart true false 16 (base.reg 0)) (List.replicate 16 0) ∧
    wrapped.HoldsBlock .multi (blockStart false true 2 (wrapped.reg 1)) [0x11, 0x22] ∧
    runs (exec (.ldm1 .al false true true 1 0x8005) wrapped)
      (fun t => t.reg 0 == 0x11 && t.reg 2 == 0x22 && t.pc == 0x9000 && t.reg 1 == 4) = true ∧
    runs (exec (.ldm2 .al false true false 1 0x6000) wrapped) (fun t => t.regs[13] == 0x11 && t.regs[14] == 0x22) = true := by
  refine ⟨base_passes, by decide +kernel, ?_, ?_, ?_, by decide +kernel⟩
  · exact block_of (quiet (by decide +kernel)) (.inl ⟨by decide +kernel, rfl⟩) (by decide +kernel)
  · exact block_of (quiet (by decide +kernel)) (.inl ⟨by decide +kernel, rfl⟩) (by decide +kernel)
  · exact block_of (quiet (by decide +kernel)) (.inl ⟨by decide +kernel, rfl⟩) (by decide +kernel)

/-- Two words at 0: an address and a status. -/
def returning (a p : Nat) : State := poke (setSpsr base 2 0x80000010) 0 [a, p]

theorem witness_LoadsReturnFromAnException :
    ((returning 0x9003 0x30).inDebug = false ∧ (0 : BitVec 4) ≠ 15 ∧ (returning 0x9003 0x30).condPassed .al = true ∧
      spsrSlot (returning 0x9003 0x30).mode = some 2 ∧
      (1#1 ++ (0x4000 : BitVec 15) : BitVec 16).getLsbD (0 : BitVec 4).toNat = false ∧
      [(0x9003 : Word), 0x30].length = (listRegs (1#1 ++ (0x4000 : BitVec 15))).length) ∧
    (returning 0x9003 0x30).HoldsBlock .multi (blockStart false true 2 ((returning 0x9003 0x30).reg 0)) [0x9003, 0x30] ∧
    (returning 0x9003 0x30).mayReturn 0x30 = true ∧ (returning 0x9003 0).mayReturn 0 = false ∧
    runs (exec (.rfe false true false 0) (returning 0x9003 0x30)) (fun t => t.pc == 0x9002 && t.cpsr == 0x30) = true ∧
    runs (exec (.ldm3 .al false true true 0 0x4000) (returning 0x9003 0x37))
      (fun t => t.pc == 0x34 && t.cpsr == 0x80000010 && t.regs[25] == 0x9003 && t.regs[0] == 8) = true ∧
    refuses (exec (.rfe false true false 0) (returning 0x9003 0)) .unassignedMode = true := by
  refine ⟨by decide +kernel, ?_, by decide +kernel⟩
  exact block_of (quiet (by decide +kernel)) (.inl ⟨by decide +kernel, rfl⟩) (by decide +kernel)

theorem witness_StoreMultipleStoresTheList :
    (base.inDebug = false ∧ base.condPassed .al = true ∧ (0x8002 : BitVec 16) ≠ 0 ∧ (1 : BitVec 4) ≠ 15 ∧
      (listRegs 0x8002).head? = some 1 ∧ base.mode ≠ .usr ∧ base.mode ≠ .sys ∧ spsrSlot base.mode = some 2 ∧
      Mode.ofBits 0x16 = some .mon ∧ ¬(base.nonSecure = true ∧ Mode.mon = .mon)) ∧
    (∃ t, wrapped.StoredBlock .multi (blockStart true true (listRegs 0x8002).length (wrapped.reg 1))
      ((listRegs 0x8002).map wrapped.storeValue) t) ∧
    (∃ t, wrapped.StoredBlock .multi (blockStart true true (listRegs 0x8002).length (wrapped.reg 1))
      ((listRegs 0x8002).map fun n => if n = 15 then wrapped.storeValue 15 else wrapped.regOf .usr n) t) ∧
    (∃ t, base.StoredBlock .multi (blockStart true false 2 (base.regOf .mon 13)) [base.reg 14, base.spsr[2]] t) ∧
    runs (exec (.stm1 .al true true true 1 0x0006) (setR wrapped 2 0x77))
      (fun t => peek t 0xFFFFFFFC == 0xFFFFFFF8 && peek t 0 == 0x77 && t.reg 1 == 0) = true ∧
    runs (exec (.srs true false true 0x16) (setSpsr (setR base 25 0x99) 2 0x10))
      (fun t => peek t 0xFFFFFFF8 == 0x99 && peek t 0xFFFFFFFC == 0x10 && t.regs[30] == 0xFFFFFFF8) = true := by
  refine ⟨by decide +kernel, ?_, ?_, ?_, by decide +kernel⟩
  · exact stored_of (quiet (by decide +kernel)) (.inl ⟨by decide +kernel, rfl⟩) (by decide +kernel)
  · exact stored_of (quiet (by decide +kernel)) (.inl ⟨by decide +kernel, rfl⟩) (by decide +kernel)
  · exact stored_of (quiet (by decide +kernel)) (.inl ⟨by decide +kernel, rfl⟩) (by decide +kernel)

theorem witness_SwapsLoadThenStore :
    base.Passes .al ∧
    ((2 : BitVec 4) ≠ 15 ∧ (1 : BitVec 4) ≠ 2 ∧ (top 0).sctlr.getLsbD 22 = false ∧
      (ctl (top 0) 0x00400000).sctlr.getLsbD 22 = true) ∧
    (top 0).Holds .wordLoad 4 true 0xFFFFFFFC 0x80FF7F01 ∧ (∃ u, (top 0).StoredAs .wordStore 4 true 0xFFFFFFFC 0 u) ∧
    (ctl (top 0) 0x00400000).Holds .wordSync 4 true 0xFFFFFFFC 0x80FF7F01 ∧
    (∃ u, (ctl (top 0) 0x00400000).StoredAs .wordSync 4 true 0xFFFFFFFC 0 u) ∧
    (top 3).Holds .byte 1 true 0xFFFFFFFF 0x80 ∧ (∃ u, (top 3).StoredAs .byte 1 true 0xFFFFFFFF 0 u) ∧
    runs (exec (.swp .al 1 2 0 3) (setR (top 0) 3 5)) (fun t => t.reg 2 == 0x80FF7F01 && peek t 0xFFFFFFFC == 5) = true := by
  refine ⟨base_passes, by decide +kernel, ?_, ?_, ?_, ?_, ?_, ?_, by decide +kernel⟩
  · exact holds_of (p := ram 0xFFFFFFFC) (quiet (by decide +kernel)) (.inl ⟨by decide +kernel, rfl⟩) (by decide +kernel)
      (by decide +kernel)
  · exact ⟨_, storedAs_of (p := ram 0xFFFFFFFC) (quiet (by decide +kernel)) (.inl ⟨by decide +kernel, rfl⟩) (by decide +kernel)⟩
  · exact holds_of (p := ram 0xFFFFFFFC) (quiet (by decide +kernel)) (.inl ⟨by decide +kernel, rfl⟩) (by decide +kernel)
      (by decide +kernel)
  · exact ⟨_, storedAs_of (p := ram 0xFFFFFFFC) (quiet (by decide +kernel)) (.inl ⟨by decide +kernel, rfl⟩) (by decide +kernel)⟩
  · exact holds_of (p := ram 0xFFFFFFFF) (quiet (by decide +kernel)) (.inl ⟨by decide +kernel, rfl⟩) (by decide +kernel)
      (by decide +kernel)
  · exact ⟨_, storedAs_of (p := ram 0xFFFFFFFF) (quiet (by decide +kernel)) (.inl ⟨by decide +kernel, rfl⟩) (by decide +kernel)⟩

/-- The word and the doubleword at the top of the first megabyte, in Normal memory, Shared or not; the local monitor and the
global tag as given. -/
def exclusive (shared : Bool) (locl : Bool) (tag : Option (Word × Nat)) : State :=
  let s := poke (setR (mapped base) 1 0xFFFF8) 0xFFFF8 [0x33, 0x44]
  { (if shared then poke s 0x4000 [0x00010C0E] else s) with monitors := { locl := locl, globl := tag } }

/-- The same in User mode, where only privileged code may write. -/
def readOnly (shared : Bool) (tag : Option (Word × Nat)) : State :=
  poke (psr (exclusive shared true tag) 0x10) 0x4000 [if shared then 0x0001080E else 0x0000080E]

/-- Its place. -/
def marker (shared : Bool) : Place := { normal 0xFFFF8 with shared := shared }

/-- The attributes of Normal memory of `mapped`. -/
def writeBack (shared : Bool) : Attrs := { type := .normal, shared := shared, inner := 0b11, outer := 0b11 }

theorem exclusive_at {s : State} {p : Place} {k : Access} {n : Nat} (hp : s.privileged = true)
    (h : placeOf s 0xFFFF8 k true = some p ∧ s.placeError p k true = none)
    (hm : p.type = .normal ∧ s.noMonitor p k true n = false) : s.Exclusive 0xFFFF8 k n p := by
  rw [State.Exclusive, hp]
  exact ⟨at_of h, hm⟩

theorem witness_LoadExclusiveLoadsAndMarks :
    ∀ shared : Bool, (exclusive shared false none).Passes .al ∧ (exclusive shared false none).reservedEndian = false ∧
      (exclusive shared false none).NoWatch ∧
      (∀ n ∈ [1, 2, 4, 8], (exclusive shared false none).Exclusive 0xFFFF8 .read n (marker shared)) ∧
      (∀ t ∈ [AccessType.byte, .halfSync, .wordSync, .doubleSync],
        (exclusive shared false none).AccessAddress t ((exclusive shared false none).reg 1) 0xFFFF8) ∧
      (exclusive shared false none).HoldsWords true 0xFFFF8 [0x33, 0x44] ∧
      ((1 : BitVec 4) ≠ 15 ∧ (2 : BitVec 4) ≠ 15 ∧ (2 : BitVec 4).getLsbD 0 = false ∧ (2 : BitVec 4) ≠ 14) ∧
      runs (exec (.ldrexd .al 1 2 15 15) (exclusive shared false none)) (fun t => t.reg 2 == 0x33 && t.reg 3 == 0x44 &&
        t.monitors.locl && t.monitors.globl == (if shared then some (0xFFFF8, 8) else none)) = true := by
  intro shared
  have q := quiet (s := exclusive shared false none) (by cases shared <;> decide +kernel)
  refine ⟨⟨by cases shared <;> rfl, by cases shared <;> rfl⟩, q.1, q.2, ?_, ?_,
    holdsWords_of (by cases shared <;> decide +kernel), by decide +kernel, by cases shared <;> decide +kernel⟩
  · intro n hn
    refine exclusive_at (by cases shared <;> rfl) (by cases shared <;> decide +kernel) ⟨rfl, ?_⟩
    revert n
    cases shared <;> decide +kernel
  · intro t ht
    refine .inl ⟨?_, by cases shared <;> decide +kernel⟩
    simp only [List.mem_cons, List.not_mem_nil, or_false] at ht
    rcases ht with rfl | rfl | rfl | rfl <;> cases shared <;> decide +kernel

/-- A translation with its deferred check, where it leaves the state as it is. -/
def deferred (s : State) (r : Request) : Option (Translation × Option MmuFault) :=
  if (s.translateDeferred r).2 = s then (s.translateDeferred r).1.toOption else none

theorem deferred_of {s : State} {r : Request} {x : Translation × Option MmuFault} (h : deferred s r = some x) :
    s.translateDeferred r = (.ok x, s) := by
  unfold deferred at h
  split at h
  · next e =>
    refine Prod.ext ?_ e
    cases hx : (s.translateDeferred r).1 with
    | error f => rw [hx] at h; cases h
    | ok y => rw [hx] at h; injection h with h; rw [h]
  · cases h

/-- The permission fault of a write by User code to `readOnly`. -/
def deniedWrite : MmuFault := mmuFault 0b01101 0

theorem witness_StoreExclusiveStoresWhereMarked :
    (∀ (shared locl : Bool) (tag : Option (Word × Nat)),
      tag ∈ [none, some (0xFFFF8, 4), some ((0xFFFF8 : Word), 8)] →
      (exclusive shared locl tag).Passes .al ∧ (exclusive shared locl tag).reservedEndian = false ∧
      (exclusive shared locl tag).NoWatch ∧ (exclusive shared locl tag).monitors.locl = locl ∧
      (exclusive shared locl tag).monitors.globl = tag ∧
      (∀ n ∈ [1, 2, 4, 8], (exclusive shared locl tag).Exclusive 0xFFFF8 .write n (marker shared)) ∧
      (exclusive shared locl tag).AccessAddress .wordSync ((exclusive shared locl tag).reg 1) 0xFFFF8 ∧
      (exclusive shared locl tag).AccessAddress .doubleSync ((exclusive shared locl tag).reg 1) 0xFFFF8 ∧
      ∃ u, (exclusive shared locl tag).StoredWords true 0xFFFF8 [(exclusive shared locl tag).reg 4, (exclusive shared locl tag).reg 5] u) ∧
    ((1 : BitVec 4) ≠ 15 ∧ (3 : BitVec 4) ≠ 1 ∧ (3 : BitVec 4) ≠ 4 ∧ (4 : BitVec 4).getLsbD 0 = false ∧ (4 : BitVec 4) ≠ 14 ∧
      (3 : BitVec 4) ≠ 4 + 1 ∧ (setR (exclusive true true none) 1 2).alignment .wordSync 2 = .fault) ∧
    (∀ (shared : Bool) (tag : Option (Word × Nat)), tag ∈ [none, some ((0xFFFF8 : Word), 4)] →
      (let s := readOnly shared tag
       let t : Translation := { pa := 0xFFFF8, nsAttr := false, attrs := some (writeBack shared), domain := 0 }
       s.monitors.locl = true ∧
       s.translateDeferred (s.request 0xFFFF8 .write s.privileged) = (.ok (t, some deniedWrite), s) ∧
       s.placeOf s.nonSecure .write t = some (marker shared) ∧
       runs (exec (.strex .al 1 3 15 4) s) (fun u => if shared && tag.isNone then u.reg 3 == 1 && u.pc == 0x8004 && !u.monitors.locl
        else u.pc == 0x10 && u.cp15.s.dfsr == 0x80D && !u.monitors.locl) = true)) ∧
    runs (exec (.strex .al 1 3 15 4) (setR (exclusive true true (some (0xFFFF8, 4))) 4 0x55))
      (fun t => t.reg 3 == 0 && peek t 0xFFFF8 == 0x55 && !t.monitors.locl && t.monitors.globl == none) = true ∧
    runs (exec (.strexd .al 1 3 15 4) (setR (exclusive true true (some (0xFFFF8, 4))) 4 0x55))
      (fun t => t.reg 3 == 1 && peek t 0xFFFF8 == 0x33 && !t.monitors.locl) = true ∧
    runs (exec (.strexb .al 1 3 15 4) (setR (exclusive false true none) 4 0x155))
      (fun t => t.reg 3 == 0 && peek t 0xFFFF8 == 0x55) = true := by
  refine ⟨?_, by decide +kernel, ?_, by decide +kernel⟩
  · intro shared locl tag ht
    have hr : (exclusive shared locl tag).reg 1 = 0xFFFF8 := by cases shared <;> rfl
    have h : (storeAll true (exclusive shared locl tag) 0xFFFF8
        [(exclusive shared locl tag).reg 4, (exclusive shared locl tag).reg 5]).isSome = true := by
      simp only [List.mem_cons, List.not_mem_nil, or_false] at ht
      rcases ht with rfl | rfl | rfl <;> cases shared <;> cases locl <;> decide +kernel
    have q : (exclusive shared locl tag).reservedEndian = false ∧ (exclusive shared locl tag).NoWatch := by
      simp only [List.mem_cons, List.not_mem_nil, or_false] at ht
      rcases ht with rfl | rfl | rfl <;> cases shared <;> cases locl <;> exact quiet (by decide +kernel)
    refine ⟨⟨by cases shared <;> rfl, by cases shared <;> rfl⟩, q.1, q.2, rfl, rfl,
      fun n hn => exclusive_at ?_ ?_ ⟨rfl, ?_⟩, .inl ⟨?_, hr.symm⟩,
      .inl ⟨?_, hr.symm⟩, (Option.isSome_iff_exists.1 h).imp fun u hu => storedWords_of hu⟩
    case refine_3 =>
      simp only [List.mem_cons, List.not_mem_nil, or_false] at hn
      rcases hn with rfl | rfl | rfl | rfl <;> cases shared <;> rfl
    all_goals
      simp only [List.mem_cons, List.not_mem_nil, or_false] at ht
      rcases ht with rfl | rfl | rfl <;> cases shared <;> cases locl <;> decide +kernel
  · intro shared tag ht
    simp only [List.mem_cons, List.not_mem_nil, or_false] at ht
    refine ⟨rfl, deferred_of ?_, ?_⟩
    all_goals rcases ht with rfl | rfl <;> cases shared <;> decide +kernel

theorem witness_StoredBytesReadBack :
    (top 0).MemoryOk ∧
    (∀ p ∈ [(ram 0xFFFFFFFF, 1), (ram 0, 4), ({ ram 0x2000 with tcm := some .dtcm0 }, 4)],
      (p.1.pa.extractLsb' 0 2).toNat + (List.replicate p.2 (0xAB : Byte)).length ≤ 4 ∧
        ∃ m ∈ [none, some Tcm.itcm1], m ≠ p.1.tcm) ∧
    peek ((top 0).writePart (ram 0xFFFFFFFE) 0 [0xAB, 0]) 0xFFFFFFFC = 0x00AB7F01 := by
  exact ⟨memoryOk_of (by decide +kernel), by decide +kernel⟩

theorem witness_FaultingTransfersTakeTheDataAbort :
    base.Passes .al ∧ (badTransfer ⟨true, true, true⟩ 1 0 (.imm 0) = false ∧ (0 : BitVec 4) ≠ 15 ∧
      (strict 0xFFFFFFFF).reservedEndian = false ∧
      LoadOp.ldrh.instr .al ⟨true, true, true⟩ 1 0 (.imm8 0 0) = some (.ldrhImm .al true true true 1 0 0 0) ∧
      StoreOp.strt.instr .al ⟨false, true, true⟩ 1 0 (.imm12 4) = some (.strtImm .al true 1 0 4) ∧
      (strict 0xFFFFFFFF).alignment .half 0xFFFFFFFF = .fault ∧ (strict 1).alignment .wordStore 1 = .fault) ∧
    (across 0x200000).AccessAddress .half 0x200000 0x200000 ∧
    locate 0x200000 .read true (across 0x200000) = .ok (.error (mmuFault 0b00101 0)) (across 0x200000) ∧
    (across 0x100000).AccessAddress .wordStore 0x100000 0x100000 ∧
    locate 0x100000 .write false (across 0x100000) = .ok (.error (mmuFault 0b01101 0)) (across 0x100000) ∧
    runs (exec (.ldrhImm .al true true true 1 0 0 0) (strict 0xFFFFFFFF)) (fun t => t.pc == 0x10 && t.regs[27] == 0x8008 &&
      t.regs[1] == 0xFFFFFFFF && t.cp15.s.dfsr == 1 && t.cp15.s.far == 0xFFFFFFFF) = true ∧
    runs (exec (.strtImm .al true 1 0 4) (across 0x100000)) (fun t => t.pc == 0x10 && t.cp15.s.dfsr == 0x80D &&
      t.cp15.s.far == 0x100000 && t.regs[1] == 0x100000) = true := by
  exact ⟨base_passes, by decide +kernel, .inl ⟨by decide +kernel, rfl⟩, fault_of (by decide +kernel),
    .inl ⟨by decide +kernel, rfl⟩, fault_of (by decide +kernel), by decide +kernel⟩

theorem witness_Cp15RegistersHoldWhatIsWritten :
    (psr (scr base 1) 0x16).Passes .al ∧ base.Passes .al ∧
    (base.secure = true ∧ (psr (scr base 1) 0x16).secure = true ∧ base.privileged = true ∧ base.pins.cp15sdisable = false ∧
      (0 : BitVec 4) ≠ 15 ∧ (14 : BitVec 4) ≠ 15) ∧
    ⟨0, 2, 0, 0, 0xFFFFFF9B, inBank fun b v => { b with ttbr0 := v }⟩ ∈ bankedRows ++ secureRows ∧
    ⟨0, 12, 0, 1, 0xFFFFFFE0, fun _ c v => { c with mvbar := v }⟩ ∈ bankedRows ++ secureRows ∧
    runs (exec (.mcr .al 0 1 0 15 0 0) (psr (scr (setR base 0 0xFFFFFFFF) 1) 0x16))
      (fun t => t.cp15.sctlr true == 0x33E5FBFF && t.cp15.sctlr false == 0x0025C0F8 && t.pc == 0x8004) = true ∧
    runs (exec (.mcr .al 0 1 0 15 0 1) (setR base 0 0xFFFFFFFF)) (fun t => t.cp15.scr == 0x3F && t.nonSecure) = true ∧
    runs (exec (.mcr .al 0 1 0 15 2 0) (setR base 0 0xFFFFFFFF)) (fun t => t.cp15.cpacr == 0 && t.pc == 0x8004) = true ∧
    runs (exec (.mcr .al 0 2 0 15 0 0) (psr (scr (setR base 0 0xFFFFFFFF) 1) 0x16))
      (fun t => t.cp15.ns.ttbr0 == 0xFFFFFF9B && t.cp15.s.ttbr0 == 0 && t.pc == 0x8004) = true ∧
    runs (exec (.mrc .al 0 12 15 15 0 0) (onSecure base fun b => { b with vbar := 0xA0000000 }))
      (fun t => t.cpsr == 0xA0000013) = true := by
  refine ⟨⟨rfl, rfl⟩, base_passes, by decide +kernel, .head _, ?_, by decide +kernel⟩
  exact List.mem_append.2 (.inr (.tail _ (.tail _ (.tail _ (.head _)))))

theorem witness_UserAccessToCp15IsUndefined :
    (psr base 0x10).Passes .al ∧ (psr base 0x10).mode = .usr ∧ (psr base 0x10).cp15.valV = false ∧ (psr base 0x10).dma.user = 0 ∧
    ((0 : BitVec 3), (0 : BitVec 4), (0 : BitVec 4), (0 : BitVec 3)) ∉ [(0, 13, 0, 2), (0, 13, 0, 3)] ∧
    ((7 : BitVec 3), (15 : BitVec 4), (15 : BitVec 4), (7 : BitVec 3)) ∉ [(0, 13, 0, 2), (0, 7, 5, 4), (0, 7, 10, 4), (0, 7, 10, 5)] ∧
    runs (exec (.mrc .al 0 13 0 15 4 0) (psr base 0x10)) (fun t => t.pc == 4 && t.mode == .und) = true ∧
    runs (exec (.mrc .al 0 13 0 15 3 0) (psr base 0x10)) (fun t => t.pc == 0x8004) = true :=
  ⟨⟨rfl, rfl⟩, by decide +kernel⟩

/-- In Standby. -/
def asleep : State := { adding with activity := .standby }

theorem witness_RangeOperationsAndStandby :
    base.Passes .al ∧ base.cp15.actlr.getLsbD 5 = false ∧ base.privileged = true ∧ (0 : BitVec 4) ≠ 15 ∧
    base.sctlr.getLsbD 0 = false ∧ (psr base 0x10).privileged = false ∧ (1 : BitVec 4) ≠ 0 ∧
    (onCp15 base fun c => { c with actlr := 0x27 }).cp15.actlr.getLsbD 5 = true ∧
    ((4 : BitVec 4) ≠ 12 ∧ (4 : BitVec 4) ≠ 5 ∧ (4 : BitVec 4) ≠ 6 ∧ (4 : BitVec 4) ≠ 14) ∧ base.wakeUp = false ∧
    asleep.agenda = [] ∧ asleep.dma.ch0.state ≠ .running ∧ asleep.dma.ch1.state ≠ .running ∧ asleep.activity = .standby ∧
    runs (exec (.mcrr .al 1 0 15 0 12) (psr base 0x10)) (fun t => t.pc == 0x8004) = true ∧
    runs (exec (.mcrr .al 1 0 15 0 14) (psr base 0x10)) (fun t => t.pc == 4) = true ∧
    runs (exec (.mcr .al 0 7 0 15 4 0) base) (fun t => t.activity == .standby && t.pc == 0x8004) = true ∧
    runs (step asleep) (fun t => t.activity == .standby && t.pc == 0x8000) = true ∧
    runs (step (pin (psr asleep 0x93) .nIRQ false)) (fun t => t.activity == .running && t.pc == 0x8004) = true :=
  ⟨base_passes, by decide +kernel⟩

theorem witness_DebugCommunicationChannelHandshakes :
    base.Passes .al ∧ (base.privileged = true ∧ (14 : BitVec 4) ≠ 15) ∧ ((15 : BitVec 4) = 15 → false = false) ∧
    (wrapped).Holds .multi 4 true 0xFFFFFFF8 0x11 ∧ (∃ t, wrapped.StoredAs .multi 4 true 0xFFFFFFF8 wrapped.dbg.rdtr t) ∧
    (let s := { base with tap := { base.tap with screg := 5, ir := 0 } }
     s.tap.screg = 5 ∧ s.dbg.dscr.getLsbD 13 = false ∧ s.tap.ir = 0b00000 ∧
      (s.scanDr 0xCAFE0001).dbg.rdtr = 0xCAFE0001 ∧ (s.scanDr 0xCAFE0001).dbg.dscr = 0x40000002) ∧
    (let s := { base with tap := { base.tap with screg := 5, ir := 0b01100 } }
     s.tap.screg = 5 ∧ s.tap.ir = 0b01100 ∧ (s.scanDr 0).tap.out.getLsbD 33 = false) ∧
    runs (exec (.ldc .al true true false true 1 5 14 0) wrapped)
      (fun t => t.dbg.wdtr == 0x11 && t.dbg.dscr == 0x20000002 && t.reg 1 == 0xFFFFFFF8) = true := by
  refine ⟨base_passes, by decide +kernel, fun _ => rfl, ?_, ?_, by decide +kernel⟩
  · exact holds_of (p := ram 0xFFFFFFF8) (quiet (by decide +kernel)) (.inl ⟨by decide +kernel, rfl⟩) (by decide +kernel)
      (by decide +kernel)
  · exact ⟨_, storedAs_of (p := ram 0xFFFFFFF8) (quiet (by decide +kernel)) (.inl ⟨by decide +kernel, rfl⟩) (by decide +kernel)⟩

/-- Thumb state at 0x8000. -/
def thumb : State := psr base 0x33

theorem witness_ThumbDataProcessingWritesResultAndFlags :
    thumb.inDebug = false ∧
    runs (exec (.tNeg 1 0) (setR thumb 1 0x80000000)) (fun t => t.reg 0 == 0x80000000 && t.cpsr == 0x90000033) = true ∧
    runs (exec (.tLsrImm 0 1 0) (setR thumb 1 0x80000000)) (fun t => t.reg 0 == 0 && t.cpsr == 0x60000033) = true ∧
    runs (exec (.tSubImm8 7 0xFF) (setR thumb 7 0xFF)) (fun t => t.reg 7 == 0 && t.cpsr == 0x60000033 && t.pc == 0x8002) = true := by
  decide +kernel

theorem witness_ThumbHighRegistersStackAndExtends :
    thumb.inDebug = false ∧ (true || false) = true ∧ high true 7 = 15 ∧ high true 6 ≠ 15 ∧ high false 0 ≠ 15 ∧
    runs (exec (.tAddHigh true false 1 7) (setR thumb 1 1)) (fun t => t.pc == 0x8004 && t.cpsr == 0x33) = true ∧
    runs (exec (.tAddPc 0 0xFF) { thumb with pc := 0x8002 }) (fun t => t.reg 0 == 0x8400) = true ∧
    runs (exec (.tSubSpImm 0x7F) thumb) (fun t => t.reg 13 == 0xFFFFFE04) = true := by
  decide +kernel

theorem witness_ThumbTransfersMoveTheItem :
    (thumb.inDebug = false ∧ LoadOp.ldrsh.thumb (.reg 1 0) 7 = some (.tLdrsh 0 1 7)) ∧
    (psr (top 2) 0x33).Holds .half 2 true 0xFFFFFFFE 0x80FF ∧ StoreOp.strb.thumb (.imm 1 31) 7 = some (.tStrbImm 31 1 7) ∧
    (∃ u, thumb.StoredAs .byte 1 true 31 0 u) ∧
    runs (exec (.tLdrsh 0 1 7) (psr (top 2) 0x33)) (fun t => t.reg 7 == 0xFFFF80FF && t.pc == 0x8002) = true ∧
    runs (exec (.tStrbImm 31 1 7) (setR thumb 7 0x1AB)) (fun t => peek t 28 == 0xAB000000) = true := by
  refine ⟨by decide +kernel, ?_, by decide +kernel, ?_, by decide +kernel⟩
  · exact holds_of (p := ram 0xFFFFFFFE) (quiet (by decide +kernel)) (.inl ⟨by decide +kernel, rfl⟩) (by decide +kernel)
      (by decide +kernel)
  · exact ⟨_, storedAs_of (p := ram 31) (quiet (by decide +kernel)) (.inl ⟨by decide +kernel, rfl⟩) (by decide +kernel)⟩

theorem witness_ThumbBlocksUseTheStackOrTheBase :
    (thumb.inDebug = false ∧ (BitVec.ofBool false ++ BitVec.ofBool true ++ 0#6 ++ 0#8 : BitVec 16) ≠ 0 ∧
      (BitVec.ofBool true ++ 0#7 ++ 0#8 : BitVec 16) = 0x8000 ∧ [(0x9001 : Word)].length = (listRegs 0x8000).length ∧
      (6 : BitVec 8) ≠ 0 ∧ (6 : BitVec 8).getLsbD (1 : BitVec 3).toNat = true ∧
      (listRegs ((6 : BitVec 8).setWidth 16)).head? = some (low 1) ∧ (6 : BitVec 8).getLsbD (0 : BitVec 3).toNat = false ∧
      [(0x11 : Word), 0x22].length = (listRegs ((6 : BitVec 8).setWidth 16)).length) ∧
    (∃ t, thumb.StoredBlock .multi (thumb.reg 13 - BitVec.ofNat 32 (4 * (listRegs 0x40FF).length))
      ((listRegs 0x40FF).map thumb.reg) t) ∧
    (psr (vectored 0x9001) 0x33).HoldsBlock .multi ((psr (vectored 0x9001) 0x33).reg 13) [0x9001] ∧
    (∃ t, (psr wrapped 0x33).StoredBlock .multi ((psr wrapped 0x33).reg (low 1))
      ((listRegs ((6 : BitVec 8).setWidth 16)).map (psr wrapped 0x33).reg) t) ∧
    (psr wrapped 0x33).HoldsBlock .multi ((psr wrapped 0x33).reg (low 1)) [0x11, 0x22] ∧
    runs (exec (.tPush true 1) (setR (setR thumb 0 7) 25 9))
      (fun t => t.reg 13 == 0xFFFFFFF8 && peek t 0xFFFFFFF8 == 7 && peek t 0xFFFFFFFC == 9) = true ∧
    runs (exec (.tPop true 0) (psr (vectored 0x9001) 0x33)) (fun t => t.pc == 0x9000 && t.reg 13 == 4) = true ∧
    runs (exec (.tLdmia 1 6) (psr wrapped 0x33)) (fun t => t.reg 1 == 0x11 && t.reg 2 == 0x22) = true := by
  refine ⟨by decide +kernel, ?_, ?_, ?_, ?_, by decide +kernel⟩
  · exact stored_of (quiet (by decide +kernel)) (.inl ⟨by decide +kernel, rfl⟩) (by decide +kernel)
  · exact block_of (quiet (by decide +kernel)) (.inl ⟨by decide +kernel, rfl⟩) (by decide +kernel)
  · exact stored_of (quiet (by decide +kernel)) (.inl ⟨by decide +kernel, rfl⟩) (by decide +kernel)
  · exact block_of (quiet (by decide +kernel)) (.inl ⟨by decide +kernel, rfl⟩) (by decide +kernel)

theorem witness_ThumbBranchesGoToTheirTarget :
    thumb.inDebug = false ∧ thumb.bitT = true ∧ thumb.condPassed .ne = true ∧ high true 6 ≠ 15 ∧ thumb.pc.getLsbD 0 = false ∧
    (thumb.operand (high true 6)).extractLsb' 0 2 ≠ 0b10#2 ∧ ((setR thumb 25 2).operand (high true 6)).extractLsb' 0 2 = 0b10#2 ∧
    runs (exec (.tBlxReg true 6 0) (setR thumb 25 0x9000)) (fun t => t.pc == 0x9000 && t.cpsr == 0x13 && t.reg 14 == 0x8003) = true ∧
    refuses (exec (.tBx true 6 0) (setR thumb 25 2)) .branchAddress = true ∧
    runs (exec (.tBCond 1 0x80) thumb) (fun t => t.pc == 0x7F04) = true ∧
    runs (exec (.tB 0x400) thumb) (fun t => t.pc == 0x7804) = true ∧
    runs (exec (.tBlFirst 0x400) thumb) (fun t => t.reg 14 == 0xFFC08004 && t.pc == 0x8002) = true ∧
    runs (exec (.tBlxSecond 0x3FF) (setR thumb 25 0x8006)) (fun t => t.pc == 0x9000 && t.cpsr == 0x13 && t.reg 14 == 0x8003) =
      true := by
  decide +kernel

theorem witness_UnpredictableFormsStopByName :
    base.Passes .al ∧ ((Operand2.shiftedByReg 15 0 0).regShiftPc 0 0 = true ∧ AluOp.add ≠ .mov ∧ AluOp.add ≠ .mvn ∧
      LoadOp.ldrb.instr .al ⟨true, true, false⟩ 0 15 (.imm12 0) = some (.ldrbImm .al true true false 0 15 0) ∧
      badTransfer ⟨true, true, true⟩ 1 1 (.imm 0) = true) ∧ LoadOp.ldrb ≠ .ldr ∧ StoreOp.strb ≠ .str ∧ (1 : BitVec 4) ≠ 0 ∧
    (14 : BitVec 4) ≠ 15 ∧
    refuses (exec (.ldrbImm .al true true false 0 15 0) base) .unpredictableOperands = true ∧
    refuses (exec (.addRegReg .al false 0 0 15 0 0) base) .unpredictableOperands = true ∧
    refuses (exec (.sel .al 0 0 14 0) base) .shouldBeBits = true := by
  exact ⟨base_passes, by decide +kernel, (fun h => by cases h), (fun h => by cases h), by decide +kernel⟩

/-- A read by User code of the second megabyte, which only privileged code may access, and of the first. -/
def request (a : Word) (priv : Bool) : Request := { mva := a, kind := .read, priv := priv, ns := false }

/-- The memory of `mapped`, with a coarse table at 0x8000 for the third megabyte, which holds an extended small page (without XP
a small one) and a large page, and a supersection for the fourth; a lockdown entry maps the fifth. -/
def paged (xp : Bool) : State :=
  { onCp15 base fun c => { c with
      s := { c.s with sctlr := if xp then 0x00C00001 else 0x00400001, ttbr0 := 0x4000, dacr := 1 }
      tlb := c.tlb.set 7 { resetTlbEntry with valid := true, va := 0x00400, size := 3, global := true, ap := 3, pa := 0x12300 } } with
    mem := [(0x4000, 0x0E), (0x4001, 0x0C), (0x4004, 0x0E), (0x4005, 0x04), (0x4006, 0x10), (0x4008, 0x01), (0x4009, 0x80),
      (0x400C, 0x0E), (0x400D, 0x04), (0x400E, 0x04), (0x400F, 0x01), (0x8000, 0x32), (0x8001, 0xB0), (0x8002, 0x0A),
      (0x8004, 0xF1), (0x8005, 0xBF), (0x8006, 0x0A)] }

/-- The physical address a translation gives, or the status of its fault. -/
def answers (s : State) (r : Request) : Option (Word ⊕ BitVec 5) :=
  match translate r s with
  | .ok (.ok t) _ => some (.inl t.pa)
  | .ok (.error f) _ => some (.inr f.status)
  | .error _ _ => none

/-- What the clause of a walk assumes. -/
def Walks (s : State) (r : Request) : Prop :=
  (s.cp15.sctlr r.ns).getLsbD 0 = true ∧ s.tlbLookup r = none ∧ (s.cp15.bank r.ns).ttbcr.extractLsb' 0 3 = 0#3 ∧
    s.cp15.tlbLockdown.getLsbD 0 = false

theorem witness_SectionsTranslateAndCheckPermission :
    (base.cp15.sctlr (request 0xFFFFFFFF true).ns).getLsbD 0 = false ∧ Walks (paged true) (request 0x200FFF false) ∧
    Walks (paged true) (request 0x1FFFFF false) ∧ Walks (paged false) (request 0x201000 false) ∧
    ((paged true).cp15.sctlr (request 0x4FFFFF true).ns).getLsbD 0 = true ∧
    ((paged true).tlbLookup (request 0x4FFFFF true)).isSome = true := by
  unfold Walks
  decide +kernel

/-- A section, a supersection and a lockdown entry, and their faults, from the tables of `paged`. -/
theorem test_walk_sections :
    answers (paged true) (request 0x1FFFFF false) = some (.inr 0b01101) ∧
    answers (paged true) (request 0x1FFFFF true) = some (.inl 0x1FFFFF) ∧
    answers (paged true) (request 0x1300010 true) = some (.inr 0b00101) ∧
    answers (paged true) (request 0x300000 true) = some (.inl 0x1300000) ∧
    answers (paged true) (request 0x4FFFFF true) = some (.inl 0x123FFFFF) := by
  decide +kernel

/-- Pages, with XP and without, and their faults, from the tables of `paged`. -/
theorem test_walk_pages :
    answers (paged true) (request 0x200FFF false) = some (.inl 0xABFFF) ∧
    answers (paged true) (request 0x20FFFF false) = some (.inr 0b00111) ∧
    answers (paged false) (request 0x200000 false) = some (.inl 0xAB000) ∧
    answers (paged false) (request 0x200FFF false) = some (.inr 0b01111) ∧
    answers (paged false) (request 0x201000 false) = some (.inl 0xA1000) := by
  decide +kernel

/-- Data TCM 0 enabled at 0x10000, its first word set; channel 0 runs, a word from 0x8000 on to 0x10000 and no more, or with `out`
the other way. -/
def transferring (out user done : Bool) : State :=
  let s := onCp15 (psr adding 0x13) fun c => { c with dtcmRegion := c.dtcmRegion.set 0 0x10001 }
  { s with
    dtcm0 := pokeCells [] 0 [0xE1A01101]
    dma := { s.dma with ch0 := { s.dma.ch0 with
      control := if out then 0x68000402 else 0x28000402, status := 2, intEnd := 0x10004
      curInt := if done then 0x10004 else 0x10000, curExt := 0x8000, userStart := user } } }

theorem witness_DmaCopiesOneTransactionAtAStep :
    (∀ out user done : Bool, (transferring out user done).MemoryOk ∧ ∀ k, (transferring out user done).activity ≠ .heldInReset k) ∧
    ((transferring false false true).dma.channel false).curInt = ((transferring false false true).dma.channel false).intEnd ∧
    (∀ out user : Bool, let s := transferring out user false
      s.DmaMoves false (flat 0x10000) (flat 0x8000) .dtcm0 ∧ ((s.dma.channel false).control.getLsbD 30) = out ∧
      s.agenda = [] ∧ s.dma.ch0.state = .running ∧
      runs (step s) (fun t => t.dma.ch0.curInt == 0x10004 && t.dma.ch0.curExt == 0x8004 && t.dtcm0.length == 4 &&
        (if out then peek t 0x8000 == 0xE1A01101 && t.pc == 0x8004 else peek t 0x8000 == 0xE0912003 && t.pc == 0x8004)) = true) ∧
    runs (step (transferring false false true)) (fun t => t.dma.ch0.state == .complete && t.dma.ch0.irq && !t.nDmaSIrq && t.nDmaIrq) =
      true := by
  refine ⟨?_, by decide +kernel, ?_, by decide +kernel⟩
  · intro out user done
    exact ⟨memoryOk_of (by cases out <;> cases user <;> cases done <;> decide +kernel), fun k h => by cases h⟩
  · intro out user
    have e : ∀ (s : State) (a : Word) (k : Access) (t : Translation),
        (match s.dmaTranslate false a k with | (.ok u, v) => decide (u = t ∧ v = s) | (.error _, _) => false) = true →
        s.dmaTranslate false a k = (.ok t, s) := by
      intro s a k t h
      split at h
      · next u v e => obtain ⟨rfl, rfl⟩ := of_decide_eq_true h; exact e
      · cases h
    refine ⟨⟨?_, e _ _ _ _ ?_, e _ _ _ _ ?_, ?_⟩, ?_⟩
    all_goals cases out <;> cases user <;> decide +kernel

theorem witness_DebugStateIsEnteredAndLeft :
    (halting base).inDebug = false ∧ (halting base).debugPermitted = true ∧ (halting base).dbgMode = .halting ∧
    (stopped base).agenda = [] ∧ (stopped base).activity = .debug ∧ (stopped base).dma.ch0.state ≠ .running ∧
    (stopped base).dma.ch1.state ≠ .running ∧ (stopped base).condPassed .al = true ∧ (14 : BitVec 4) ≠ 15 ∧
    runs (exec (.bkpt .al 0 0) (halting base)) (fun t => t.activity == .debug && t.dbg.dbgPc == 0x8008 && t.dbg.dscr == 0x400E &&
      t.dbgAck) = true ∧
    runs (exec (.movImm .al false 0 15 0 8) (stopped base)) (fun t => t.pc == 0x8000 && t.activity == .debug) = true ∧
    (let s := inputs (onDebug { stopped base with tap := { base.tap with ir := 0b00100 } } fun d =>
        { d with dbgPc := 0x9003, dbgPcWritten := true }) [.runTestIdle]
     s.agenda = .runTestIdle :: [] ∧ s.tap.ir = 0b00100 ∧ s.activity = .debug ∧ s.dbg.dbgPcWritten = true ∧
      runs (step s) (fun t => t.activity == .running && t.pc == 0x9000 && !t.dbgAck) = true) := by
  decide +kernel

/-- `adding` with both Count Registers at their last value and event 0x07, their interrupts and, with `d`, the divider enabled. -/
def counting (d : Bool) : State :=
  { adding with pmu := { adding.pmu with pmnc := if d then 0x00707039 else 0x00707031, pmn0 := 0xFFFFFFFF, pmn1 := 0xFFFFFFFF } }

theorem witness_PerformanceCountersCountInstructions :
    base.pmu.started = 0 ∧ base.pmu.pmnc.getLsbD 0 = false ∧
    (∀ d : Bool, let s := counting d
      let en := s.pmuEnables
      s.pmu.started = 0 ∧ s.pmu.wrapped = 0 ∧ en.cycles = true ∧ en.events = true ∧ s.pmu.pmnc.getLsbD 0 = true ∧
      s.pmu.pmnc.extractLsb' 20 8 = 0x07#8 ∧ s.pmu.pmnc.extractLsb' 12 8 = 0x07#8 ∧ s.pmu.pmnc.getLsbD 3 = d ∧
      s.nonInvasivePermitted = true ∧ s.inDebug = false) ∧
    (∀ d : Bool, (counting d).Between ∧ (counting d).NoInterrupt ∧
      fetchInsn (counting d) = .ok (.ok (.arm 0xE0912003)) (counting d) ∧ (counting d).NoEvent) ∧
    ((counting false).bitJ = false ∧ decode (.arm 0xE0912003) = .instr (.addRegImm .al true 1 2 0 0 3)) ∧
    (∀ d : Bool, ∃ v, exec (.addRegImm .al true 1 2 0 0 3) ((counting d).commit (.arm 0xE0912003)) = .next v ∧ v.pmu = (counting d).pmu) ∧
    (∀ d : Bool, let t := (counting d).pmuTick (counting d).pmuEnables 1
      t.pmu.pmn0 = 0 ∧ t.pmu.pmn1 = 0) ∧
    { base with pmu := { base.pmu with pmnc := 0x110 } }.nPmuIrq = false := by
  have h : ∀ d : Bool, (runs (exec (.addRegImm .al true 1 2 0 0 3) ((counting d).commit (.arm 0xE0912003)))
      fun v => decide (v.pmu = (counting d).pmu)) = true := by
    intro d; cases d <;> decide +kernel
  refine ⟨by decide +kernel, by decide +kernel, by decide +kernel, fun d => ⟨?_, .inr ⟨.inl rfl, .inl rfl⟩, fetch_of ?_, .inr rfl, ?_⟩,
    by decide +kernel, fun d => ?_, fun d => ?_, by decide +kernel⟩
  · exact ⟨rfl, rfl, by cases d <;> decide, rfl, rfl, .inl rfl⟩
  · cases d <;> decide +kernel
  · cases d <;> decide +kernel
  · have h := h d
    obtain ⟨v, hv⟩ := next_of_runs h
    rw [hv] at h
    exact ⟨v, hv, of_decide_eq_true h⟩
  · cases d <;> decide +kernel

/-! ### Single steps

The results come from the worked examples of the section files (their rule) and from the vectors of
spec/95_test_vectors.md (their series), worked from the spec's rules and not from this model. -/

/-- A program of one instruction at the pc. -/
def one (s : State) (w : Nat) : State := poke s s.pc.toNat [w]

/-- ENV-N2: the first megabyte of Normal memory with full access, the second for privileged code only. -/
def mapped2 : State := poke (onSecure base fun b => { b with sctlr := 1, ttbr0 := 0x4000, dacr := 1 }) 0x4000 [0x00000C0E, 0x0010040E]

/-- V1: cond = 1111 on a pattern that is not in the unconditional space. -/
theorem test_v1_unconditional_undefined : leads 1 (one base 0xF3A00001) (fun t =>
    [t.regs[29], t.spsr[4], t.cpsr, t.pc, t.regs[0]] == [0x8004, 0x13, 0x9B, 4, 0]) = true := by decide +kernel

/-- V1: no coprocessor access is made where the condition fails. -/
theorem test_v1_failed_condition_reads_no_coprocessor : leads 1 (one (psr base 0x10) 0x0E100F10) (fun t =>
    [t.reg 0, t.cpsr, t.pc] == [0, 0x10, 0x8004]) = true := by decide +kernel

/-- V7a: LDRT of a privileged page by privileged code. -/
theorem test_ldrt_is_checked_as_user : leads 1 (one (setR mapped2 1 0x100000) 0xE4B10004) (fun t =>
    [t.regs[0], t.regs[1], t.regs[27], t.spsr[3], t.cpsr, t.pc, t.cp15.s.dfsr, t.cp15.s.far] ==
      [0, 0x100000, 0x8008, 0x13, 0x197, 0x10, 0xD, 0x100000]) = true := by decide +kernel

/-- V13: E takes the value of SCTLR.EE on an entry. -/
theorem test_v11_entry_clears_e : leads 1 (one (psr base 0x210) 0xEF000000) (fun t =>
    [t.regs[25], t.spsr[2], t.cpsr, t.pc] == [0x8004, 0x210, 0x93, 8]) = true := by decide +kernel

/-- R1670: an undefined instruction in Non-secure User mode, Thumb state. -/
theorem test_r1670_undefined_in_thumb : leads 1 (poke (onCp15 { psr base 0x60000030 with pc := 0x8002 } fun c =>
      { c with scr := 1, ns := { c.ns with vbar := 0x100000 } }) 0x8000 [0xDE000000]) (fun t =>
    [t.regs[29], t.spsr[4], t.cpsr, t.pc, t.cp15.scr] == [0x8004, 0x60000030, 0x6000009B, 0x100004, 1]) = true := by
  decide +kernel

/-- R1671: an FIQ in the Non-secure world that may not mask it. -/
theorem test_r1671_fiq_leaves_f : leads 1 (pin { psr (scr base 1) 0x10 with pc := 0x2000 } .nFIQ false) (fun t =>
    [t.regs[21], t.spsr[0], t.cpsr, t.pc] == [0x2004, 0x10, 0x91, 0x1C]) = true := by decide +kernel

/-- R198: the Main ID Register is common to the worlds. -/
theorem test_r198_main_id : leads 1 (one (scr base 1) 0xEE100F10) (fun t => t.reg 0 == 0x410FB767) = true := by decide +kernel

/-- R198: with CP15SDISABLE HIGH a Secure write of TTBR0 is Undefined. -/
theorem test_r198_cp15sdisable : leads 1 (one (pin (setR base 0 0x4000) .cp15sdisable true) 0xEE020F10) (fun t =>
    [t.cp15.s.ttbr0, t.cp15.ns.ttbr0, t.cpsr, t.pc] == [0, 0, 0x9B, 4]) = true := by decide +kernel

/-- V12: a VA to PA translation of a mapped address. -/
theorem test_v12_va_to_pa : leads 2 (poke (setR mapped2 1 0x12345) 0x8000 [0xEE071F18, 0xEE170F14]) (fun t =>
    [t.reg 0, t.cp15.s.par] == [0x1207C, 0x1207C]) = true := by decide +kernel

/-- V12: a VA to PA translation that faults leaves the status in the PA register and the fault registers alone. -/
theorem test_v12_va_to_pa_fault : leads 2 (poke (poke (setR mapped2 1 0x100000) 0x4004 [0]) 0x8000 [0xEE071F78, 0xEE170F14])
    (fun t => [t.reg 0, t.cp15.s.par, t.cp15.s.dfsr, t.cp15.s.far] == [0xB, 0xB, 0, 0]) = true := by decide +kernel

/-- R711: a write through a large page that is read only. -/
theorem test_r711_permission_fault : leads 1 (one (poke (poke (poke (onSecure (setR (psr base 0x10) 1 0x123454) fun b =>
      { b with sctlr := 1, ttbr0 := 0x4000, dacr := 5 }) 0x4000 [0xC0E]) 0x4004 [0x8021]) 0x808C [0x300AA2]) 0xE5810000)
    (fun t => [t.cp15.s.dfsr, t.cp15.s.far, t.pc] == [0x81F, 0x123454, 0x10]) = true := by decide +kernel

/-- R712: TTBR0 may not be walked. -/
theorem test_r712_walk_disabled : leads 1 (onCp15 { base with pc := 0x80000000 } fun c =>
      { c with scr := 1, ns := { c.ns with sctlr := 1, ttbcr := 0x22, ttbr0 := 0x5000 } }) (fun t =>
    [t.cp15.ns.ifsr, t.cp15.ns.ifar, t.cpsr, t.pc, t.regs[27]] == [5, 0x80000000, 0x97, 0xC, 0x80000004]) = true := by
  decide +kernel

/-- R1786: the Debug Status and Control Register with monitor debug-mode selected. -/
theorem test_r1786_dscr : leads 3 (poke (setR (pin base .dbgen true) 1 0x8000) 0x8000 [0xEE001E11, 0xEE102E11, 0xEE103E17])
    (fun t => [t.reg 2, t.reg 3, t.pc] == [0x8002, 0, 0x800C]) = true := by decide +kernel

/-- R1787: a breakpoint in Monitor debug-mode; SCR.AW, which the example leaves open, is set for A to be masked. -/
theorem test_r1787_breakpoint : leads 1 (onDebug { pin (psr (scr base 0x21) 0xD3) .dbgen true with pc := 0x8010 } fun d =>
      { d with dscr := 0x8002, bvr := d.bvr.set 0 0x8010, bcr := d.bcr.set 0 0x1E7 }) (fun t =>
    [t.cp15.ns.ifsr, t.regs[27], t.spsr[3], t.cpsr, t.pc] == [2, 0x8014, 0xD3, 0x1D7, 0xC]) = true := by decide +kernel

/-- R1840: the TAP identity after a TAP reset. -/
theorem test_r1840_tap_identity : leads 2 (inputs State.reset [.tapReset, .scanDR 5]) (fun t => t.tap.out == 0x07B76F0F) = true := by
  decide +kernel

/-- R1842: the core reads the word the debugger left in the DTR. -/
theorem test_r1842_core_reads_dtr : leads 1 (one (onDebug base fun d => { d with rdtr := 0xCAFE0001, dscr := 0x40000002 }) 0xEE101E15)
    (fun t => [t.reg 1, t.dbg.dscr] == [0xCAFE0001, 2]) = true := by decide +kernel

/-- R1843: a breakpoint stops the core at its address. -/
theorem test_r1843_breakpoint_halts : leads 1 (onDebug { pin base .dbgen true with pc := 0x8010 } fun d =>
      { d with dscr := 0x4002, bvr := d.bvr.set 0 0x8010, bcr := d.bcr.set 0 0x1E7 })
    (fun t => t.activity == .debug && t.dscrValue == 0x4007 && t.pc == 0x8010) = true := by decide +kernel

/-- R350: an MCR restores the PA Register of an aborted translation, FSR[0] in bit [1] among it. -/
theorem test_r350_par_restored : leads 1 (one (setR base 0 0xB) 0xEE070F14) (fun t => t.cp15.s.par == 0xB) = true := by
  decide +kernel

/-- R1908: a Data Synchronization Barrier is on SECMONBUS [22], and the MCR on the instruction interface (R1901). -/
theorem test_r1908_barrier_shown : leads 1 (one base 0xEE070F9A) (fun t =>
    t.secmonBus &&& 0x600000 == 0x400000 && t.trace.valid && t.trace.data && !t.trace.vector) = true := by decide +kernel

/-- R2055: a step that takes an IRQ advances the Cycle Counter by the free number of cycles and counts no instruction. -/
theorem test_r2055_irq_entry_takes_time : leads 1 (pin (counting false) .nIRQ false) (fun t =>
    t.pmu.pmn0 == 0xFFFFFFFF && t.pc == 0x18 && t.freeCtr == 1) = true := by decide +kernel

/-- R483: a started reset counter wraps, stands still with its flag set, and counts again when the flag is cleared. -/
theorem test_r483_validation_counter_waits_for_its_flag :
    let p : Pmu := { resetPmu with pmnc := 1, ccnt := 0xFFFFFFFE }.validation 0 1
    let count (p : Pmu) (n : Nat) : Pmu := ({ base with pmu := p }.pmuCount { cycles := true, events := false } 1 n).pmu
    let q := count p 2
    [(count p 1).ccnt, q.ccnt, q.pmnc, (count q 5).ccnt, (count (q.writeControl 0x401) 5).ccnt] = [0xFFFFFFFF, 0, 0x401, 0, 5] ∧
      [p.started, q.started, (count q 5).started] = [1, 0, 0] := by decide +kernel

/-- R481: with CP15SDISABLE HIGH a write of the Validation Counter is Undefined for Op2 7 and has no effect for Op2 4. -/
theorem test_r481_cp15sdisable_blocks_op2_7 :
    runs (exec (.mcr .al 0 15 0 15 7 12) (pin base .cp15sdisable true)) (fun t => t.pc == 4) = true ∧
      runs (exec (.mcr .al 0 15 0 15 4 12) (pin base .cp15sdisable true)) (fun t => t.pc == 0x8004) = true := by decide +kernel

/-- R466: a data access in the peripheral port region is Device and Non-shared whatever its mapping says, a reserved type among it. -/
theorem test_r466_peripheral_port_over_a_reserved_type :
    let s := poke (onSecure (mapped base) fun b => { b with periph := 0x3 }) 0x4000 [0x00001C06]
    (placeOf s 0x10 .read true).map (fun p => (p.type, p.shared)) = some (.device, false) ∧
      placeOf (onSecure s fun b => { b with periph := 0 }) 0x10 .read true = none := by decide +kernel

/-- R653: with Force AP and XP the Access bit is checked, but for APX:AP = 000 with S and R opposite. -/
theorem test_r653_no_access_bit_with_opposite_s_and_r :
    let s (sr : Word) : State := poke (onSecure (mapped base) fun b => { b with sctlr := 0x20C00001 ||| sr }) 0x4000 [0x00000002]
    [0, 0x100, 0x200, 0x300].map (fun sr => answers (s sr) (request 0x10 true)) =
      [some (.inr 3), some (.inl 0x10), some (.inl 0x10), some (.inr 3)] := by decide +kernel

/-- R1811, R1747: a power-on reset clears the ITR and Ready, a warm one keeps them and the WFAR. -/
theorem test_r1811_reset_of_the_itr :
    let s : State := onDebug { base with tap := { base.tap with itr := 0xE1A00000, ready := true } } fun d => { d with wfar := 0x8008 }
    [(s.applyReset .powerOn).tap.itr, (s.applyReset .warm).tap.itr, (s.applyReset .powerOn).dbg.wfar, (s.applyReset .warm).dbg.wfar] =
        [0, 0xE1A00000, 0, 0x8008] ∧ (s.applyReset .powerOn).tap.ready = false ∧ (s.applyReset .warm).tap.ready = true := by
  decide +kernel

end

end Sys2Proof.Tests
end

/-!
The system control coprocessor: what an MCR, an MRC and an MCRR of CP15 answer, and the statements about them
(11_cp15_overview_id.md R132 to R161).
-/
namespace Sys2Proof.SystemControl

open Sys2Proof Sys2Proof.Machine

/-! ### Undefined -/

theorem run_raiseUndefined {α : Type} {s : State} (hd : s.inDebug = false) :
    (raiseUndefined : M α).run s = .error .taken s.undefinedEntry := by
  simp only [raiseUndefined, raise, run_bind, run_modify, run_throw, hd, Bool.false_eq_true, if_false]
  rfl

theorem run_undefinedIf {s : State} (hd : s.inDebug = false) (b : Bool) :
    (undefinedIf b).run s = if b then .error .taken s.undefinedEntry else .ok () s := by
  cases b
  · rfl
  · exact run_raiseUndefined hd

/-! ### The access class -/

theorem accessClass_user {s : State} (hd : s.inDebug = false) (hm : s.mode = .usr) : s.accessClass = .user := by
  simp [State.accessClass, State.privileged, hd, hm]

theorem accessClass_securePriv {s : State} (hd : s.inDebug = false) (hp : s.privileged = true) (hs : s.secure = true) :
    s.accessClass = .securePriv := by
  simp [State.accessClass, hd, hp, hs]

/-- Outside Debug state the class is privileged where the mode is. -/
theorem accessClass_priv {s : State} (hd : s.inDebug = false) : s.accessClass.priv = s.privileged := by
  cases hp : s.privileged <;> cases hs : s.secure <;> simp [State.accessClass, AccessClass.priv, hd, hp, hs]

/-! ### Running a transfer -/

/-- A transfer that ends in an exception ends there. -/
theorem outcome_then_taken {α : Type} {x : M α} {s t : State} (h : x.run s = .error .taken t) (f : α → M Unit) :
    (x >>= f).outcome s = .next t :=
  outcome_bind_error h f

/-- A transfer that completes is followed by the next instruction. -/
theorem outcome_then_advance {x : M Unit} {s t : State} (h : x.run s = .ok () t) (hd : t.inDebug = false)
    (hn : t.nextInsn = s.nextInsn) : (x >>= fun _ => advance).outcome s = .next (t.goto s.nextInsn) :=
  (outcome_bind_ok h _).trans (outcome_advance hd hn)

theorem exec_mcr {s : State} {c : Cond} (h : s.Passes c) (op1 op2 : BitVec 3) (crn crm rd : BitVec 4) :
    exec (.mcr c op1 crn rd 15 op2 crm) s = (writeCp15 op1 crn crm op2 rd >>= fun _ => advance).outcome s :=
  conditional_passed h.2 _

theorem exec_mrc {s : State} {c : Cond} (h : s.Passes c) (op1 op2 : BitVec 3) (crn crm rd : BitVec 4) :
    exec (.mrc c op1 crn rd 15 op2 crm) s = (readCp15 op1 crn crm op2 >>= fun v =>
      if rd = 15 then setFlags (flagsOfWord v) >>= fun _ => advance else writeReg rd v >>= fun _ => advance).outcome s :=
  conditional_passed h.2 _

theorem exec_mcrr {s : State} {c : Cond} (h : s.Passes c) (op crm rd rn : BitVec 4) :
    exec (.mcrr c rn rd 15 op crm) s = (writeCp15Range op crm rd rn >>= fun _ => advance).outcome s :=
  conditional_passed h.2 _

/-- A write of a register that is not there or may not be written is Undefined. -/
theorem run_writeCp15_undefined {s : State} (hd : s.inDebug = false) {op1 op2 : BitVec 3} {crn crm : BitVec 4}
    (hg : ∀ g, Cp15Reg.select op1 crn crm op2 = some g → g.allowed s s.accessClass true = false) (rd : BitVec 4) :
    (writeCp15 op1 crn crm op2 rd).run s = .error .taken s.undefinedEntry := by
  cases hs : Cp15Reg.select op1 crn crm op2 with
  | none => simp only [writeCp15, run_bind, run_get, hs, run_raiseUndefined hd]
  | some g =>
    simp only [writeCp15, run_bind, run_get, hs, hg g hs, Bool.not_false, Bool.true_or, run_undefinedIf hd, if_true]

/-- A write of a register that may be written has its effect. -/
theorem run_writeCp15 {s : State} (hd : s.inDebug = false) {op1 op2 : BitVec 3} {crn crm rd : BitVec 4} {g : Cp15Reg}
    (hs : Cp15Reg.select op1 crn crm op2 = some g) (ha : g.allowed s s.accessClass true = true)
    (hb : g.pinBlocked s s.accessClass = false) (hrd : rd ≠ 15) :
    (writeCp15 op1 crn crm op2 rd).run s = (cp15Effect s.accessClass g (s.reg rd)).run s := by
  have hr : (rd == 15) = false := beq_eq_false_iff_ne.2 hrd
  simp only [writeCp15, run_bind, run_get, hs, ha, hb, hr, Bool.not_true, Bool.or_self, run_undefinedIf hd,
    run_unpredictableIf, Bool.false_eq_true, if_false]

/-- A read of a register that is not there or may not be read is Undefined. -/
theorem run_readCp15_undefined {s : State} (hd : s.inDebug = false) {op1 op2 : BitVec 3} {crn crm : BitVec 4}
    (hg : ∀ g, Cp15Reg.select op1 crn crm op2 = some g → g.allowed s s.accessClass false = false) :
    (readCp15 op1 crn crm op2).run s = .error .taken s.undefinedEntry := by
  cases hs : Cp15Reg.select op1 crn crm op2 with
  | none => simp only [readCp15, run_bind, run_get, hs, run_raiseUndefined hd]
  | some g => simp only [readCp15, run_bind, run_get, hs, hg g hs, Bool.not_false, run_undefinedIf hd, if_true]

theorem run_readCp15 {s : State} (hd : s.inDebug = false) {op1 op2 : BitVec 3} {crn crm : BitVec 4} {g : Cp15Reg}
    (hs : Cp15Reg.select op1 crn crm op2 = some g) (ha : g.allowed s s.accessClass false = true) :
    (readCp15 op1 crn crm op2).run s = .ok (s.cp15Value s.accessClass g) s := by
  simp [readCp15, hs, ha, run_undefinedIf hd]

theorem exec_mcr_undefined {s : State} {c : Cond} (h : s.Passes c) {op1 op2 : BitVec 3} {crn crm : BitVec 4}
    (hg : ∀ g, Cp15Reg.select op1 crn crm op2 = some g → g.allowed s s.accessClass true = false) (rd : BitVec 4) :
    exec (.mcr c op1 crn rd 15 op2 crm) s = .next s.undefinedEntry := by
  rw [exec_mcr h]
  exact outcome_then_taken (run_writeCp15_undefined h.1 hg rd) _

theorem exec_mrc_undefined {s : State} {c : Cond} (h : s.Passes c) {op1 op2 : BitVec 3} {crn crm : BitVec 4}
    (hg : ∀ g, Cp15Reg.select op1 crn crm op2 = some g → g.allowed s s.accessClass false = false) (rd : BitVec 4) :
    exec (.mrc c op1 crn rd 15 op2 crm) s = .next s.undefinedEntry := by
  rw [exec_mrc h]
  exact outcome_then_taken (run_readCp15_undefined h.1 hg) _

/-- An MCR of a register that may be written has its effect, and the next instruction follows. -/
theorem exec_mcr_allowed {s t : State} {c : Cond} (h : s.Passes c) {op1 op2 : BitVec 3} {crn crm rd : BitVec 4} {g : Cp15Reg}
    (hs : Cp15Reg.select op1 crn crm op2 = some g) (ha : g.allowed s s.accessClass true = true)
    (hb : g.pinBlocked s s.accessClass = false) (hrd : rd ≠ 15)
    (he : (cp15Effect s.accessClass g (s.reg rd)).run s = .ok () t) (hd : t.inDebug = false)
    (hn : t.nextInsn = s.nextInsn) :
    exec (.mcr c op1 crn rd 15 op2 crm) s = .next (t.goto s.nextInsn) := by
  rw [exec_mcr h]
  exact outcome_then_advance ((run_writeCp15 h.1 hs ha hb hrd).trans he) hd hn

/-- An MRC of a register that may be read writes its value to a general register. -/
theorem exec_mrc_reg {s : State} {c : Cond} (h : s.Passes c) {op1 op2 : BitVec 3} {crn crm rd : BitVec 4} {g : Cp15Reg}
    (hs : Cp15Reg.select op1 crn crm op2 = some g) (ha : g.allowed s s.accessClass false = true) (hrd : rd ≠ 15) :
    exec (.mrc c op1 crn rd 15 op2 crm) s = .next ((s.setReg rd (s.cp15Value s.accessClass g)).goto s.nextInsn) := by
  rw [exec_mrc h, outcome_bind_ok (run_readCp15 h.1 hs ha), if_neg hrd]
  exact outcome_then_advance (run_writeReg _ _ _) h.1 rfl

/-- An MRC to R15 writes the top bits of the value to the flags. -/
theorem exec_mrc_flags {s : State} {c : Cond} (h : s.Passes c) {op1 op2 : BitVec 3} {crn crm : BitVec 4} {g : Cp15Reg}
    (hs : Cp15Reg.select op1 crn crm op2 = some g) (ha : g.allowed s s.accessClass false = true) :
    exec (.mrc c op1 crn 15 15 op2 crm) s =
      .next ((s.setNzcv (flagsOfWord (s.cp15Value s.accessClass g))).goto s.nextInsn) := by
  rw [exec_mrc h, outcome_bind_ok (run_readCp15 h.1 hs ha), if_pos rfl]
  exact outcome_then_advance (run_setFlags _ _) h.1 (State.setNzcv_nextInsn _ _)

/-! ### Registers that hold what is written -/

/-- The state with the CP15 registers replaced. -/
def withCp15 (s : State) (k : Cp15) : State := { s with cp15 := k }

/-- A row is the register `g`: its encoding selects it, a Secure privileged access may read and write it, a write of it is the
row's with the bits the row has, and what the row wrote is read back with the bits `ones`. -/
structure Describes (r : Cp15Row) (g : Cp15Reg) (ones : Word) : Prop where
  select  : Cp15Reg.select r.op1 r.crn r.crm r.op2 = some g
  allowed : ∀ s w, g.allowed s .securePriv w = true
  effect  : ∀ s v, (cp15Effect .securePriv g v).run s = .ok () (withCp15 s (r.write s.scrNs s.cp15 (v &&& r.mask)))
  value   : ∀ (s : State) (k : Cp15) (v : Word), k.scr = s.cp15.scr →
    (withCp15 s (r.write s.scrNs k (v &&& r.mask))).cp15Value .securePriv g = v &&& r.mask ||| ones
  scr     : ∀ ns k v, (r.write ns k v).scr = k.scr

theorem pinBlocked_low {s : State} (h : s.pins.cp15sdisable = false) (c : AccessClass) (g : Cp15Reg) :
    g.pinBlocked s c = false := by
  simp only [Cp15Reg.pinBlocked, h, Bool.false_and]

/-- Registers that keep SCR keep the world. -/
theorem withCp15_secure {s : State} {k : Cp15} (h : k.scr = s.cp15.scr) : (withCp15 s k).secure = s.secure := by
  show (s.mode == .mon || !k.scr.getLsbD 0) = (s.mode == .mon || !s.cp15.scr.getLsbD 0)
  rw [h]

/-- A row that is a register holds what is written to it. -/
theorem holdsWritten_of_describes {r : Cp15Row} {g : Cp15Reg} {ones : Word} (hr : Describes r g ones) {s : State} {c : Cond}
    (h : s.Passes c) (hs : s.secure = true) (hp : s.privileged = true) (hpin : s.pins.cp15sdisable = false)
    {rd rn : BitVec 4} (hrd : rd ≠ 15) (hrn : rn ≠ 15) : s.HoldsWritten c rd rn r ones := by
  let t := withCp15 s (r.write s.scrNs s.cp15 (s.reg rd &&& r.mask))
  have hcs : s.accessClass = .securePriv := accessClass_securePriv h.1 hp hs
  have hct : t.accessClass = .securePriv :=
    accessClass_securePriv h.1 hp ((withCp15_secure (hr.scr _ _ _)).trans hs)
  have hv : t.cp15Value t.accessClass g = s.reg rd &&& r.mask ||| ones := by
    rw [hct]
    exact hr.value s s.cp15 (s.reg rd) rfl
  have ha : ∀ w, g.allowed t t.accessClass w = true := by
    rw [hct]
    exact hr.allowed t
  refine ⟨?_, ?_, ?_⟩
  · refine exec_mcr_allowed (t := t) h hr.select ?_ (pinBlocked_low hpin _ _) hrd ?_ h.1 rfl
    · rw [hcs]
      exact hr.allowed s true
    · rw [hcs]
      exact hr.effect s (s.reg rd)
  · rw [← hv]
    exact exec_mrc_reg (s := t) h hr.select (ha false) hrn
  · rw [← hv]
    exact exec_mrc_flags (s := t) h hr.select (ha false)

theorem setBank_scr (k : Cp15) (ns : Bool) (b : Banked) : (k.setBank ns b).scr = k.scr := by cases ns <;> rfl

theorem setBank_bank (k : Cp15) (ns : Bool) (b : Banked) : (k.setBank ns b).bank ns = b := by cases ns <;> rfl

theorem and_all (v : Word) : v &&& 0xFFFFFFFF = v := BitVec.and_allOnes

/-- The register `g` stands at its encoding, and a Secure privileged access may read and write it. -/
structure Reached (op1 : BitVec 3) (crn crm : BitVec 4) (op2 : BitVec 3) (g : Cp15Reg) : Prop where
  select  : Cp15Reg.select op1 crn crm op2 = some g
  allowed : ∀ s w, g.allowed s .securePriv w = true

/-- A register of two copies, from its field in a copy. -/
theorem describes_banked {op1 op2 : BitVec 3} {crn crm : BitVec 4} {mask : Word} {f : Banked → Word → Banked} {g : Cp15Reg}
    (field : Banked → Word) (reached : Reached op1 crn crm op2 g := by exact ⟨rfl, fun _ _ => rfl⟩)
    (effect : ∀ s v, (cp15Effect .securePriv g v).run s = .ok () (s.updateBank fun b => f b (v &&& mask)) := by intros; rfl)
    (value : ∀ s : State, s.cp15Value .securePriv g = field (s.cp15.bank s.copyNs) := by intros; rfl)
    (reads : ∀ b v, field (f b v) = v := by intros; rfl) : Describes ⟨op1, crn, crm, op2, mask, inBank f⟩ g 0 where
  select := reached.select
  allowed := reached.allowed
  effect := effect
  value s k v h := by
    have hns : (withCp15 s (inBank f s.scrNs k (v &&& mask))).copyNs = s.scrNs := by
      show (Cp15.setBank _ _ _).scr.getLsbD 0 = s.cp15.scr.getLsbD 0
      rw [setBank_scr, h]
    rw [value, hns]
    show field ((Cp15.setBank k s.scrNs (f _ _)).bank s.scrNs) = v &&& mask ||| 0#32
    rw [setBank_bank, reads, BitVec.or_zero]
  scr ns k v := setBank_scr k ns _

/-- A register of two copies that has all its bits. -/
theorem describes_bankedWord {op1 op2 : BitVec 3} {crn crm : BitVec 4} {f : Banked → Word → Banked} {g : Cp15Reg}
    (field : Banked → Word) (reached : Reached op1 crn crm op2 g := by exact ⟨rfl, fun _ _ => rfl⟩)
    (effect : ∀ s v, (cp15Effect .securePriv g v).run s = .ok () (s.updateBank fun b => f b v) := by intros; rfl)
    (value : ∀ s : State, s.cp15Value .securePriv g = field (s.cp15.bank s.copyNs) := by intros; rfl)
    (reads : ∀ b v, field (f b v) = v := by intros; rfl) :
    Describes ⟨op1, crn, crm, op2, 0xFFFFFFFF, inBank f⟩ g 0 := by
  refine describes_banked field reached (fun s v => ?_) value reads
  rw [effect, and_all]

/-- A register of one copy, from its field. -/
theorem describes_common {op1 op2 : BitVec 3} {crn crm : BitVec 4} {mask : Word} {f : Cp15 → Word → Cp15} {g : Cp15Reg}
    (field : Cp15 → Word) (reached : Reached op1 crn crm op2 g := by exact ⟨rfl, fun _ _ => rfl⟩)
    (effect : ∀ s v, (cp15Effect .securePriv g v).run s = .ok () (s.updateCp15 fun k => f k (v &&& mask)) := by intros; rfl)
    (value : ∀ s : State, s.cp15Value .securePriv g = field s.cp15 := by intros; rfl)
    (reads : ∀ k v, field (f k v) = v := by intros; rfl) (scr : ∀ k v, (f k v).scr = k.scr := by intros; rfl) :
    Describes ⟨op1, crn, crm, op2, mask, fun _ k v => f k v⟩ g 0 where
  select := reached.select
  allowed := reached.allowed
  effect := effect
  value s k v _ := by
    rw [value]
    show field (f k _) = v &&& mask ||| 0#32
    rw [reads, BitVec.or_zero]
  scr _ := scr

theorem bankedRows_describe : ∀ r ∈ bankedRows, ∃ g, Describes r g 0 := by
  simp only [bankedRows, List.forall_mem_cons]
  exact ⟨⟨.ttbr0, describes_banked (·.ttbr0)⟩, ⟨.ttbr1, describes_banked (·.ttbr1)⟩, ⟨.ttbcr, describes_banked (·.ttbcr)⟩,
    ⟨.dacr, describes_bankedWord (·.dacr)⟩, ⟨.dfsr, describes_banked (·.dfsr)⟩, ⟨.ifsr, describes_banked (·.ifsr)⟩,
    ⟨.far, describes_bankedWord (·.far)⟩, ⟨.ifar, describes_bankedWord (·.ifar)⟩, ⟨.prrr, describes_banked (·.prrr)⟩,
    ⟨.nmrr, describes_bankedWord (·.nmrr)⟩, ⟨.vbar, describes_banked (·.vbar)⟩, ⟨.fcse, describes_banked (·.fcse)⟩,
    ⟨.contextId, describes_bankedWord (·.contextId)⟩, ⟨.tidUrw, describes_bankedWord (·.tidUrw)⟩,
    ⟨.tidUro, describes_bankedWord (·.tidUro)⟩, ⟨.tidPriv, describes_bankedWord (·.tidPriv)⟩,
    ⟨.periph, describes_banked (·.periph)⟩, fun _ h => nomatch h⟩

theorem secureRows_describe : ∀ r ∈ secureRows, ∃ g, Describes r g 0 := by
  simp only [secureRows, List.forall_mem_cons]
  exact ⟨⟨.actlr, describes_common (·.actlr)⟩, ⟨.sder, describes_common (·.sder)⟩, ⟨.nsacr, describes_common (·.nsacr)⟩,
    ⟨.mvbar, describes_common (·.mvbar)⟩, fun _ h => nomatch h⟩

/-- A Secure write of the Control Register writes the bits of one copy and those common to both worlds. -/
theorem run_effect_sctlr (s : State) (v : Word) : (cp15Effect .securePriv .sctlr v).run s =
    .ok () (withCp15 s (controlRow.write s.scrNs s.cp15 (v &&& controlRow.mask))) := by
  have hb : v &&& 0x33E0FB87 &&& 0x33C03B07 = v &&& 0x33C03B07 := BitVec.and_assoc ..
  have hc : v &&& 0x33E0FB87 &&& 0x0020C080 = v &&& 0x0020C080 := BitVec.and_assoc ..
  simp only [controlRow, hb, hc]
  rfl

/-- The bits of the Control Register that were written, and those that read as 1, are what it reads as. -/
theorem sctlr_written (k : Cp15) (ns : Bool) (v : Word) :
    (controlRow.write ns k (v &&& controlRow.mask)).sctlr ns = v &&& controlRow.mask ||| 0x00050078 := by
  have h : (v &&& 0x33E0FB87 &&& 0x33C03B07) ||| (v &&& 0x33E0FB87 &&& 0x0020C080) = v &&& 0x33E0FB87 := by
    rw [← BitVec.and_or_distrib_left, BitVec.and_assoc]
    rfl
  cases ns <;> exact congrArg (· ||| 0x00050078) h

theorem controlRow_describes : Describes controlRow .sctlr 0x00050078 where
  select := rfl
  allowed _ _ := rfl
  effect := run_effect_sctlr
  value s k v h := by
    have hk : (controlRow.write s.scrNs k (v &&& controlRow.mask)).scr = s.cp15.scr := (setBank_scr k _ _).trans h
    have hns : (withCp15 s (controlRow.write s.scrNs k (v &&& controlRow.mask))).copyNs = s.scrNs :=
      congrArg (·.getLsbD 0) hk
    show Cp15.sctlr _ (State.copyNs _) = _
    rw [hns]
    exact sctlr_written k _ v
  scr ns k _ := setBank_scr k ns _

/-! ### The control registers -/

/-- No coprocessor exists, so the Coprocessor Access Control Register keeps its value (12_cp15_control.md R240). -/
theorem run_effect_cpacr (s : State) (v : Word) : (cp15Effect .securePriv .cpacr v).run s = .ok () s := by
  have h : merge s.cp15.cpacr v (cpacrMask &&& 0xFFFFFFFF) = s.cp15.cpacr := by
    show (s.cp15.cpacr &&& 0xFFFFFFFF) ||| (v &&& 0#32) = s.cp15.cpacr
    rw [and_all, BitVec.and_zero, BitVec.or_zero]
  show EStateM.Result.ok () (s.updateCp15 fun k => { k with cpacr := merge k.cpacr v (cpacrMask &&& 0xFFFFFFFF) }) = _
  simp only [State.updateCp15, h]

/-- Settles O47: each row is a register of the map, and a row that is one holds what is written to it. -/
theorem cp15RegistersHoldWhatIsWritten : Obligations.Cp15RegistersHoldWhatIsWritten := by
  intro s c rd rn h hs hp hpin hrd hrn
  have hc : s.accessClass = .securePriv := accessClass_securePriv h.1 hp hs
  have hallowed : ∀ g ∈ [Cp15Reg.scr, .cpacr], ∀ w, g.allowed s s.accessClass w = true := by
    rw [hc]
    simp [Cp15Reg.allowed, AccessClass.priv]
  have hread : ∀ g ∈ [Cp15Reg.scr, .cpacr], ∀ op2 crm, Cp15Reg.select 0 1 crm op2 = some g →
      exec (.mrc c 0 1 rn 15 op2 crm) s = .next ((s.setReg rn (s.cp15Value .securePriv g)).goto s.nextInsn) := by
    intro g hg op2 crm hsel
    rw [exec_mrc_reg h hsel (hallowed g hg _) hrn, hc]
  refine ⟨fun r hr => ?_, holdsWritten_of_describes controlRow_describes h hs hp hpin hrd hrn, ?_, ?_, ?_, ?_⟩
  · have hd : ∃ g, Describes r g 0 := (List.mem_append.1 hr).elim (bankedRows_describe r) (secureRows_describe r)
    obtain ⟨g, hg⟩ := hd
    exact holdsWritten_of_describes hg h hs hp hpin hrd hrn
  · exact exec_mcr_allowed (g := .scr) h rfl (hallowed _ (by simp) _) (pinBlocked_low hpin _ _) hrd (by rw [hc]; rfl) h.1 rfl
  · exact hread .scr (by simp) _ _ rfl
  · exact exec_mcr_allowed (g := .cpacr) h rfl (hallowed _ (by simp) _) (pinBlocked_low hpin _ _) hrd
      (by rw [hc]; exact run_effect_cpacr s _) h.1 rfl
  · exact hread .cpacr (by simp) _ _ rfl

/-! ### User access -/

/-- What User code may always read or write, and the Opcode_1, CRn, CRm and Opcode_2 that select it. -/
def userPlace : Cp15Reg → Option (BitVec 3 × Nat × Nat × Nat)
  | .flushPrefetch => some (0, 7, 5, 4)
  | .dataSyncBarrier => some (0, 7, 10, 4)
  | .dataMemBarrier => some (0, 7, 10, 5)
  | .tidUrw => some (0, 13, 0, 2)
  | .tidUro => some (0, 13, 0, 3)
  | _ => none

/-- With no access granted, User code may write the barriers, read one Thread ID register, and do both to the other. -/
theorem allowed_user {s : State} (hd : s.inDebug = false) (hv : s.cp15.valV = false) (hu : s.dma.user = 0) {w : Bool}
    {g : Cp15Reg} (h : g.allowed s .user w = true) :
    g = .tidUrw ∨ (w = false ∧ g = .tidUro) ∨
      (w = true ∧ (g = .flushPrefetch ∨ g = .dataSyncBarrier ∨ g = .dataMemBarrier)) := by
  have hdma : s.dmaUserOk = false := by simp [State.dmaUserOk, Dma.userBit, hu]
  cases g with
  | tidUrw => exact .inl rfl
  | tidUro => exact .inr (.inl ⟨by simpa [Cp15Reg.allowed, AccessClass.priv] using h, rfl⟩)
  | flushPrefetch => exact .inr (.inr ⟨h, .inl rfl⟩)
  | dataSyncBarrier => exact .inr (.inr ⟨h, .inr (.inl rfl)⟩)
  | dataMemBarrier => exact .inr (.inr ⟨h, .inr (.inr rfl)⟩)
  | _ => simp [Cp15Reg.allowed, AccessClass.priv, hd, hv, hu, hdma] at h

/-- If User code may use the register selected, it is selected at its own place. -/
def AtUserPlace (op1 : BitVec 3) (n m k : Nat) (o : Option Cp15Reg) : Prop :=
  ∀ p, o.bind userPlace = some p → (op1, n, m, k) = p

theorem atUserPlace_of_none {op1 : BitVec 3} {n m k : Nat} {o : Option Cp15Reg} (h : o.bind userPlace = none) :
    AtUserPlace op1 n m k o := by
  intro p hp
  rw [h] at hp
  cases hp

theorem atUserPlace_ite {op1 : BitVec 3} {n m k : Nat} {p : Prop} [Decidable p] {x y : Option Cp15Reg}
    (hx : p → AtUserPlace op1 n m k x) (hy : ¬ p → AtUserPlace op1 n m k y) :
    AtUserPlace op1 n m k (if p then x else y) := by
  split
  · next h => exact hx h
  · next h => exact hy h

theorem cp15C0_userPlace (m k : Nat) : (cp15C0 m k).bind userPlace = none := by
  unfold cp15C0
  repeat' split
  all_goals rfl

theorem cp15C1_userPlace (m k : Nat) : (cp15C1 m k).bind userPlace = none := by
  unfold cp15C1
  split <;> rfl

theorem cp15C2_userPlace (m k : Nat) : (cp15C2 m k).bind userPlace = none := by
  unfold cp15C2
  split <;> rfl

theorem cp15C356_userPlace (n m k : Nat) : (cp15C356 n m k).bind userPlace = none := by
  unfold cp15C356
  split <;> rfl

theorem cp15C7_atUserPlace (m k : Nat) : AtUserPlace 0 7 m k (cp15C7 m k) := by
  unfold cp15C7
  intro p h
  split at h <;> cases h <;> rfl

theorem cp15C8_userPlace (m k : Nat) : (cp15C8 m k).bind userPlace = none := by
  unfold cp15C8
  repeat' split
  all_goals rfl

theorem cp15C9_userPlace (m k : Nat) : (cp15C9 m k).bind userPlace = none := by
  unfold cp15C9
  split <;> rfl

theorem cp15C10_userPlace (m k : Nat) : (cp15C10 m k).bind userPlace = none := by
  unfold cp15C10
  split <;> rfl

theorem cp15C11_userPlace (m k : Nat) : (cp15C11 m k).bind userPlace = none := by
  unfold cp15C11
  repeat' split
  all_goals rfl

theorem cp15C1213_atUserPlace (n m k : Nat) : AtUserPlace 0 n m k (cp15C1213 n m k) := by
  unfold cp15C1213
  intro p h
  split at h <;> cases h <;> rfl

theorem cp15C15_userPlace (m k : Nat) : (cp15C15 m k).bind userPlace = none := by
  unfold cp15C15
  split <;> rfl

theorem cp15C15High_userPlace (op1 m : Nat) (op2 : BitVec 3) : (cp15C15High op1 m op2).bind userPlace = none := by
  unfold cp15C15High
  repeat' split
  all_goals rfl

/-- A register that User code may use is selected at its own place. -/
theorem select_atUserPlace (op1 op2 : BitVec 3) (crn crm : BitVec 4) :
    AtUserPlace op1 crn.toNat crm.toNat op2.toNat (Cp15Reg.select op1 crn crm op2) :=
  atUserPlace_ite (fun _ => atUserPlace_of_none rfl) fun _ =>
  atUserPlace_ite (fun _ => atUserPlace_of_none (cp15C15High_userPlace _ _ _)) fun _ =>
  atUserPlace_ite (fun _ => atUserPlace_of_none rfl) fun h1 =>
  have h1 : op1 = 0 := Decidable.not_not.1 h1
  atUserPlace_ite (fun _ => atUserPlace_of_none (cp15C0_userPlace _ _)) fun _ =>
  atUserPlace_ite (fun _ => atUserPlace_of_none (cp15C1_userPlace _ _)) fun _ =>
  atUserPlace_ite (fun _ => atUserPlace_of_none (cp15C2_userPlace _ _)) fun _ =>
  atUserPlace_ite (fun h => by rw [h1, h]; exact cp15C7_atUserPlace _ _) fun _ =>
  atUserPlace_ite (fun _ => atUserPlace_of_none (cp15C8_userPlace _ _)) fun _ =>
  atUserPlace_ite (fun _ => atUserPlace_of_none (cp15C9_userPlace _ _)) fun _ =>
  atUserPlace_ite (fun _ => atUserPlace_of_none (cp15C10_userPlace _ _)) fun _ =>
  atUserPlace_ite (fun _ => atUserPlace_of_none (cp15C11_userPlace _ _)) fun _ =>
  atUserPlace_ite (fun _ => atUserPlace_of_none (cp15C15_userPlace _ _)) fun _ =>
  atUserPlace_ite (fun _ => by rw [h1]; exact cp15C1213_atUserPlace _ _ _) fun _ =>
  atUserPlace_of_none (cp15C356_userPlace _ _ _)

/-- The encoding of a register that User code may use. -/
theorem encoding_of_select {op1 op2 a : BitVec 3} {crn crm : BitVec 4} {g : Cp15Reg} {n m k : Nat}
    (h : Cp15Reg.select op1 crn crm op2 = some g) (hp : userPlace g = some (a, n, m, k)) :
    (op1, crn, crm, op2) = (a, BitVec.ofNat 4 n, BitVec.ofNat 4 m, BitVec.ofNat 3 k) := by
  have he := select_atUserPlace op1 op2 crn crm (a, n, m, k) (by rw [h]; exact hp)
  simp only [Prod.mk.injEq] at he
  obtain ⟨rfl, rfl, rfl, rfl⟩ := he
  simp only [BitVec.ofNat_toNat, BitVec.setWidth_eq]

/-- Settles O48: what User code may use is selected by the encodings named alone. -/
theorem userAccessToCp15IsUndefined : Obligations.UserAccessToCp15IsUndefined := by
  intro s c op1 op2 crn crm rd h hm hv hu
  have hc : s.accessClass = .user := accessClass_user h.1 hm
  refine ⟨fun hne => exec_mrc_undefined h (fun g hg => ?_) rd, fun hne => exec_mcr_undefined h (fun g hg => ?_) rd⟩
  · rw [hc, ← Bool.not_eq_true]
    intro ha
    refine hne ?_
    obtain rfl | ⟨_, rfl⟩ | ⟨hw, _⟩ := allowed_user h.1 hv hu ha
    · simp [encoding_of_select hg rfl]
    · simp [encoding_of_select hg rfl]
    · cases hw
  · rw [hc, ← Bool.not_eq_true]
    intro ha
    refine hne ?_
    obtain rfl | ⟨hw, _⟩ | ⟨_, rfl | rfl | rfl⟩ := allowed_user h.1 hv hu ha
    · simp [encoding_of_select hg rfl]
    · cases hw
    all_goals simp [encoding_of_select hg rfl]

/-! ### Range operations -/

/-- May an MCRR of these fields be made (12_cp15_control.md R237, 13_cp15_cache_tlb.md R343)? -/
def MayRange (s : State) (op crm : BitVec 4) : Prop :=
  op = 0 ∧ s.cp15.actlr.getLsbD 5 = false ∧ (crm = 12 ∨ (s.privileged = true ∧ (crm = 5 ∨ crm = 6 ∨ crm = 14)))

theorem not_mayRange_iff {s : State} {op crm : BitVec 4} : ¬ MayRange s op crm ↔
    op ≠ 0 ∨ s.cp15.actlr.getLsbD 5 = true ∨
      (crm ≠ 12 ∧ (s.privileged = false ∨ (crm ≠ 5 ∧ crm ≠ 6 ∧ crm ≠ 14))) := by
  simp only [MayRange, Classical.not_and_iff_not_or_not, not_or, Bool.not_eq_false, Bool.not_eq_true, ne_eq]

/-- The test that makes an MCRR Undefined: the fields c5, c6 and c14 need a privileged mode, c12 none. -/
theorem rangeTest_iff {s : State} (hd : s.inDebug = false) (op crm : BitVec 4) :
    (op != 0 || s.cp15.actlr.getLsbD 5 ||
      !(if crm = 5 then s.accessClass.priv || s.inDebug else if crm = 12 then true
        else (crm == 6 || crm == 14) && s.accessClass.priv)) = true ↔ ¬ MayRange s op crm := by
  rw [accessClass_priv hd, hd, Bool.or_false, not_mayRange_iff, Bool.or_eq_true, Bool.or_eq_true, or_assoc, bne_iff_ne]
  refine or_congr_right (or_congr_right ?_)
  split
  · next h5 => simp [h5]
  · next h5 =>
    split
    · next h12 => simp [h12]
    · next h12 =>
      simp only [Bool.not_eq_true', Bool.and_eq_false_iff, Bool.or_eq_false_iff, beq_eq_false_iff_ne, ne_eq, h5, h12,
        not_false_eq_true, true_and]
      exact or_comm

theorem run_writeCp15Range_undefined {s : State} (hd : s.inDebug = false) {op crm : BitVec 4} (h : ¬ MayRange s op crm)
    (rd rn : BitVec 4) : (writeCp15Range op crm rd rn).run s = .error .taken s.undefinedEntry := by
  simp only [writeCp15Range, run_bind, run_get, run_undefinedIf hd, (rangeTest_iff hd op crm).2 h, if_true]

theorem run_writeCp15Range {s : State} (hd : s.inDebug = false) {op crm rd rn : BitVec 4} (h : MayRange s op crm)
    (hrd : rd ≠ 15) (hrn : rn ≠ 15) :
    (writeCp15Range op crm rd rn).run s = (cacheRange (crm == 5) (s.reg rn) (s.reg rd)).run s := by
  have ht := mt (rangeTest_iff hd op crm).1 (not_not_intro h)
  have hr : (rd == 15 || rn == 15) = false := by rw [beq_eq_false_iff_ne.2 hrd, beq_eq_false_iff_ne.2 hrn, Bool.or_false]
  simp only [writeCp15Range, run_bind, run_get, run_undefinedIf hd, ht, run_unpredictableIf, hr, Bool.false_eq_true, if_false]

/-- With the MMU off a range operation does nothing. -/
theorem run_cacheRange_off {s : State} (h : s.sctlr.getLsbD 0 = false) (instr : Bool) (a b : Word) :
    (cacheRange instr a b).run s = .ok () s := by
  simp only [cacheRange, run_bind, run_get, h, Bool.not_false, Bool.or_true, if_true, run_pure]

/-! ### Standby -/

/-- With no wake-up event, Wait For Interrupt leaves the core in Standby. -/
theorem run_effect_waitForInterrupt {s : State} (hd : s.inDebug = false) (hw : s.wakeUp = false) (c : AccessClass) (v : Word) :
    (cp15Effect c .waitForInterrupt v).run s = .ok () { s with activity := .standby } := by
  show EStateM.Result.ok () s.waitForInterrupt = _
  simp only [State.waitForInterrupt, hd, hw, Bool.or_self, Bool.false_eq_true, if_false]

/-- The core's step in Standby, with no event from outside and no DMA running. -/
theorem step_standby {s : State} (ha : s.agenda = []) (hdma : s.dma.ch0.state ≠ .running ∧ s.dma.ch1.state ≠ .running)
    (hs : s.activity = .standby) :
    step s = if s.wakeUp then { s with activity := .running }.boundary else .next (s.idleStep s.pmuEnables) := by
  simp only [step, State.stepOne, ha, State.event, dmaOutcome_idle hdma, State.coreStep, hs]

/-- Settles O49: a range operation is one that may be made or is Undefined; Wait For Interrupt enters Standby, and a step there
is the core's alone. -/
theorem rangeOperationsAndStandby : Obligations.RangeOperationsAndStandby := by
  intro s c op crm rd rn h
  refine ⟨fun hop hrv hcrm hrd hrn hoff => ?_, fun hno => ?_, fun hp hrd hw => ?_, fun ha h0 h1 hs => ?_⟩
  · rw [exec_mcrr h]
    refine outcome_then_advance ?_ h.1 rfl
    rw [run_writeCp15Range h.1 ⟨hop, hrv, hcrm⟩ hrd hrn, run_cacheRange_off hoff]
  · rw [exec_mcrr h]
    exact outcome_then_taken (run_writeCp15Range_undefined h.1 (not_mayRange_iff.2 hno) rd rn) _
  · have hallowed : Cp15Reg.allowed s s.accessClass true .waitForInterrupt = true := by
      simp [Cp15Reg.allowed, accessClass_priv h.1, hp]
    have hpin : Cp15Reg.pinBlocked s s.accessClass .waitForInterrupt = false := Bool.and_false _
    exact exec_mcr_allowed h rfl hallowed hpin hrd (run_effect_waitForInterrupt h.1 hw _ _) rfl rfl
  · exact step_standby ha ⟨h0, h1⟩ hs

end Sys2Proof.SystemControl

/-!
The output pins outside reset are functions of the state as it is.
-/
namespace Sys2Proof.OutputPins

open Sys2Proof.Machine

/-- Outside reset the pins show the state itself. -/
theorem shown_eq_self {s : State} (h : ∀ k, s.activity ≠ .heldInReset k) : s.shown = s := by
  unfold State.shown
  split
  · next k hk => exact absurd hk (h k)
  · rfl

end Sys2Proof.OutputPins

/-!
The performance counters: what a tick shows with no counter used for validation, and the step of the core that runs one
instruction (14_cp15_dma_misc.md R472 to R478).
-/
namespace Sys2Proof.PerformanceCounters

open Sys2Proof Sys2Proof.Machine Sys2Proof.OutputPins

theorem getLsbD_of_eq_zero {w : Nat} {v : BitVec w} (h : v = 0) (k : Nat) : v.getLsbD k = false := by
  rw [h]
  exact BitVec.getLsbD_zero

/-! ### Overflow flags -/

@[simp] theorem flag_ccnt (p : Pmu) (k : Nat) (o : Bool) : (p.flag k o).ccnt = p.ccnt := rfl
@[simp] theorem flag_divider (p : Pmu) (k : Nat) (o : Bool) : (p.flag k o).divider = p.divider := rfl
@[simp] theorem flag_pmn0 (p : Pmu) (k : Nat) (o : Bool) : (p.flag k o).pmn0 = p.pmn0 := rfl
@[simp] theorem flag_pmn1 (p : Pmu) (k : Nat) (o : Bool) : (p.flag k o).pmn1 = p.pmn1 := rfl

/-- An overflow sets its flag and leaves the rest of the PMNC. -/
theorem flag_getLsbD (p : Pmu) {k : Nat} (hk : k < 32) (o : Bool) (j : Nat) :
    (p.flag k o).pmnc.getLsbD j = if j = k then p.pmnc.getLsbD j || o else p.pmnc.getLsbD j := by
  cases o with
  | false => simp [Pmu.flag]
  | true => simp [Pmu.flag, setBit_getLsbD _ _ _ _ hk]

/-! ### The Cycle Counter -/

/-- A count of cycles changes the Cycle Counter and the bits below it. -/
theorem countCycles_frame (p : Pmu) (n : Nat) :
    (p.countCycles n).1 = { p with ccnt := (p.countCycles n).1.ccnt, divider := (p.countCycles n).1.divider } := by
  unfold Pmu.countCycles; split <;> rfl

@[simp] theorem countCycles_pmnc (p : Pmu) (n : Nat) : (p.countCycles n).1.pmnc = p.pmnc := by
  rw [countCycles_frame]

/-- Without PMNC.D the Cycle Counter counts every cycle. -/
theorem countCycles_every {p : Pmu} (h : p.pmnc.getLsbD 3 = false) (n : Nat) :
    p.countCycles n = ({ p with ccnt := p.ccnt + BitVec.ofNat 32 n }, decide (2 ^ 32 ≤ p.ccnt.toNat + n)) := by
  simp only [Pmu.countCycles, h, countBy, Bool.false_eq_true, if_false]

/-- The counter with the six bits below it, as a number. -/
theorem toNat_ccnt_divider (p : Pmu) : (p.ccnt ++ p.divider).toNat = 64 * p.ccnt.toNat + p.divider.toNat := by
  have h := p.divider.isLt
  rw [BitVec.toNat_append, ← Nat.shiftLeft_add_eq_or_of_lt h, Nat.shiftLeft_eq]
  omega

/-- With PMNC.D the Cycle Counter is the part above the low six bits of a count of every cycle. -/
theorem countCycles_divided {p : Pmu} (h : p.pmnc.getLsbD 3 = true) (n : Nat) :
    (p.countCycles n).1.ccnt.toNat = (64 * p.ccnt.toNat + p.divider.toNat + n) / 64 % 2 ^ 32 ∧
      (p.countCycles n).1.divider.toNat = (p.divider.toNat + n) % 64 ∧
      (p.countCycles n).2 = decide (2 ^ 32 ≤ (64 * p.ccnt.toNat + p.divider.toNat + n) / 64) := by
  simp only [Pmu.countCycles, h, if_true, countBy, BitVec.extractLsb'_toNat, BitVec.toNat_add, BitVec.toNat_ofNat,
    toNat_ccnt_divider, Nat.shiftRight_eq_div_pow, decide_eq_decide]
  omega

/-! ### A Count Register -/

/-- A Count Register leaves the counters to the count it is part of. -/
theorem countRegister_pmu (s : State) (k : Nat) (b : Bool) (ev : BitVec 8) (v : Word) (i t : Nat) :
    (s.countRegister k b ev v i t).2.pmu = s.pmu := by
  rw [State.countRegister_frame]

/-- A Count Register set for event 0x07, enabled and not used for validation, counts the instruction. -/
theorem countRegister_instruction {s : State} (hs : s.pmu.started = 0) (hw : s.pmu.wrapped = 0) {ev : BitVec 8}
    (he : ev = 0x07#8) (k : Nat) (v : Word) (t : Nat) :
    (s.countRegister k true ev v 1 t).1 = (v + 1, v == 0xFFFFFFFF) := by
  have hone : s.eventCount ev 1 t = (1, s) := if_pos he
  have ho : decide (2 ^ 32 ≤ v.toNat + 1) = (v == 0xFFFFFFFF) := by
    rw [Bool.eq_iff_iff, decide_eq_true_eq, beq_iff_eq]
    bv_omega
  simp only [State.countRegister, hone, countBy, getLsbD_of_eq_zero hs, getLsbD_of_eq_zero hw, Bool.not_false, Bool.and_self,
    Bool.false_eq_true, if_false, if_true, ho, BitVec.ofNat_eq_ofNat]

/-! ### A count of one step -/

section
variable {s : State} {en : PmuEnables} (hs : s.pmu.started = 0) (hw : s.pmu.wrapped = 0) (hc : en.cycles = true)
include hs hw hc

/-- The counters after a count with none of them used for validation: each counter counts for itself, and each overflow goes to
its flag. -/
theorem pmuCount_pmu (i t : Nat) :
    let c := s.pmu.countCycles t
    let r0 := s.countRegister 1 en.events (s.pmu.pmnc.extractLsb' 20 8) s.pmu.pmn0 i t
    let r1 := r0.2.countRegister 2 en.events (s.pmu.pmnc.extractLsb' 12 8) s.pmu.pmn1 i t
    (s.pmuCount en i t).pmu =
      (({ c.1 with pmn0 := r0.1.1, pmn1 := r1.1.1 }.flag 10 c.2).flag 9 r1.1.2).flag 8 r0.1.2 := by
  have hstarted (v : BitVec 4) : v &&& ~~~(BitVec.ofBool false ++ BitVec.ofBool false ++ BitVec.ofBool false ++
      BitVec.ofBool false) = v := by revert v; decide
  have hwrapped (v : BitVec 3) : v ||| (BitVec.ofBool false ++ BitVec.ofBool false ++ BitVec.ofBool false ++
      BitVec.ofBool false).extractLsb' 0 3 = v := by revert v; decide
  simp only [State.pmuCount, getLsbD_of_eq_zero hs, getLsbD_of_eq_zero hw, hc, countRegister_pmu, Bool.false_eq_true, if_false,
    Bool.not_false, Bool.and_self, if_true, Bool.false_and, hstarted, hwrapped]
  rw [countCycles_frame]

/-- The bits of the PMNC after a count: the overflow flags take the overflows, the others stay. -/
theorem pmuCount_pmnc_getLsbD (i t k : Nat) :
    let r0 := s.countRegister 1 en.events (s.pmu.pmnc.extractLsb' 20 8) s.pmu.pmn0 i t
    let r1 := r0.2.countRegister 2 en.events (s.pmu.pmnc.extractLsb' 12 8) s.pmu.pmn1 i t
    (s.pmuCount en i t).pmu.pmnc.getLsbD k =
      (s.pmu.pmnc.getLsbD k ||
        if k = 8 then r0.1.2 else if k = 9 then r1.1.2 else if k = 10 then (s.pmu.countCycles t).2 else false) := by
  intro r0 r1
  rw [pmuCount_pmu hs hw hc, flag_getLsbD _ (by decide), flag_getLsbD _ (by decide), flag_getLsbD _ (by decide),
    countCycles_pmnc]
  split
  · next h => subst h; rfl
  · split
    · next h => subst h; rfl
    · split
      · rfl
      · exact (Bool.or_false _).symm

/-- A count changes the overflow flags of the PMNC alone. -/
theorem pmuCount_pmnc_other (i t k : Nat) (h8 : k ≠ 8) (h9 : k ≠ 9) (h10 : k ≠ 10) :
    (s.pmuCount en i t).pmu.pmnc.getLsbD k = s.pmu.pmnc.getLsbD k := by
  refine (pmuCount_pmnc_getLsbD hs hw hc i t k).trans ?_
  rw [if_neg h8, if_neg h9, if_neg h10, Bool.or_false]

/-- Without PMNC.D a count adds the cycles to the Cycle Counter. -/
theorem pmuCount_every (h : s.pmu.pmnc.getLsbD 3 = false) (i t : Nat) :
    (s.pmuCount en i t).pmu.ccnt = s.pmu.ccnt + BitVec.ofNat 32 t ∧
      (s.pmuCount en i t).pmu.pmnc.getLsbD 10 =
        (s.pmu.pmnc.getLsbD 10 || decide (2 ^ 32 ≤ s.pmu.ccnt.toNat + t)) := by
  refine ⟨?_, (pmuCount_pmnc_getLsbD hs hw hc i t 10).trans ?_⟩
  · simp only [pmuCount_pmu hs hw hc, flag_ccnt, countCycles_every h]
  · rw [countCycles_every h]
    rfl

/-- With PMNC.D a count adds the cycles to the Cycle Counter with the six bits below it. -/
theorem pmuCount_divided (h : s.pmu.pmnc.getLsbD 3 = true) (i t : Nat) :
    (s.pmuCount en i t).pmu.ccnt.toNat = (64 * s.pmu.ccnt.toNat + s.pmu.divider.toNat + t) / 64 % 2 ^ 32 ∧
      (s.pmuCount en i t).pmu.divider.toNat = (s.pmu.divider.toNat + t) % 64 ∧
      (s.pmuCount en i t).pmu.pmnc.getLsbD 10 =
        (s.pmu.pmnc.getLsbD 10 || decide (2 ^ 32 ≤ (64 * s.pmu.ccnt.toNat + s.pmu.divider.toNat + t) / 64)) := by
  obtain ⟨hccnt, hdivider, hover⟩ := countCycles_divided h t
  refine ⟨?_, ?_, (pmuCount_pmnc_getLsbD hs hw hc i t 10).trans ?_⟩
  · simp only [pmuCount_pmu hs hw hc, flag_ccnt, hccnt]
  · simp only [pmuCount_pmu hs hw hc, flag_divider, hdivider]
  · rw [hover]
    rfl

variable (he : en.events = true)
include he

/-- Count Register 0 after a count of one instruction. -/
theorem pmuCount_first (h : s.pmu.pmnc.extractLsb' 20 8 = 0x07#8) (t : Nat) :
    (s.pmuCount en 1 t).pmu.pmn0 = s.pmu.pmn0 + 1 ∧
      (s.pmuCount en 1 t).pmu.pmnc.getLsbD 8 = (s.pmu.pmnc.getLsbD 8 || s.pmu.pmn0 == 0xFFFFFFFF) := by
  refine ⟨?_, (pmuCount_pmnc_getLsbD hs hw hc 1 t 8).trans ?_⟩
  · simp only [pmuCount_pmu hs hw hc, flag_pmn0, he, countRegister_instruction hs hw h]
  · simp only [if_true, he, countRegister_instruction hs hw h]

/-- Count Register 1 after a count of one instruction. -/
theorem pmuCount_second (h : s.pmu.pmnc.extractLsb' 12 8 = 0x07#8) (t : Nat) :
    (s.pmuCount en 1 t).pmu.pmn1 = s.pmu.pmn1 + 1 ∧
      (s.pmuCount en 1 t).pmu.pmnc.getLsbD 9 = (s.pmu.pmnc.getLsbD 9 || s.pmu.pmn1 == 0xFFFFFFFF) := by
  have hone (u : State) (hu : u.pmu = s.pmu) (v : Word) :=
    countRegister_instruction (s := u) (hu ▸ hs) (hu ▸ hw) h 2 v t
  refine ⟨?_, (pmuCount_pmnc_getLsbD hs hw hc 1 t 9).trans ?_⟩
  · simp only [pmuCount_pmu hs hw hc, flag_pmn1, he, hone _ (countRegister_pmu _ _ _ _ _ _ _)]
  · simp only [if_true, he, hone _ (countRegister_pmu _ _ _ _ _ _ _)]
    rfl

end

/-! ### A tick -/

/-- Outside reset nPMUIRQ shows the flags of the counters and their enables. -/
theorem nPmuIrq_eq {s : State} (h : ∀ k, s.activity ≠ .heldInReset k) :
    s.nPmuIrq = !((s.pmu.pmnc.getLsbD 10 && s.pmu.pmnc.getLsbD 6) || (s.pmu.pmnc.getLsbD 9 && s.pmu.pmnc.getLsbD 5) ||
      (s.pmu.pmnc.getLsbD 8 && s.pmu.pmnc.getLsbD 4)) := by
  rw [State.nPmuIrq, shown_eq_self h]

/-- A tick of an instruction, where the counters are enabled, is a count of one instruction and a free number of cycles. -/
theorem pmuTick_enabled {s : State} {en : PmuEnables} (hc : en.cycles = true) (he : en.events = true)
    (hE : s.pmu.pmnc.getLsbD 0 = true) :
    s.pmuTick en 1 = s.drawTicks.2.pmuCount { cycles := true, events := true } 1 (Config.freeTicks s.freeCtr) := by
  simp only [State.pmuTick, hc, he, hE, Bool.and_self, Bool.true_or, if_true]
  rfl

/-- A tick counts one instruction in each counter enabled for it. -/
theorem countsOne_pmuTick {s : State} {en : PmuEnables} (hs : s.pmu.started = 0) (hc : en.cycles = true) (he : en.events = true)
    (hE : s.pmu.pmnc.getLsbD 0 = true) (hw : s.pmu.wrapped = 0) : s.CountsOne (s.pmuTick en 1) := by
  have hframe := State.pmuTick_frame s en 1
  have hact := State.pmuTick_activity s en 1
  rw [pmuTick_enabled hc he hE] at hframe hact ⊢
  have hs : s.drawTicks.2.pmu.started = 0 := hs
  have hw : s.drawTicks.2.pmu.wrapped = 0 := hw
  have hother := pmuCount_pmnc_other hs hw (en := ⟨true, true⟩) rfl 1 (Config.freeTicks s.freeCtr)
  refine ⟨hframe, fun h07 => pmuCount_first hs hw rfl rfl h07 _, fun h07 => pmuCount_second hs hw rfl rfl h07 _,
    fun hD => pmuCount_every hs hw rfl hD _ _, fun hD => pmuCount_divided hs hw rfl hD _ _, hother, fun hr => ?_⟩
  rw [nPmuIrq_eq (by rwa [hact]), hother 6 (by decide) (by decide) (by decide), hother 5 (by decide) (by decide) (by decide),
    hother 4 (by decide) (by decide) (by decide)]
  rfl

/-! ### A step -/

/-- A step that runs one instruction is the instruction's meaning, counted (30_encoding.md R835, 60_exceptions.md R1640). -/
theorem step_counted {s u : State} {w : Words} {i : Instr} (hb : s.Between) (hi : s.NoInterrupt)
    (hf : fetchInsn s = .ok (.ok w) u) (hn : u.NoEvent) (hj : u.bitJ = false) (hd : decode w = .instr i) :
    step s = State.counted u.pmuEnables (exec i (u.commit w)) := by
  have hj : (u.commit w).bitJ = false := hj
  simp only [step_between hb, takeInterrupt_none hi, Decision.andThen, State.fetchAndRun, hf, afterFetch_none hn, State.runWord,
    hj, Bool.false_eq_true, if_false, execWords, hd]

/-- Settles O60: a step that runs an instruction is its meaning and a tick, and a tick counts in each counter enabled for it. -/
theorem performanceCountersCountInstructions : Obligations.PerformanceCountersCountInstructions := by
  refine ⟨fun s en hs => ⟨fun hc he hE hw => countsOne_pmuTick hs hc he hE hw, fun hE => State.pmuTick_idle s en 1 hE hs⟩,
    fun s u v w i hb hi hf hn hj hd hx hs => ?_⟩
  have hstep : step s = .next (v.pmuTick u.pmuEnables 1) := by
    rw [step_counted hb hi hf hn hj hd, hx]
    rfl
  refine ⟨fun huE hdbg hperm hE hw => ⟨_, hstep, countsOne_pmuTick hs ?_ ?_ hE hw⟩, fun hE => ?_⟩
  · simp only [State.pmuEnables, huE, hdbg, Bool.not_false, Bool.and_self]
  · simp only [State.pmuEnables, huE, hdbg, hperm, Bool.not_false, Bool.and_self]
  · rw [hstep, State.pmuTick_idle v _ 1 hE hs]

end Sys2Proof.PerformanceCounters

/-!
The level one DMA: what a transaction copies, what a transfer that is complete shows, and that a step makes one transaction
before the core moves (14_cp15_dma_misc.md R440 to R448, 22_l1_l2.md R780 to R785).
-/
namespace Sys2Proof.DmaTransfer

open Sys2Proof Sys2Proof.Machine Sys2Proof.OutputPins

/-! ### The channels -/

@[simp] theorem channel_setChannel (d : Dma) (n : Bool) (c : DmaChannel) : (d.setChannel n c).channel n = c := by
  cases n <;> rfl

/-- Starting the other channel leaves the channel. -/
@[simp] theorem channel_startQueued (d : Dma) (n : Bool) : (d.startQueued n).channel n = d.channel n := by
  simp only [Dma.startQueued]
  split
  · cases n <;> rfl
  · rfl

theorem state_complete (c : DmaChannel) (w : Word) : DmaChannel.state { c with status := setField w 0 0b11#2 } = .complete := by
  have h : (setField w 0 0b11#2).extractLsb' 0 2 = 0b11#2 := by
    apply BitVec.eq_of_getLsbD_eq
    intro i hi
    rw [BitVec.getLsbD_extractLsb', setField_getLsbD _ _ _ (by decide), if_pos (by omega)]
    simp [hi]
  simp only [DmaChannel.state, h]
  rfl

theorem interrupting_of_channel {d : Dma} {n : Bool} (h : (d.channel n).irq = true) : d.interrupting = true := by
  cases n with
  | false => exact Bool.or_eq_true_iff.2 (.inl h)
  | true => exact Bool.or_eq_true_iff.2 (.inr h)

/-- Outside reset an Interrupting channel drives the pin of the world of the channels LOW, and the other stays HIGH. -/
theorem dmaPins_of_interrupting {s : State} (hr : ∀ k, s.activity ≠ .heldInReset k) (h : s.dma.interrupting = true) :
    s.nDmaSIrq = s.dmaNs ∧ s.nDmaIrq = !s.dmaNs := by
  rw [State.nDmaSIrq, State.nDmaIrq, shown_eq_self hr, h, Bool.true_and, Bool.true_and, Bool.not_not]
  exact ⟨rfl, rfl⟩

/-! ### Where a byte lies in its store -/

/-- The number of bytes of a store. -/
def storeSize : Option Tcm → Nat
  | none => memoryBytes
  | some t => t.size

/-- The place of an address in a store. -/
def placeIn (p : Option Tcm) (a : Word) : Nat := a.toNat % storeSize p

theorem placeIn_tcm (t : Tcm) (a : Word) : placeIn (some t) a = t.offset a := rfl

theorem placeIn_mem (a : Word) : placeIn none a = a.toNat := Nat.mod_eq_of_lt a.isLt

theorem storeSize_dvd (p : Option Tcm) : storeSize p ∣ 2 ^ 32 := by
  cases p with
  | none => exact Nat.dvd_refl _
  | some t => cases t <;> decide

theorem eight_le_storeSize (p : Option Tcm) : 8 ≤ storeSize p := by
  cases p with
  | none => decide
  | some t => cases t <;> decide

theorem le_of_add_mod_eq {a i j n : Nat} (hi : i < n) (h : (a + i) % n = (a + j) % n) : i ≤ j := by
  have hz := Nat.sub_mod_eq_zero_of_mod_eq h
  rw [Nat.add_sub_add_left, Nat.mod_eq_of_lt (by omega)] at hz
  omega

/-- The bytes of a transaction lie in different places. -/
theorem placeIn_add_ne (p : Option Tcm) (a : Word) {i j : Nat} (hi : i < 8) (hj : j < 8) (h : i ≠ j) :
    placeIn p (a + BitVec.ofNat 32 i) ≠ placeIn p (a + BitVec.ofNat 32 j) := by
  have hp (k : Nat) : placeIn p (a + BitVec.ofNat 32 k) = (a.toNat + k) % storeSize p := by
    rw [placeIn, BitVec.toNat_add, BitVec.toNat_ofNat, Nat.add_mod_mod, Nat.mod_mod_of_dvd _ (storeSize_dvd p)]
  have hs := eight_le_storeSize p
  rw [hp, hp]
  exact fun he => h (Nat.le_antisymm (le_of_add_mod_eq (by omega) he) (le_of_add_mod_eq (by omega) he.symm))

/-- A byte written to a store reads back, and every other byte of it reads as before. -/
theorem readByteAt_writeByteAt {s : State} (h : s.MemoryOk) (p : Option Tcm) (b a : Word) (v : Byte) :
    (s.writeByteAt p b v).readByteAt p a = if placeIn p a = placeIn p b then v else s.readByteAt p a := by
  cases p with
  | none => simp only [State.readByteAt_writeByteAt_mem h, placeIn_mem, BitVec.toNat_inj]
  | some t => exact State.readByteAt_writeByteAt_tcm h t b a v

/-! ### The bytes of a transaction -/

theorem add_ofNat_zero (a : Word) : a + BitVec.ofNat 32 0 = a := BitVec.add_zero a

theorem add_ofNat_succ (a : Word) (k : Nat) : a + BitVec.ofNat 32 (k + 1) = a + 1 + BitVec.ofNat 32 k := by
  rw [BitVec.add_assoc, Nat.add_comm, BitVec.ofNat_add]
  rfl

/-- A copy keeps what every byte write to its destination keeps. -/
theorem copyBytes_keeps {α : Type} (f : State → α) {dst : Option Tcm}
    (hf : ∀ (s : State) (a : Word) (v : Byte), f (s.writeByteAt dst a v) = f s) (src : Option Tcm) (s : State) (a b : Word)
    (n : Nat) : f (s.copyBytes src dst a b n) = f s := by
  induction n generalizing s a b with
  | zero => rfl
  | succ n ih => exact (ih _ _ _).trans (hf _ _ _)

/-- A copy leaves the bytes of its destination that it does not cover. -/
theorem copyBytes_outside {s : State} (h : s.MemoryOk) {src dst : Option Tcm} {a b x : Word} {n : Nat}
    (hx : ∀ k < n, placeIn dst (b + BitVec.ofNat 32 k) ≠ placeIn dst x) :
    (s.copyBytes src dst a b n).readByteAt dst x = s.readByteAt dst x := by
  induction n generalizing s a b with
  | zero => rfl
  | succ n ih =>
    have hfirst : placeIn dst x ≠ placeIn dst b := by
      have h0 := hx 0 (Nat.succ_pos n)
      rw [add_ofNat_zero] at h0
      exact h0.symm
    have hrest : ∀ k < n, placeIn dst (b + 1 + BitVec.ofNat 32 k) ≠ placeIn dst x := fun k hk => by
      rw [← add_ofNat_succ]
      exact hx (k + 1) (Nat.succ_lt_succ hk)
    exact (ih (State.memoryOk_writeByteAt _ _ _ h) hrest).trans ((readByteAt_writeByteAt h dst b x _).trans (if_neg hfirst))

/-- A copy of at most eight bytes to another store gives the destination the bytes of the source. -/
theorem copyBytes_inside {s : State} (h : s.MemoryOk) {src dst : Option Tcm} (hne : src ≠ dst) {a b : Word} {n : Nat}
    (hn : n ≤ 8) {k : Nat} (hk : k < n) :
    (s.copyBytes src dst a b n).readByteAt dst (b + BitVec.ofNat 32 k) = s.readByteAt src (a + BitVec.ofNat 32 k) := by
  induction n generalizing s a b k with
  | zero => exact absurd hk (Nat.not_lt_zero k)
  | succ n ih =>
    have hok := State.memoryOk_writeByteAt dst b (s.readByteAt src a) h
    cases k with
    | zero =>
      have hrest : ∀ j < n, placeIn dst (b + 1 + BitVec.ofNat 32 j) ≠ placeIn dst (b + BitVec.ofNat 32 0) := fun j hj => by
        rw [← add_ofNat_succ]
        exact placeIn_add_ne dst b (by omega) (by omega) (Nat.succ_ne_zero j)
      refine (copyBytes_outside hok hrest).trans ?_
      rw [add_ofNat_zero, add_ofNat_zero, readByteAt_writeByteAt h, if_pos rfl]
    | succ k =>
      rw [add_ofNat_succ, add_ofNat_succ]
      exact (ih hok (by omega) (by omega)).trans (State.readByteAt_writeByteAt_other hne _ _ _)

/-! ### One transaction -/

/-- Clearing the tag keeps all but the monitors. -/
theorem clearTag_keeps {α : Type} (f : State → α) (hf : ∀ (s : State) (m : Monitors), f { s with monitors := m } = f s)
    (s : State) (l : List Word) : f (s.clearTag l) = f s := by
  unfold State.clearTag
  split
  · split
    · exact hf s _
    · rfl
  · rfl

/-- A transaction keeps what byte writes and the monitors keep. -/
theorem dmaMove_keeps {α : Type} (f : State → α)
    (hw : ∀ (dst : Option Tcm) (s : State) (a : Word) (v : Byte), f (s.writeByteAt dst a v) = f s)
    (hm : ∀ (s : State) (m : Monitors), f { s with monitors := m } = f s) (s : State) (m : Tcm) (toTcm : Bool) (a b : Word)
    (n : Nat) : f (s.dmaMove m toTcm a b n) = f s := by
  cases toTcm with
  | true => exact copyBytes_keeps f (hw _) none s b a n
  | false => exact (clearTag_keeps f hm _ _).trans (copyBytes_keeps f (hw _) (some m) s a b n)

/-- A transaction into a TCM copies its bytes there, and leaves memory, the other TCMs and the other bytes of this one. -/
theorem dmaMove_into {s : State} (h : s.MemoryOk) (m : Tcm) (ti te : Word) {n : Nat} (hn : n ≤ 8) :
    let t := s.dmaMove m true ti te n
    t.mem = s.mem ∧ (∀ q, q ≠ m → t.tcmCells q = s.tcmCells q) ∧
      (∀ k < n, t.readByteAt (some m) (ti + BitVec.ofNat 32 k) = s.readByteAt none (te + BitVec.ofNat 32 k)) ∧
      (∀ a, (∀ k < n, m.offset (ti + BitVec.ofNat 32 k) ≠ m.offset a) →
        t.readByteAt (some m) a = s.readByteAt (some m) a) := by
  refine ⟨?_, fun q hq => ?_, fun k hk => copyBytes_inside h (Option.some_ne_none m).symm hn hk,
    fun a ha => copyBytes_outside h (by simpa only [placeIn_tcm] using ha)⟩
  · exact copyBytes_keeps State.mem (dst := some m) (fun s a v => State.setTcmCells_mem s m _) none s te ti n
  · exact copyBytes_keeps (State.tcmCells · q) (dst := some m) (fun s a v => State.tcmCells_setTcmCells_other s _ hq)
      none s te ti n

/-- A transaction out of a TCM copies its bytes to memory, and leaves the TCMs and the other bytes of memory. -/
theorem dmaMove_outOf {s : State} (h : s.MemoryOk) (m : Tcm) (ti te : Word) {n : Nat} (hn : n ≤ 8) :
    let t := s.dmaMove m false ti te n
    (∀ q, t.tcmCells q = s.tcmCells q) ∧
      (∀ k < n, t.readByteAt none (te + BitVec.ofNat 32 k) = s.readByteAt (some m) (ti + BitVec.ofNat 32 k)) ∧
      (∀ a, (∀ k < n, te + BitVec.ofNat 32 k ≠ a) → t.readByteAt none a = s.readByteAt none a) := by
  have hread (a : Word) := clearTag_keeps (State.readByteAt · none a) (fun _ _ => rfl) (s.copyBytes (some m) none ti te n)
    ((List.range n).map (s.byteAddr te))
  refine ⟨fun q => ?_, fun k hk => (hread _).trans (copyBytes_inside h (Option.some_ne_none m) hn hk),
    fun a ha => (hread a).trans (copyBytes_outside h fun k hk => ?_)⟩
  · exact (clearTag_keeps (State.tcmCells · q) (fun _ _ => by cases q <;> rfl) _ _).trans
      (copyBytes_keeps (State.tcmCells · q) (fun _ _ _ => by cases q <;> rfl) (some m) s ti te n)
  · rw [placeIn_mem, placeIn_mem]
    exact fun he => ha k hk (BitVec.eq_of_toNat_eq he)

theorem two_pow_sizeLog_le (c : DmaChannel) : 2 ^ c.sizeLog ≤ 8 :=
  Nat.pow_le_pow_right (by decide) (Nat.le_of_lt_succ (c.control.extractLsb' 0 2).isLt)

/-- The channel after a transaction in the TCM `m`. -/
def movedOn (c : DmaChannel) (m : Tcm) : DmaChannel :=
  { c with tcm := some m.number, curInt := c.curInt + BitVec.ofNat 32 (2 ^ c.sizeLog), curExt := c.curExt + c.stride }

/-- A transaction that nothing stops moves its bytes and then the channel. -/
theorem dmaStep_moves {s : State} {n : Bool} {ti te : Translation} {m : Tcm} (h : s.DmaMoves n ti te m) :
    s.dmaStep n = .ok ((s.dmaMove m (!(s.dma.channel n).control.getLsbD 30) ti.pa te.pa (2 ^ (s.dma.channel n).sizeLog)).setDma n
      (movedOn (s.dma.channel n) m)) := by
  obtain ⟨hend, hti, hte, htcm, hfirst, hdevice, hext, hattrs, hshared, hbus⟩ := h
  have hstay : (s.dma.channel n).tcm.any (· != m.number) = false := by
    rcases hfirst with h | h <;> simp [h]
  have huser : ((s.dma.channel n).effUser && !te.attrs.any (·.shared)) = false := by
    cases he : (s.dma.channel n).effUser with
    | false => rfl
    | true => simp [hshared he]
  have hnone : te.attrs.isNone = false := by rw [← Option.not_isSome, hattrs]; rfl
  have hkinds (x : Bool) : (if (!x) = true then Access.write else .read) = (if x then .read else .write) ∧
      (if (!x) = true then Access.read else .write) = (if x then .write else .read) := by cases x <;> exact ⟨rfl, rfl⟩
  simp only [State.dmaStep, if_neg hend, hkinds, hti, hte, htcm, hstay, hdevice, hext, Option.isSome_none, hnone, huser, hbus,
    Bool.false_eq_true, if_false]
  rfl

/-- At the Internal End Address the transfer is complete. -/
theorem dmaStep_complete {s : State} {n : Bool} (h : (s.dma.channel n).curInt = (s.dma.channel n).intEnd) :
    ∃ d : Dma, s.dmaStep n = .ok { s with dma := d } ∧ (d.channel n).state = .complete ∧
      (d.channel n).irq = ((s.dma.channel n).irq || (s.dma.channel n).control.getLsbD 29) := by
  refine ⟨_, by simp only [State.dmaStep, if_pos h]; rfl, ?_, ?_⟩
  · rw [channel_startQueued, channel_setChannel]
    exact state_complete { s.dma.channel n with .. } _
  · rw [channel_startQueued, channel_setChannel]

/-! ### A step -/

/-- With nothing from outside due, a step is a transaction of the DMA, then the core's. -/
theorem step_core {s : State} (h : s.agenda = []) : step s = s.dmaOutcome State.coreStep := by
  simp only [step, State.stepOne, h, State.event]

/-- Outside reset a transaction is one of channel 0 where it is Running. -/
theorem dmaTick_running {s : State} (hr : ∀ k, s.activity ≠ .heldInReset k) (h : s.dma.ch0.state = .running) :
    s.dmaTick = s.dmaStep false := by
  unfold State.dmaTick
  split
  · next k hk => exact absurd hk (hr k)
  · rw [h]
    rfl

/-- Settles O58: a transaction is a copy of its bytes between two stores, and a step makes one before the core moves. -/
theorem dmaCopiesOneTransactionAtAStep : Obligations.DmaCopiesOneTransactionAtAStep := by
  intro s n ti te m hok hr ch
  refine ⟨fun hend => ?_, fun hm => ?_, fun ha hrun => ?_⟩
  · obtain ⟨d, hstep, hstate, hirq⟩ := dmaStep_complete hend
    refine ⟨_, hstep, hstate, hirq, rfl, rfl, fun hie => dmaPins_of_interrupting (s := { s with dma := d }) hr ?_⟩
    exact interrupting_of_channel (n := n) (hirq.trans (Bool.or_eq_true_iff.2 (.inr hie)))
  · have hmoved := channel_setChannel
      (s.dmaMove m (!ch.control.getLsbD 30) ti.pa te.pa (2 ^ ch.sizeLog)).dma n (movedOn ch m)
    refine ⟨_, dmaStep_moves hm, congrArg DmaChannel.curInt hmoved, congrArg DmaChannel.curExt hmoved,
      congrArg DmaChannel.tcm hmoved, ?_, ?_, fun hin => ?_, fun hout => ?_⟩
    · exact dmaMove_keeps State.regs (fun d s a v => State.writeByteAt_regs s d a v) (fun _ _ => rfl) s m _ ti.pa te.pa _
    · exact dmaMove_keeps State.cpsr (fun d s a v => State.writeByteAt_cpsr s d a v) (fun _ _ => rfl) s m _ ti.pa te.pa _
    · have hin : (s.dma.channel n).control.getLsbD 30 = false := hin
      rw [hin]
      exact dmaMove_into hok m ti.pa te.pa (two_pow_sizeLog_le _)
    · have hout : (s.dma.channel n).control.getLsbD 30 = true := hout
      rw [hout]
      exact dmaMove_outOf hok m ti.pa te.pa (two_pow_sizeLog_le _)
  · cases hstep : s.dmaStep false <;> simp only [step_core ha, State.dmaOutcome, dmaTick_running hr hrun, hstep]

end Sys2Proof.DmaTransfer

/-!
What a part of a store writes and what it leaves (20_memory.md R552, R553, R620).
-/
namespace Sys2Proof.StoredBytes

open Sys2Proof Sys2Proof.Machine Sys2Proof.DmaTransfer

/-! ### The bytes of a part -/

theorem four_dvd_storeSize (q : Option Tcm) : 4 ∣ storeSize q := by
  cases q with
  | none => decide
  | some t => cases t <;> decide

theorem placeIn_mod_four (q : Option Tcm) (a : Word) : placeIn q a % 4 = a.toNat % 4 :=
  Nat.mod_mod_of_dvd _ (four_dvd_storeSize q)

/-- The renaming of B = 1 reverses the bytes of a word. -/
theorem xor_three_mod_four (a : Word) : (a ^^^ 3#32).toNat % 4 = 3 - a.toNat % 4 := by
  have hrev : ∀ r < 4, (r ^^^ 3) = 3 - r := by decide
  rw [BitVec.toNat_xor, show (4 : Nat) = 2 ^ 2 from rfl, Nat.xor_mod_two_pow]
  exact hrev _ (Nat.mod_lt _ (by decide))

/-- The byte of its word that byte `k` of a part is. -/
theorem byteAddr_mod_four (s : State) {pa : Word} {k : Nat} (h : pa.toNat % 4 + k < 4) :
    (s.byteAddr pa k).toNat % 4 = if s.bigEndian32 then 3 - (pa.toNat % 4 + k) else pa.toNat % 4 + k := by
  have hadd : (pa + BitVec.ofNat 32 k).toNat % 4 = pa.toNat % 4 + k := by
    rw [BitVec.toNat_add, BitVec.toNat_ofNat]
    omega
  unfold State.byteAddr
  split
  · rw [xor_three_mod_four, hadd]
  · exact hadd

/-- The bytes of a part lie in different places. -/
theorem placeIn_byteAddr_ne (s : State) (q : Option Tcm) {pa : Word} {i j : Nat} (hi : pa.toNat % 4 + i < 4)
    (hj : pa.toNat % 4 + j < 4) (h : i ≠ j) : placeIn q (s.byteAddr pa i) ≠ placeIn q (s.byteAddr pa j) := by
  intro he
  have hmod := congrArg (· % 4) he
  simp only [placeIn_mod_four, byteAddr_mod_four s hi, byteAddr_mod_four s hj] at hmod
  split at hmod <;> omega

/-- Writing a byte does not rename the others. -/
theorem byteAddr_writeByteAt (s : State) (q : Option Tcm) (a : Word) (v : Byte) (pa : Word) (k : Nat) :
    (s.writeByteAt q a v).byteAddr pa k = s.byteAddr pa k := by
  have hb : (s.writeByteAt q a v).bigEndian32 = s.bigEndian32 := by
    simp only [State.bigEndian32, State.sctlr, State.nonSecure, State.secure, State.mode, State.modeBits, State.scrNs,
      State.writeByteAt_cp15, State.writeByteAt_cpsr]
  simp only [State.byteAddr, hb]

/-! ### Writing a part -/

/-- A part leaves the bytes of its store that it does not cover. -/
theorem writePart_outside {p : Place} {a : Word} : ∀ {l : List Byte} {s : State} {k : Nat}, s.MemoryOk →
    (∀ i < l.length, placeIn p.tcm (s.byteAddr p.pa (k + i)) ≠ placeIn p.tcm a) →
    (s.writePart p k l).readByteAt p.tcm a = s.readByteAt p.tcm a
  | [], _, _, _, _ => rfl
  | b :: l, s, k, h, hout => by
    have hfirst := hout 0 (Nat.succ_pos _)
    have hrest : ∀ i < l.length, placeIn p.tcm ((s.writeByteAt p.tcm (s.byteAddr p.pa k) b).byteAddr p.pa (k + 1 + i)) ≠
        placeIn p.tcm a := fun i hi => by
      rw [byteAddr_writeByteAt, Nat.add_assoc, Nat.add_comm 1 i]
      exact hout (i + 1) (Nat.succ_lt_succ hi)
    exact (writePart_outside (State.memoryOk_writeByteAt _ _ _ h) hrest).trans
      ((readByteAt_writeByteAt h _ _ _ _).trans (if_neg (Ne.symm hfirst)))

/-- The bytes of a part that lies within a word read back. -/
theorem writePart_inside {p : Place} {l : List Byte} {s : State} {k i : Nat} (h : s.MemoryOk)
    (hfit : p.pa.toNat % 4 + k + l.length ≤ 4) (hi : i < l.length) :
    (s.writePart p k l).readByteAt p.tcm (s.byteAddr p.pa (k + i)) = l[i] := by
  induction l generalizing s k i with
  | nil => exact absurd hi (Nat.not_lt_zero i)
  | cons b l ih =>
    have hok := State.memoryOk_writeByteAt p.tcm (s.byteAddr p.pa k) b h
    rw [List.length_cons] at hfit hi
    cases i with
    | zero =>
      have hrest : ∀ j < l.length, placeIn p.tcm ((s.writeByteAt p.tcm (s.byteAddr p.pa k) b).byteAddr p.pa (k + 1 + j)) ≠
          placeIn p.tcm (s.byteAddr p.pa k) := fun j hj => by
        rw [byteAddr_writeByteAt]
        exact placeIn_byteAddr_ne s p.tcm (by omega) (by omega) (by omega)
      exact (writePart_outside hok hrest).trans ((readByteAt_writeByteAt h _ _ _ _).trans (if_pos rfl))
    | succ i =>
      have hnext := ih (k := k + 1) (i := i) hok (by omega) (by omega)
      rwa [byteAddr_writeByteAt, Nat.add_assoc, Nat.add_comm 1 i] at hnext

/-- A part leaves the other stores. -/
theorem writePart_other {p : Place} {q : Option Tcm} (hq : q ≠ p.tcm) (a : Word) : ∀ (l : List Byte) (s : State) (k : Nat),
    (s.writePart p k l).readByteAt q a = s.readByteAt q a
  | [], _, _ => rfl
  | _ :: l, _, k => (writePart_other hq a l _ (k + 1)).trans (State.readByteAt_writeByteAt_other hq _ _ _)

/-- Settles O45: the bytes of a part lie in different places of one store, where each reads back and beside which nothing
changes. -/
theorem storedBytesReadBack : Obligations.StoredBytesReadBack := by
  intro s p bytes hok _ hfit
  rw [low2_toNat] at hfit
  have hout (a : Word) (h : ∀ k < bytes.length, placeIn p.tcm (s.byteAddr p.pa k) ≠ placeIn p.tcm a) :
      (s.writePart p 0 bytes).readByteAt p.tcm a = s.readByteAt p.tcm a :=
    writePart_outside hok fun i hi => by
      rw [Nat.zero_add]
      exact h i hi
  refine ⟨State.memoryOk_writePart hok, fun k hk => ?_, fun a ha hp => ?_, fun m a hp ha => ?_,
    fun q a hq => writePart_other hq a bytes s 0⟩
  · have hin := writePart_inside (k := 0) hok hfit hk
    rwa [Nat.zero_add] at hin
  · rw [hp] at hout
    exact hout a fun k hk => by
      rw [placeIn_mem, placeIn_mem]
      exact fun he => ha k hk (BitVec.eq_of_toNat_eq he)
  · rw [hp] at hout
    exact hout a ha

end Sys2Proof.StoredBytes

/-!
The instruction fetch (20_memory.md R532, R535).
-/
namespace Sys2Proof.InstructionFetch

open Sys2Proof Sys2Proof.Machine

/-- A fetch whose translation and bus access succeed, its bytes counted from the translated PC. -/
theorem run_fetchInsn {s : State} {t : Translation}
    (ht : (translate (s.request s.pc .fetch s.privileged)).run s = .ok (.ok t) s) (ha : t.attrs.isSome = true)
    (hb : s.busError (Access.fetch.onBus t.pa t.nsAttr s.privileged) = none) :
    let byte (a : Word) (k : Nat) : Byte := s.readByteAt (s.cp15.tcmLookup t.pa t.nsAttr .fetch) (a + BitVec.ofNat 32 k)
    let half : Word := if s.bigEndian32 then t.pa ^^^ 2#32 else t.pa
    fetchInsn.run s = .ok (.ok (if s.bitT then .thumb (halfOfBytes (byte half 0) (byte half 1))
      else .arm (wordOfBytes (byte t.pa 0) (byte t.pa 1) (byte t.pa 2) (byte t.pa 3)))) s := by
  have hattrs : t.attrs.isNone = false := by rw [← Option.not_isSome, ha]; rfl
  have hbus : s.busError (Access.fetch.onBus t.pa t.nsAttr (s.request s.pc .fetch s.privileged).priv) = none := hb
  simp only [fetchInsn, run_bind, run_get, ht, hattrs, Bool.false_and, run_refuseIf, Bool.false_eq_true, if_false, hbus,
    ite_self]
  cases s.bitT <;> rfl

/-- Settles O10: the bytes of a fetch are those at the translated PC. -/
theorem fetchReadsTheInstructionAtThePc : Obligations.FetchReadsTheInstructionAtThePc := by
  intro s t ht ha hb byte half
  have h := run_fetchInsn ht ha hb
  simp only [BitVec.add_zero] at h
  exact h

end Sys2Proof.InstructionFetch

/-!
The loads and stores of one register that abort (20_memory.md R546, R549, 21_mmu.md R671, R675).
-/
namespace Sys2Proof.AbortedTransfers

open Sys2Proof Sys2Proof.Machine

/-! ### The instructions of one operation -/

/-- The T forms are written with the index of a translated access. -/
theorem translated_of_form {x : Index} {i j : Instr} (h : (if (x.p || !x.w) = true then none else some i) = some j) :
    x = Index.translated x.u ∧ i = j := by
  obtain ⟨p, u, w⟩ := x
  obtain ⟨hx, hij⟩ := Option.ite_none_left_eq_some.1 h
  cases p <;> cases w <;> simp at hx
  exact ⟨rfl, Option.some.inj hij⟩

/-- The forms of mode 3 pass its restriction. -/
theorem mode3Form_of_form {x : Index} {i j : Instr} (h : (if (!x.p && x.w) = true then none else some i) = some j) (s : State) :
    (mode3Form x).run s = .ok () s ∧ i = j := by
  obtain ⟨hx, hij⟩ := Option.ite_none_left_eq_some.1 h
  rw [mode3Form, run_unpredictableIf, if_neg hx]
  exact ⟨rfl, Option.some.inj hij⟩

/-- The register forms of mode 3 have their should-be-zero field 0. -/
theorem outcome_shouldBe_zero (x : M Unit) (s : State) :
    (shouldBe ((0 : BitVec 4) == 0) >>= fun _ => x).outcome s = x.outcome s :=
  outcome_bind_ok rfl _

/-- Every form of a load is the load of one register. -/
theorem exec_load {op : LoadOp} {c : Cond} {x : Index} {rn rd : BitVec 4} {f : OffsetForm} {i : Instr} {s : State}
    (h : op.instr c x rn rd f = some i) (hc : s.Passes c) (hrd : rd ≠ 15) :
    exec i s = (loadRegister op.type op.bytes op.user op.extend x rn rd f.offset).outcome s := by
  have hword (o : Offset) : loadWord x rn rd o = loadRegister .wordLoad 4 false id x rn rd o := if_neg hrd
  unfold LoadOp.instr at h
  split at h
  case h_1 | h_2 =>
    obtain rfl := Option.some.inj h
    exact (conditional_passed hc.2 _).trans (congrArg (M.outcome · s) (hword _))
  case h_3 | h_4 =>
    obtain rfl := Option.some.inj h
    exact conditional_passed hc.2 _
  case h_5 | h_6 | h_7 | h_8 =>
    obtain ⟨hx, rfl⟩ := translated_of_form h
    rw [hx]
    exact conditional_passed hc.2 _
  case h_9 | h_11 | h_13 =>
    obtain ⟨hm, rfl⟩ := mode3Form_of_form h s
    exact (conditional_passed hc.2 _).trans (outcome_bind_ok hm _)
  case h_10 | h_12 | h_14 =>
    obtain ⟨hm, rfl⟩ := mode3Form_of_form h s
    exact (conditional_passed hc.2 _).trans ((outcome_shouldBe_zero _ s).trans (outcome_bind_ok hm _))
  case h_15 => cases h

/-- STR of a register other than R15 is the store of one register. -/
theorem storeWord_eq {rd : BitVec 4} (hrd : rd ≠ 15) (x : Index) (rn : BitVec 4) (o : Offset) :
    storeWord x rn rd o = storeRegister .wordStore 4 false x rn rd o := by
  simp only [storeWord, storeRegister, storedReg, if_neg hrd, beq_eq_false_iff_ne.2 hrd, Bool.or_false]

/-- Every form of a store is the store of one register. -/
theorem exec_store {op : StoreOp} {c : Cond} {x : Index} {rn rd : BitVec 4} {f : OffsetForm} {i : Instr} {s : State}
    (h : op.instr c x rn rd f = some i) (hc : s.Passes c) (hrd : rd ≠ 15) :
    exec i s = (storeRegister op.type op.bytes op.user x rn rd f.offset).outcome s := by
  unfold StoreOp.instr at h
  split at h
  case h_1 | h_2 =>
    obtain rfl := Option.some.inj h
    exact (conditional_passed hc.2 _).trans (congrArg (M.outcome · s) (storeWord_eq hrd x rn _))
  case h_3 | h_4 =>
    obtain rfl := Option.some.inj h
    exact conditional_passed hc.2 _
  case h_5 | h_6 | h_7 | h_8 =>
    obtain ⟨hx, rfl⟩ := translated_of_form h
    rw [hx]
    exact conditional_passed hc.2 _
  case h_9 =>
    obtain ⟨hm, rfl⟩ := mode3Form_of_form h s
    exact (conditional_passed hc.2 _).trans (outcome_bind_ok hm _)
  case h_10 =>
    obtain ⟨hm, rfl⟩ := mode3Form_of_form h s
    exact (conditional_passed hc.2 _).trans ((outcome_shouldBe_zero _ s).trans (outcome_bind_ok hm _))
  case h_11 => cases h

theorem loadOp_bytes_le (op : LoadOp) : op.bytes ≤ op.type.unit := by cases op <;> decide

theorem storeOp_bytes_le (op : StoreOp) : op.bytes ≤ op.type.unit := by cases op <;> decide

/-! ### An access that aborts ends the transfer -/

section

variable {s t : State} {x : Index} {rn rd : BitVec 4} {o : Offset} {ty : AccessType} {n : Nat} {user : Bool}

/-- A transfer of a register other than R15 that is not Unpredictable goes on to its address. -/
theorem run_transferCheck (hb : badTransfer x rn rd o = false) (hrd : rd ≠ 15) (s : State) :
    (unpredictableIf (x.unpredictable rn rd o || rd == 15)).run s = .ok () s := by
  rw [unpredictable_badTransfer, hb, beq_eq_false_iff_ne.2 hrd]
  rfl

/-- A load that aborts writes neither the base nor the register. -/
theorem outcome_loadRegister_taken (hd : s.inDebug = false) (hb : badTransfer x rn rd o = false) (hrd : rd ≠ 15)
    (h : (loadItem ty n user false (s.address x rn o)).run s = .error .taken t) (ext : Word → Word) :
    (loadRegister ty n user ext x rn rd o).outcome s = .next t :=
  outcome_taken (by simp only [loadRegister, run_bind, run_transferCheck hb hrd, run_addressMode hd, h])

/-- A store that aborts writes no base. -/
theorem outcome_storeRegister_taken (hd : s.inDebug = false) (hb : badTransfer x rn rd o = false) (hrd : rd ≠ 15)
    (h : (storeItem ty n user (s.address x rn o) (s.reg rd)).run s = .error .taken t) :
    (storeRegister ty n user x rn rd o).outcome s = .next t :=
  outcome_taken (by
    simp only [storeRegister, run_bind, run_transferCheck hb hrd, run_addressMode hd, run_readReg hrd, h])

end

/-- Settles O46: every form is the load or the store of one register, whose access aborts at the alignment check or at the
translation. -/
theorem faultingTransfersTakeTheDataAbort : Obligations.FaultingTransfersTakeTheDataAbort := by
  intro s c x rn rd f i a e hc hb hrd he va mva
  refine ⟨fun op hi => ⟨fun hf => ?_, fun ha hl => ?_⟩, fun op hi => ⟨fun hf => ?_, fun ha hl => ?_⟩⟩
  · rw [exec_load hi hc hrd]
    exact outcome_loadRegister_taken hc.1 hb hrd (run_loadItem_fault hc.1 he hf _ _ _) _
  · rw [exec_load hi hc hrd]
    exact outcome_loadRegister_taken hc.1 hb hrd (run_loadItem_mmu hc.1 he (loadOp_bytes_le op) ha hl _) _
  · rw [exec_store hi hc hrd]
    exact outcome_storeRegister_taken hc.1 hb hrd (run_storeItem_fault hc.1 he hf _ _ _)
  · rw [exec_store hi hc hrd]
    exact outcome_storeRegister_taken hc.1 hb hrd (run_storeItem_mmu hc.1 he (storeOp_bytes_le op) ha hl _)

end Sys2Proof.AbortedTransfers

/-!
The exclusive accesses: what the load-exclusives mark, and where the store-exclusives store (20_memory.md R600 to R607,
45_ldm_excl_swp.md R1390 to R1399).
-/
namespace Sys2Proof.ExclusiveAccess

open Sys2Proof Sys2Proof.Machine Sys2Proof.SystemControl

/-! ### Items -/

/-- How the items of an exclusive access at an address are accessed. -/
abbrev itemMode (s : State) (a : Word) : Mode1 := s.exclusiveMode { va := a, unaligned := false }

/-- An item within a word is read whole. -/
theorem run_readChecked {s : State} (hw : s.NoWatch) {m : Mode1} {va : Word} {n : Nat} {p : Place}
    (hfit : (va.extractLsb' 0 2).toNat + n ≤ 4) (ha : s.At va .read m.priv p) (hu : m.unaligned = false) :
    (readChecked m va n).run s = .ok (.ok (s.assemble (s.partBytes p 0 n), false)) s := by
  simp only [readChecked, run_bind, parts_within hfit,
    run_readParts_cons hw (q := { va := va, len := n, item := n }) ha (.inl hu), run_readParts_nil, run_get,
    Bool.false_eq_true, if_false, run_pure, List.nil_append]

/-- An item within a word is written whole. -/
theorem run_writeChecked {s : State} (hw : s.NoWatch) {m : Mode1} {va : Word} {n : Nat} {p : Place}
    (hfit : (va.extractLsb' 0 2).toNat + n ≤ 4) (ha : s.At va .write m.priv p) (hu : m.unaligned = false) (v : Word) :
    (writeChecked m va n v).run s = .ok (.ok false) (s.writePart p 0 (s.scatter v n)) := by
  have hall : (s.scatter v n).take n = s.scatter v n := List.take_of_length_le (Nat.le_of_eq (scatter_length s v n))
  simp only [writeChecked, run_bind, run_get, parts_within hfit,
    run_writeParts_cons hw (q := { va := va, len := n, item := n }) ha (.inl hu), run_writeParts_nil, hall]

theorem word_fits {va : Word} (h : va.toNat % 4 = 0) : (va.extractLsb' 0 2).toNat + 4 ≤ 4 := by
  have hlow : (va.extractLsb' 0 2).toNat = 0 := (low2_toNat va).trans h
  omega

/-- The items of a load-exclusive are read in order. -/
theorem run_readItems_cons {s : State} {m : Mode1} {n : Nat} {va w : Word} {vas : List Word} {r : List (Word × Bool)}
    (h : (readChecked m va n).run s = .ok (.ok (w, false)) s) (hs : (readItems m n vas).run s = .ok (.ok r) s) :
    (readItems m n (va :: vas)).run s = .ok (.ok ((w, false) :: r)) s := by
  simp only [readItems, run_bind, h, hs, run_pure]

/-- The items of a store-exclusive are written in order. -/
theorem run_writeItems_cons {s t u : State} {m : Mode1} {n : Nat} {va w : Word} {rest : List (Word × Word)}
    (h : (writeChecked m va n w).run s = .ok (.ok false) t) (hs : (writeItems m n rest).run t = .ok (.ok false) u) :
    (writeItems m n ((va, w) :: rest)).run s = .ok (.ok false) u := by
  simp only [writeItems, run_bind, h, hs, run_pure, Bool.or_self]

/-- Two words that memory holds are read. -/
theorem run_readItems_words {s : State} (hw : s.NoWatch) {a w0 w1 : Word} (ha : a.toNat % 4 = 0)
    (h : s.HoldsWords s.privileged a [w0, w1]) :
    (readItems (itemMode s a) 4 [a, a + 4]).run s = .ok (.ok [(w0, false), (w1, false)]) s := by
  obtain ⟨⟨p0, hp0, rfl⟩, ⟨p1, hp1, rfl⟩, -⟩ := h
  exact run_readItems_cons (run_readChecked hw (m := itemMode s a) (word_fits ha) hp0 rfl)
    (run_readItems_cons (run_readChecked hw (m := itemMode s a) (word_fits (word_succ ha)) hp1 rfl) rfl)

/-- Two words are written. -/
theorem run_writeItems_words {s u : State} (hw : s.NoWatch) {a v0 v1 : Word} (ha : a.toNat % 4 = 0)
    (h : s.StoredWords s.privileged a [v0, v1] u) :
    (writeItems (itemMode s a) 4 [(a, v0), (a + 4, v1)]).run s = .ok (.ok false) u := by
  simp only [State.StoredWords] at h
  obtain ⟨p0, hp0, p1, hp1, rfl⟩ := h
  exact run_writeItems_cons (run_writeChecked hw (m := itemMode s a) (word_fits ha) hp0 rfl v0)
    (run_writeItems_cons (run_writeChecked (hw.writePart _ _ _) (m := itemMode s a) (word_fits (word_succ ha)) hp1 rfl v1) rfl)

/-! ### The place of an exclusive access -/

/-- A translation that succeeds is one no check denies. -/
theorem translateDeferred_of_translate {s u : State} {r : Request} {t : Translation} (h : s.translate r = (.ok t, u)) :
    s.translateDeferred r = (.ok (t, none), u) := by
  unfold State.translate at h
  split at h
  · cases h
  · cases h
  · next hd =>
    cases h
    exact hd

/-- An address that has a place has a translation no check denies. -/
theorem translateDeferred_of_locate {s : State} {va : Word} {kind : Access} {priv : Bool} {p : Place}
    (h : locate va kind priv s = .ok (.ok p) s) :
    ∃ t, s.translateDeferred (s.request va kind priv) = (.ok (t, none), s) ∧ s.placeOf s.nonSecure kind t = some p := by
  have hrun : (locate va kind priv).run s = .ok (.ok p) s := h
  simp only [locate, Machine.translate, run_bind, run_get, run_liftState] at hrun
  rcases ht : s.translate (s.request va kind priv) with ⟨f | t, u⟩
  · rw [ht] at hrun
    cases hrun
  · rw [ht] at hrun
    cases hp : s.placeOf s.nonSecure kind t <;> simp only [hp] at hrun <;> cases hrun
    exact ⟨t, translateDeferred_of_translate ht, hp⟩

/-! ### The monitors -/

theorem markExclusive_eq (s : State) (p : Place) (n : Nat) : s.markExclusive p n = s.marked p n := by
  unfold State.markExclusive State.marked
  split <;> rfl

/-- A load-exclusive in Normal memory where a monitor is reads its items and marks. -/
theorem run_loadExclusive {s : State} (he : s.reservedEndian = false) {t : AccessType} {va a : Word}
    (ha : s.AccessAddress t va a) {n : Nat} {p : Place} (hx : s.Exclusive a .read n p) {ws : List Word}
    (hr : (readItems (itemMode s a) (min n 4) (exclusiveItems a n)).run s = .ok (.ok (ws.map fun w => (w, false))) s) :
    (loadExclusive t va n).run s = .ok ws (s.marked p n) := by
  obtain ⟨⟨hl, -⟩, hnormal, hmon⟩ := hx
  have hl' : (locate a .read (itemMode s a).priv).run s = .ok (.ok p) s := hl
  have hdev : (p.type != .normal) = false := by rw [hnormal]; rfl
  have hmon' : s.noMonitor p .read (itemMode s a).priv n = false := hmon
  have hany : (ws.map fun w => (w, false)).any (·.2) = false := by simp
  have hfst : (ws.map fun w => (w, false)).map (·.1) = ws := by simp [Function.comp_def]
  simp only [loadExclusive, run_bind, run_checkAlignment he ha, run_orAbort_ok, run_get, hl', run_refuseIf, hdev,
    Bool.false_eq_true, if_false, hmon', hr, hany, run_modify, run_pure, hfst, markExclusive_eq]

/-- A store-exclusive that holds its reservation stores its items and clears the monitors. -/
theorem run_storeHeld {s u : State} {m : Mode1} {p : Place} {va : Word} {n : Nat} {vs : List Word}
    (hmon : s.noMonitor p .write m.priv n = false)
    (hs : (writeItems m (min n 4) ((exclusiveItems va n).zip vs)).run s = .ok (.ok false) u) (mva : Word) :
    (storeHeld m p va mva n vs).run s = .ok 0 (u.cleared p) := by
  have hc : (if p.shared then { u with monitors := { u.monitors with globl := none } } else u).setLocal false =
      u.cleared p := by
    unfold State.cleared
    split <;> rfl
  simp only [storeHeld, run_bind, run_get, hmon, hs, Bool.false_eq_true, if_false, run_modify, run_pure, hc, Bool.false_and]

/-- A store-exclusive to a place finds its reservation: for Shared memory the global monitor has the address
(20_memory.md R602). -/
def Reserved (s : State) (p : Place) (n : Nat) : Prop := p.shared = false ∨ s.monitors.globl = some (p.pa, n)

theorem reserved_iff (s : State) (p : Place) (n : Nat) :
    Reserved s p n ↔ (p.shared && s.monitors.globl != some (p.pa, n)) = false := by
  rw [Reserved, Bool.and_eq_false_iff, bne_eq_false_iff_eq]

/-- With the local monitor Exclusive, a store-exclusive in Normal memory goes on where it finds its reservation, and fails
where it does not. -/
theorem run_storeExclusive_held {s : State} (he : s.reservedEndian = false) (hw : s.NoWatch) {t : AccessType} {va a : Word}
    (ha : s.AccessAddress t va a) (hl : s.monitors.locl = true) {n : Nat} {p : Place} (hx : s.Exclusive a .write n p)
    (vs : List Word) :
    (storeExclusive t va n vs).run s =
      if p.shared && s.monitors.globl != some (p.pa, n) then .ok 1 s.opened
      else (storeHeld (itemMode s a) p a (s.cp15.mva s.nonSecure a) n vs).run s := by
  obtain ⟨⟨hloc, -⟩, hnormal, -⟩ := hx
  obtain ⟨x, hd, hp⟩ := translateDeferred_of_locate hloc
  have hm : (itemMode s a).priv = s.privileged := rfl
  have hr : (s.request a .write s.privileged).ns = s.nonSecure ∧
      (s.request a .write s.privileged).mva = s.cp15.mva s.nonSecure a := ⟨rfl, rfl⟩
  have hdev : (p.type != .normal) = false := by rw [hnormal]; rfl
  simp only [storeExclusive, run_bind, run_checkAlignment he ha, run_get, hl, Bool.not_true, Bool.false_eq_true, if_false,
    run_liftState, hm, hd, hr, hp, run_ite, Option.any_some, run_storeFails hw, run_refuseIf, hdev]

/-- Where it finds its reservation it stores. -/
theorem run_storeExclusive_reserved {s u : State} (he : s.reservedEndian = false) (hw : s.NoWatch) {t : AccessType}
    {va a : Word} (ha : s.AccessAddress t va a) (hl : s.monitors.locl = true) {n : Nat} {p : Place}
    (hx : s.Exclusive a .write n p) (hr : Reserved s p n) {vs : List Word}
    (hs : (writeItems (itemMode s a) (min n 4) ((exclusiveItems a n).zip vs)).run s = .ok (.ok false) u) :
    (storeExclusive t va n vs).run s = .ok 0 (u.cleared p) := by
  have ⟨_, _, hmon⟩ := hx
  rw [run_storeExclusive_held he hw ha hl hx, if_neg (Bool.eq_false_iff.1 ((reserved_iff s p n).1 hr))]
  exact run_storeHeld (m := itemMode s a) hmon hs _

/-- Where it finds none it fails. -/
theorem run_storeExclusive_unreserved {s : State} (he : s.reservedEndian = false) (hw : s.NoWatch) {t : AccessType}
    {va a : Word} (ha : s.AccessAddress t va a) (hl : s.monitors.locl = true) {n : Nat} {p : Place}
    (hx : s.Exclusive a .write n p) (hr : ¬ Reserved s p n) (vs : List Word) :
    (storeExclusive t va n vs).run s = .ok 1 s.opened := by
  rw [reserved_iff, Bool.not_eq_false] at hr
  rw [run_storeExclusive_held he hw ha hl hx, if_pos hr]

/-- A store-exclusive whose alignment check faults aborts, the local monitor open. -/
theorem run_storeExclusive_fault {s : State} (hd : s.inDebug = false) (he : s.reservedEndian = false) {t : AccessType}
    {va : Word} (h : s.alignment t va = .fault) (n : Nat) (vs : List Word) :
    (storeExclusive t va n vs).run s =
      .error .taken (s.opened.abortEntry (alignmentAbort (s.cp15.mva s.nonSecure va) true)) := by
  simp only [storeExclusive, run_bind, run_checkAlignment_fault he h, abortExclusive, run_modify]
  exact run_takeDataAbort (s := s.opened) hd _

/-! ### The instructions -/

/-- A value is written to a register, then the next instruction follows. -/
theorem outcome_then_writeReg {x : M Word} {s t : State} {w : Word} (h : x.run s = .ok w t) (hd : t.inDebug = false)
    (hi : t.nextInsn = s.nextInsn) (n : BitVec 4) :
    (x >>= fun v => writeReg n v >>= fun _ => advance).outcome s = .next ((t.setReg n w).goto s.nextInsn) :=
  (outcome_bind_ok h _).trans ((outcome_bind_ok (run_writeReg n w t) _).trans (outcome_advance hd hi))

/-- LDREX, LDREXB and LDREXH make their access at the base register and write the item. -/
theorem exec_loadExclusive {s : State} {c : Cond} (hc : s.Passes c) {rn rd : BitVec 4} (hn : rn ≠ 15) (hrd : rd ≠ 15)
    (z : ExclusiveSize) :
    exec (z.load c rn rd) s = (loadExclusive z.type (s.reg rn) z.bytes >>= fun ws =>
      writeReg rd (ws.getD 0 0) >>= fun _ => advance).outcome s := by
  have hops : (unpredictableIf (rd == 15 || rn == 15)).run s = .ok () s := by
    rw [beq_eq_false_iff_ne.2 hrd, beq_eq_false_iff_ne.2 hn]
    rfl
  have hbody : exec (z.load c rn rd) s = (loadExclusiveReg z.type z.bytes rn rd 15 15).outcome s := by
    cases z <;> exact conditional_passed hc.2 _
  rw [hbody]
  exact (outcome_bind_ok rfl _).trans ((outcome_bind_ok hops _).trans (outcome_bind_ok (run_readReg hn s) _))

/-- LDREXD makes its access at the base register and writes the two words. -/
theorem exec_ldrexd {s : State} {c : Cond} (hc : s.Passes c) {rn rd : BitVec 4} (hn : rn ≠ 15)
    (heven : rd.getLsbD 0 = false) (h14 : rd ≠ 14) :
    exec (.ldrexd c rn rd 15 15) s = (loadExclusive .doubleSync (s.reg rn) 8 >>= fun ws =>
      writeReg rd (ws.getD 0 0) >>= fun _ => writeReg (rd + 1) (ws.getD 1 0) >>= fun _ => advance).outcome s := by
  have hops : (unpredictableIf (rd.getLsbD 0 || rd == 14 || rn == 15)).run s = .ok () s := by
    rw [heven, beq_eq_false_iff_ne.2 h14, beq_eq_false_iff_ne.2 hn]
    rfl
  refine (conditional_passed hc.2 _).trans ?_
  exact (outcome_bind_ok rfl _).trans ((outcome_bind_ok hops _).trans (outcome_bind_ok (run_readReg hn s) _))

/-- STREX, STREXB and STREXH make their access at the base register and write the status. -/
theorem exec_storeExclusive {s : State} {c : Cond} (hc : s.Passes c) {rn rd rm : BitVec 4} (hn : rn ≠ 15) (hrd : rd ≠ 15)
    (hm : rm ≠ 15) (hdn : rd ≠ rn) (hdm : rd ≠ rm) (z : ExclusiveSize) :
    exec (z.store c rn rd rm) s = (storeExclusive z.type (s.reg rn) z.bytes [s.reg rm] >>= fun status =>
      writeReg rd status >>= fun _ => advance).outcome s := by
  have hops : (unpredictableIf (rd == 15 || rn == 15 || rm == 15 || rd == rn || rd == rm)).run s = .ok () s := by
    rw [beq_eq_false_iff_ne.2 hrd, beq_eq_false_iff_ne.2 hn, beq_eq_false_iff_ne.2 hm, beq_eq_false_iff_ne.2 hdn,
      beq_eq_false_iff_ne.2 hdm]
    rfl
  have hbody : exec (z.store c rn rd rm) s = (storeExclusiveReg z.type z.bytes rn rd 15 rm).outcome s := by
    cases z <;> exact conditional_passed hc.2 _
  rw [hbody]
  exact (outcome_bind_ok rfl _).trans ((outcome_bind_ok hops _).trans
    ((outcome_bind_ok (run_readReg hn s) _).trans (outcome_bind_ok (run_readReg hm s) _)))

theorem succ_ne_15 {n : BitVec 4} (h : n ≠ 14) : n + 1 ≠ 15 := fun h' => h (by bv_omega)

/-- STREXD makes its access at the base register and writes the status. -/
theorem exec_strexd {s : State} {c : Cond} (hc : s.Passes c) {rn rd rm : BitVec 4} (hn : rn ≠ 15) (hrd : rd ≠ 15)
    (hm : rm ≠ 15) (hdn : rd ≠ rn) (hdm : rd ≠ rm) (heven : rm.getLsbD 0 = false) (h14 : rm ≠ 14) (hdm' : rd ≠ rm + 1) :
    exec (.strexd c rn rd 15 rm) s =
      (storeExclusive .doubleSync (s.reg rn) 8 [s.reg rm, s.reg (rm + 1)] >>= fun status =>
        writeReg rd status >>= fun _ => advance).outcome s := by
  have hops : (unpredictableIf (rd == 15 || rn == 15 || rm.getLsbD 0 || rm == 14 || rd == rn || rd == rm || rd == rm + 1)).run s =
      .ok () s := by
    rw [beq_eq_false_iff_ne.2 hrd, beq_eq_false_iff_ne.2 hn, heven, beq_eq_false_iff_ne.2 h14, beq_eq_false_iff_ne.2 hdn,
      beq_eq_false_iff_ne.2 hdm, beq_eq_false_iff_ne.2 hdm']
    rfl
  refine (conditional_passed hc.2 _).trans ?_
  exact (outcome_bind_ok rfl _).trans ((outcome_bind_ok hops _).trans ((outcome_bind_ok (run_readReg hn s) _).trans
    ((outcome_bind_ok (run_readReg hm s) _).trans (outcome_bind_ok (run_readReg (succ_ne_15 h14) s) _))))

/-- CLREX opens the local monitor. -/
theorem exec_clrex {s : State} (hd : s.inDebug = false) : exec (.clrex 15 15 0 15) s = .next (s.opened.goto s.nextInsn) := by
  have hbody : (do undefinedIf false; modify fun s => s.setLocal false : M Unit).run s = .ok () s.opened := rfl
  exact outcome_then_advance (t := s.opened) hbody hd rfl

theorem bytes_le_unit (z : ExclusiveSize) : z.bytes ≤ z.type.unit := by cases z <;> decide

/-- LDREX, LDREXB, LDREXH and the stores beside them have one item. -/
theorem exclusiveItems_bytes (z : ExclusiveSize) (a : Word) : exclusiveItems a z.bytes = [a] := by cases z <;> rfl

theorem min_bytes_four (z : ExclusiveSize) : min z.bytes 4 = z.bytes := by cases z <;> rfl

/-- The item of an exclusive access lies within a word. -/
theorem item_fits {s : State} {z : ExclusiveSize} {va a : Word} (h : s.AccessAddress z.type va a) :
    (a.extractLsb' 0 2).toNat + z.bytes ≤ 4 :=
  Nat.le_trans (Nat.add_le_add_left (bytes_le_unit z) _) h.fits

/-- The one item of a load-exclusive is read at its place. -/
theorem run_readItems_one {s : State} (hw : s.NoWatch) {z : ExclusiveSize} {va a : Word} (h : s.AccessAddress z.type va a)
    {p : Place} (hx : s.Exclusive a .read z.bytes p) :
    (readItems (itemMode s a) (min z.bytes 4) (exclusiveItems a z.bytes)).run s =
      .ok (.ok [(s.assemble (s.partBytes p 0 z.bytes), false)]) s := by
  rw [exclusiveItems_bytes, min_bytes_four]
  exact run_readItems_cons (run_readChecked hw (m := itemMode s a) (item_fits h) hx.1 rfl) rfl

/-- The one item of a store-exclusive is written at its place. -/
theorem run_writeItems_one {s : State} (hw : s.NoWatch) {z : ExclusiveSize} {va a : Word} (h : s.AccessAddress z.type va a)
    {p : Place} (hx : s.Exclusive a .write z.bytes p) (v : Word) :
    (writeItems (itemMode s a) (min z.bytes 4) ((exclusiveItems a z.bytes).zip [v])).run s =
      .ok (.ok false) (s.writePart p 0 (s.scatter v z.bytes)) := by
  rw [exclusiveItems_bytes, min_bytes_four]
  exact run_writeItems_cons (run_writeChecked hw (m := itemMode s a) (item_fits h) hx.1 rfl v) rfl

/-- Settles O43: the items are read at the place of the address, and the monitors marked. -/
theorem loadExclusiveLoadsAndMarks : Obligations.LoadExclusiveLoadsAndMarks := by
  intro s c rn rd a p hc hn hrd he hw
  refine ⟨fun z ha hx => ?_, fun w0 w1 heven h14 ha hx hh => ?_⟩
  · have hload := run_loadExclusive he ha hx (ws := [s.assemble (s.partBytes p 0 z.bytes)])
      (run_readItems_one hw ha hx)
    rw [exec_loadExclusive hc hn hrd, outcome_bind_ok hload]
    exact outcome_then_advance (s := s.marked p z.bytes) (run_writeReg _ _ _) hc.1 rfl
  · have hload := run_loadExclusive he ha hx (ws := [w0, w1]) (run_readItems_words hw (ha.word rfl) hh)
    rw [exec_ldrexd hc hn heven h14, outcome_bind_ok hload, outcome_bind_ok (run_writeReg _ _ _)]
    exact outcome_then_advance (s := (s.marked p 8).setReg rd w0) (run_writeReg _ _ _) hc.1 rfl

/-- Clearing the monitors after a store keeps the run state and the next instruction. -/
theorem sameBut_cleared {s u : State} (h : s.SameBut u) (p : Place) :
    (u.cleared p).inDebug = s.inDebug ∧ (u.cleared p).nextInsn = s.nextInsn :=
  ⟨h.inDebug, h.nextInsn⟩

/-- Settles O44: the alignment check, the reservation and the permission are found in that order, and the local monitor is open
after each outcome. -/
theorem storeExclusiveStoresWhereMarked : Obligations.StoreExclusiveStoresWhereMarked := by
  intro s c rn rd rm a hc hn hrd hm hdn hdm he hw failed mva
  have hfailed {x : M Word} (h : x.run s = .ok 1 s.opened) :
      (x >>= fun v => writeReg rd v >>= fun _ => advance).outcome s = failed :=
    outcome_then_writeReg h hc.1 rfl rd
  have hstored {x : M Word} {u : State} (hu : s.SameBut u) (p : Place) (h : x.run s = .ok 0 (u.cleared p)) :
      (x >>= fun v => writeReg rd v >>= fun _ => advance).outcome s = .next (((u.cleared p).setReg rd 0).goto s.nextInsn) :=
    outcome_then_writeReg h ((sameBut_cleared hu p).1.trans hc.1) (sameBut_cleared hu p).2 rd
  refine ⟨fun z => ?_, fun heven h14 hdm' ha => ?_, exec_clrex hc.1⟩
  · rw [exec_storeExclusive hc hn hrd hm hdn hdm]
    refine ⟨fun hf => outcome_then_taken (run_storeExclusive_fault hc.1 he hf _ _) _,
      fun ha => ⟨fun hl => hfailed (run_storeExclusive_open he hw ha hl _ _), fun p hl hx => ?_, fun t p f hl ht hp => ?_⟩⟩
    · split
      case isTrue hr =>
        have hitems := run_writeItems_one hw ha hx (s.reg rm)
        exact hstored (s.sameBut_writePart p 0 _) p (run_storeExclusive_reserved he hw ha hl hx hr hitems)
      case isFalse hr => exact hfailed (run_storeExclusive_unreserved he hw ha hl hx hr _)
    · have hrun := run_storeExclusive_denied he hw ha hl (n := z.bytes) ht hp [s.reg rm]
      split
      case isTrue hr =>
        rw [if_neg (Bool.eq_false_iff.1 ((reserved_iff s p _).1 hr)), run_takeDataAbort (s := s.opened) hc.1] at hrun
        exact outcome_then_taken hrun _
      case isFalse hr =>
        rw [← Reserved, reserved_iff, Bool.not_eq_false] at hr
        rw [if_pos hr] at hrun
        exact hfailed hrun
  · rw [exec_strexd hc hn hrd hm hdn hdm heven h14 hdm']
    refine ⟨fun hl => hfailed (run_storeExclusive_open he hw ha hl _ _),
      fun p u hl hx => ⟨fun hr hu => ?_, fun hs hg => ?_⟩⟩
    · have hwords := run_writeItems_words hw (ha.word rfl) hu
      exact hstored hu.sameBut p (run_storeExclusive_reserved he hw ha hl hx hr hwords)
    · have hr : ¬ Reserved s p 8 := by simp [Reserved, hs, hg]
      exact hfailed (run_storeExclusive_unreserved he hw ha hl hx hr _)

end Sys2Proof.ExclusiveAccess

/-!
The memory management unit: the entry of a Prefetch Abort, and a translation as the outcome of the mapping that its lockdown
entry or its descriptors say (21_mmu.md R634 to R685).
-/
namespace Sys2Proof.MemoryManagement

open Sys2Proof Sys2Proof.Machine

/-! ### The Prefetch Abort -/

/-- The entry of a Prefetch Abort (21_mmu.md R671, R675, 60_exceptions.md R1622). -/
def prefetchAbortEntry (s : State) (a : FetchAbort) : State :=
  let w := s.faultNs a.external
  { s with cp15 := s.cp15.setBank w { s.cp15.bank w with
      ifsr := fsrValue a.status 0 false a.slverr
      ifar := s.cp15.mva s.nonSecure s.pc } }.takeException .pabt (s.pc + 4) (a.external && s.scrEa)

/-- IFSR and IFAR of a world, written one after the other, are one write of its registers. -/
theorem setIfar_setIfsr (s : State) (w : Bool) (v a : Word) :
    (s.setIfsr w v).setIfar w a =
      { s with cp15 := s.cp15.setBank w { s.cp15.bank w with ifsr := v, ifar := a } } := by
  cases w <;> rfl

/-- Taking a Prefetch Abort. -/
theorem run_takePrefetchAbort {α : Type} {s : State} (hd : s.inDebug = false) (a : FetchAbort) :
    (takePrefetchAbort a : M α).run s = .error .taken (prefetchAbortEntry s a) := by
  have hscr (w : Bool) (b : Banked) : State.scrEa { s with cp15 := s.cp15.setBank w b } = s.scrEa :=
    congrArg (·.getLsbD 3) (SystemControl.setBank_scr s.cp15 w b)
  have hdebug (k : Cp15) : State.inDebug { s with cp15 := k } = false := hd
  simp only [takePrefetchAbort, raise, run_bind, run_modify, setIfar_setIfsr, run_throw, hdebug, hscr,
    Bool.false_eq_true, if_false]
  rfl

/-- Settles O11: with no interrupt to take, the step is the fetch, and its abort is taken in a step that runs no instruction. -/
theorem stepTakesThePrefetchAbort : Obligations.StepTakesThePrefetchAbort := by
  intro s u a hb hi hf hd toMonitor w
  have htaken : (takePrefetchAbort (α := Unit) a).outcome u = .next (prefetchAbortEntry u a) :=
    outcome_taken (run_takePrefetchAbort hd a)
  simp only [step_between hb, takeInterrupt_none hi, Decision.andThen, State.fetchAndRun, hf, htaken]
  rfl

/-! ### The descriptors as mappings -/

/-- The two low bits of a descriptor are its type. -/
theorem extract_type (v : Word) : v.extractLsb' 0 2 = BitVec.ofBool (v.getLsbD 1) ++ BitVec.ofBool (v.getLsbD 0) := by
  have hbits : ∀ i < 2, (v.extractLsb' 0 2).getLsbD i = v.getLsbD i := by
    intro i hi
    simp [hi]
  rw [← hbits 1 (by decide), ← hbits 0 (by decide)]
  generalize v.extractLsb' 0 2 = w
  revert w
  decide

/-- The bits above an offset, masked and with the offset cleared. -/
theorem extract_append_mask {n k : Nat} (v : BitVec (n + k)) (m : BitVec n) :
    ((v.extractLsb' k n &&& m) ++ 0#k) &&& (m ++ 0#k) = v &&& (m ++ 0#k) := by
  apply BitVec.eq_of_getLsbD_eq
  intro i hi
  by_cases hlow : i < k
  · simp [BitVec.getLsbD_append, hlow]
  · have hindex : k + (i - k) = i := by omega
    have hwidth : i - k < n := by omega
    simp [BitVec.getLsbD_append, hlow, hindex, hwidth]

/-- The physical address of an entry that holds the base of its descriptor. -/
theorem paAt_of_base {e : TlbEntry} {d low : Word} {m : BitVec 20} {k : Nat} (hpa : e.pa = d.extractLsb' 12 20 &&& m)
    (hsize : e.sizeLog = k) (hlow : (1#32 <<< k) - 1 = low) (hm : m ++ 0#12 = ~~~low) (mva : Word) :
    e.paAt mva = (d &&& ~~~low) ||| (mva &&& low) := by
  rw [TlbEntry.paAt, hsize, hlow, hpa, ← hm]
  exact congrArg (· ||| (mva &&& low)) (extract_append_mask (n := 20) (k := 12) d m)

/-- An entry of a walk is Non-secure where its descriptor or its request is. -/
theorem ns_or_newEntry (s : State) (r : Request) (nsBit nG : Bool) :
    (r.ns || (s.newEntry r nsBit nG).nsa) = (r.ns || nsBit) := by
  show (r.ns || (r.ns || nsBit)) = _
  rw [← Bool.or_assoc, Bool.or_self]

/-- The entry of a section or supersection says of an address what its descriptor says. -/
theorem entryMapping_sectionEntry (s : State) (r : Request) (l1 : Word) :
    s.entryMapping r (s.sectionEntry r l1) = s.sectionMapping r l1 := by
  have hsection : (s.sectionEntry r l1).isSection = true := by
    unfold State.sectionEntry TlbEntry.isSection
    cases l1.getLsbD 18 <;> rfl
  have hpa : (s.sectionEntry r l1).paAt r.mva = (s.sectionMapping r l1).pa := by
    unfold State.sectionEntry State.sectionMapping
    cases l1.getLsbD 18
    case false => exact paAt_of_base (low := 0x000FFFFF) (m := 0xFFF00) (k := 20) rfl rfl rfl rfl r.mva
    case true => exact paAt_of_base (low := 0x00FFFFFF) (m := 0xFF000) (k := 24) rfl rfl rfl rfl r.mva
  have hns : (r.ns || (s.sectionEntry r l1).nsa) = (s.sectionMapping r l1).ns := ns_or_newEntry s r _ false
  simp only [State.entryMapping, hsection, hpa, hns]
  rfl

/-- The four permission fields of a page without XP, by the two bits of the address that select one. -/
theorem subpage_field (v : Word) (k : BitVec 2) :
    (if k = 0 then v.extractLsb' 4 2 else if k = 1 then v.extractLsb' 6 2 else if k = 2 then v.extractLsb' 8 2
      else v.extractLsb' 10 2) = v.extractLsb' (4 + 2 * k.toNat) 2 := by
  have hk : ∀ k : BitVec 2, k = 0 ∨ k = 1 ∨ k = 2 ∨ k = 3 := by decide
  rcases hk k with rfl | rfl | rfl | rfl <;> rfl

/-- The type of a second-level descriptor that maps something: bit [1] is clear in a large page alone, and bit [0] in the
small page of four fields alone (21_mmu.md R644, R645). -/
theorem page_type {l2 : Word} (h : l2.extractLsb' 0 2 ≠ 0b00#2) :
    (l2.extractLsb' 0 2 == 0b01#2) = !l2.getLsbD 1 ∧ (l2.extractLsb' 0 2 == 0b10#2) = !l2.getLsbD 0 := by
  rw [extract_type] at h ⊢
  revert h
  cases l2.getLsbD 1 <;> cases l2.getLsbD 0 <;> decide

section

variable (s : State) (r : Request) (l1 : Word) {l2 : Word}

theorem isSection_pageEntry : (s.pageEntry r l1 l2).isSection = false := by
  unfold State.pageEntry TlbEntry.isSection
  cases l2.extractLsb' 0 2 == 0b01#2 <;> rfl

theorem paAt_pageEntry (h : l2.extractLsb' 0 2 ≠ 0b00#2) :
    (s.pageEntry r l1 l2).paAt r.mva = (s.pageMapping r l1 l2).pa := by
  obtain ⟨hlarge, -⟩ := page_type h
  unfold State.pageEntry State.pageMapping
  rw [hlarge]
  cases l2.getLsbD 1
  case false => exact paAt_of_base (low := 0xFFFF) (m := 0xFFFF0) (k := 16) rfl rfl rfl rfl r.mva
  case true => exact paAt_of_base (low := 0xFFF) (m := 0xFFFFF) (k := 12) rfl rfl rfl rfl r.mva

theorem xn_pageEntry (h : l2.extractLsb' 0 2 ≠ 0b00#2) :
    (s.pageEntry r l1 l2).xn = (s.pageMapping r l1 l2).xn := by
  obtain ⟨hlarge, -⟩ := page_type h
  unfold State.pageEntry State.pageMapping
  rw [hlarge]

/-- With XP a page has one permission field; without, the extended small page has one and the two others have four. -/
theorem apAt_pageEntry (h : l2.extractLsb' 0 2 ≠ 0b00#2) :
    (s.pageEntry r l1 l2).apAt r.mva = (s.pageMapping r l1 l2).ap := by
  obtain ⟨hlarge, hsmall⟩ := page_type h
  unfold State.pageEntry State.pageMapping TlbEntry.apAt
  rw [hlarge, hsmall]
  cases (s.cp15.sctlr r.ns).getLsbD 23
  case true => rfl
  case false =>
    cases l2.getLsbD 1
    case false => exact subpage_field l2 _
    case true =>
      cases l2.getLsbD 0
      case false => exact subpage_field l2 _
      case true => rfl

/-- Its memory attributes are those its descriptor selects; only the small page of four fields has no TEX bits. -/
theorem attrs_pageEntry (h : l2.extractLsb' 0 2 ≠ 0b00#2) :
    s.descriptorAttrs r.ns (s.pageEntry r l1 l2).tex (s.pageEntry r l1 l2).c (s.pageEntry r l1 l2).b
      (s.pageEntry r l1 l2).s = (s.pageMapping r l1 l2).attrs := by
  obtain ⟨hlarge, hsmall⟩ := page_type h
  unfold State.pageEntry State.pageMapping
  rw [hlarge, hsmall]
  cases l2.getLsbD 1 <;> rfl

/-- The entry of a page says of an address what its two descriptors say. -/
theorem entryMapping_pageEntry (h : l2.extractLsb' 0 2 ≠ 0b00#2) :
    s.entryMapping r (s.pageEntry r l1 l2) = s.pageMapping r l1 l2 := by
  have hns : (r.ns || (s.pageEntry r l1 l2).nsa) = (s.pageMapping r l1 l2).ns := ns_or_newEntry s r _ false
  simp only [State.entryMapping, isSection_pageEntry, paAt_pageEntry s r l1 h, hns, apAt_pageEntry s r l1 h,
    xn_pageEntry s r l1 h, attrs_pageEntry s r l1 h]
  rfl

end

/-! ### The walk -/

/-- With TTBCR.N = 0 a walk begins at TTBR0 (21_mmu.md R634, R635). -/
theorem l1Addr_eq {s : State} {r : Request} (hn : (s.cp15.bank r.ns).ttbcr.extractLsb' 0 3 = 0#3) :
    (s.cp15.bank r.ns).l1Addr r.mva = s.firstDescriptor r := by
  have halign (a : Word) : alignDown a 14 = a &&& 0xFFFFC000 := BitVec.shiftLeft_ushiftRight
  simp [Banked.l1Addr, State.firstDescriptor, hn, useTtbr0, halign]

/-- What a walk finds, as the mapping its descriptors say (21_mmu.md R676). -/
theorem walkOutcome_eq {s : State} {r : Request} (hn : (s.cp15.bank r.ns).ttbcr.extractLsb' 0 3 = 0#3) :
    s.walkOutcome r = (s.walk r).bind fun e => s.mappingOutcome r (s.entryMapping r e) := by
  have httbr0 : useTtbr0 r.mva (0#3).toNat = true := rfl
  have hsecond (l1 : Word) : l2Addr l1 r.mva = secondDescriptor l1 r.mva := rfl
  unfold State.walk State.walkOutcome
  simp only [l1Addr_eq hn, hn, httbr0, if_true, hsecond, extract_type (s.physWord (s.firstDescriptor r))]
  generalize s.physWord (s.firstDescriptor r) = l1
  cases (s.cp15.bank r.ns).ttbcr.getLsbD 4
  case true => rfl
  case false =>
    cases s.busError (Access.read.onBus (s.firstDescriptor r) r.ns r.priv)
    case some => rfl
    case none =>
      cases l1.getLsbD 1 <;> cases l1.getLsbD 0
      case false.false | true.true => rfl
      case true.false => exact congrArg (s.mappingOutcome r) (entryMapping_sectionEntry s r l1).symm
      case false.true =>
        cases s.busError (Access.read.onBus (secondDescriptor l1 r.mva) r.ns r.priv)
        case some => rfl
        case none =>
          by_cases hmaps : (s.physWord (secondDescriptor l1 r.mva)).extractLsb' 0 2 = 0b00#2
          · simp only [hmaps]
            rfl
          · simp only [hmaps, if_false, ← entryMapping_pageEntry s r l1 hmaps]
            rfl

/-! ### Translation -/

/-- With the MMU off a translation answers the flat mapping. -/
theorem run_translate_off {s : State} {r : Request} (h : (s.cp15.sctlr r.ns).getLsbD 0 = false) :
    (translate r).run s = .ok (.ok (s.flatTranslation r)) s := by
  show EStateM.Result.ok (s.translate r).1 (s.translate r).2 = _
  simp only [State.translate, State.translateDeferred, h, Bool.not_false, if_true]

/-- A lockdown entry that matches answers. -/
theorem run_translate_hit {s : State} {r : Request} {e : TlbEntry} (hon : (s.cp15.sctlr r.ns).getLsbD 0 = true)
    (hhit : s.tlbLookup r = some e) :
    (translate r).run s = .ok (s.mappingOutcome r (s.entryMapping r e)) s := by
  simp only [run_translate_on hon, State.findEntry, hhit]

/-- A request that no lockdown entry matches is answered by the walk, which leaves the state as it is or inserts an entry. -/
theorem run_translate_walk {s : State} {r : Request} (hon : (s.cp15.sctlr r.ns).getLsbD 0 = true)
    (hmiss : s.tlbLookup r = none) (hn : (s.cp15.bank r.ns).ttbcr.extractLsb' 0 3 = 0#3) :
    ∃ u, (translate r).run s = .ok (s.walkOutcome r) u ∧ (u = s ∨ ∃ e, u = s.insertEntry e) := by
  rw [run_translate_on hon, State.findEntry, hmiss, walkOutcome_eq hn]
  cases s.walk r
  case error f => exact ⟨s, rfl, .inl rfl⟩
  case ok e => exact ⟨s.insertEntry e, rfl, .inr ⟨e, rfl⟩⟩

/-- Settles O57: a translation is the flat mapping, the mapping of the lockdown entry that matches, or that of the descriptors
of the walk. -/
theorem sectionsTranslateAndCheckPermission : Obligations.SectionsTranslateAndCheckPermission := by
  intro s r ctl
  refine ⟨fun hoff => ?_, fun hon => ⟨fun e hhit => run_translate_hit hon hhit, fun hmiss hn => ?_⟩⟩
  · intro attrs
    have hattrs : s.cp15.offAttrs r.ns r.kind = attrs := by
      simp only [Cp15.offAttrs, Bool.and_eq_true, beq_iff_eq]
      rfl
    rw [← hattrs]
    exact run_translate_off hoff
  · obtain ⟨u, hrun, rfl | ⟨e, rfl⟩⟩ := run_translate_walk hon hmiss hn
    · exact ⟨u, hrun, fun _ => rfl, rfl⟩
    · obtain ⟨hunlocked, tlb, lockdown, hframe⟩ := s.insertEntry_frame e
      refine ⟨_, hrun, hunlocked, ?_⟩
      rw [hframe]

end Sys2Proof.MemoryManagement

/-!
What an operation leaves of the stores: main memory and the four TCMs. An operation that leaves them is one whose every run,
to its end or to a stop, ends with the stores it began with; the operations of the model but the writes of data are such
(22_l1_l2.md R760, 62_platform.md R1909).
-/
namespace Sys2Proof.StoresFrame

open Sys2Proof Sys2Proof.Machine

/-! ### The stores of a state and the end of an operation -/

/-- The contents of main memory and of the four TCMs. -/
def stores (s : State) : List Host.Cell × List Host.Cell × List Host.Cell × List Host.Cell × List Host.Cell :=
  (s.mem, s.itcm0, s.itcm1, s.dtcm0, s.dtcm1)

theorem stores_eq_iff {s t : State} : stores t = stores s ↔ t.mem = s.mem ∧ ∀ k, t.tcmCells k = s.tcmCells k := by
  constructor
  · intro h
    obtain ⟨hm, h0, h1, h2, h3⟩ : t.mem = s.mem ∧ t.itcm0 = s.itcm0 ∧ t.itcm1 = s.itcm1 ∧ t.dtcm0 = s.dtcm0 ∧
      t.dtcm1 = s.dtcm1 := by simpa only [stores, Prod.mk.injEq] using h
    exact ⟨hm, fun k => by cases k <;> assumption⟩
  · rintro ⟨hm, hk⟩
    simp only [stores, Prod.mk.injEq]
    exact ⟨hm, hk .itcm0, hk .itcm1, hk .dtcm0, hk .dtcm1⟩

/-- The canonical form is a property of the stores. -/
theorem memoryOk_of_stores {s t : State} (h : stores t = stores s) (hs : s.MemoryOk) : t.MemoryOk := by
  obtain ⟨hm, hk⟩ := stores_eq_iff.1 h
  rw [State.memoryOk_iff] at hs ⊢
  rw [hm]
  exact ⟨hs.1, fun k => hk k ▸ hs.2 k⟩

/-- The state in which an operation ends, with a value or by a stop. -/
def endState {α : Type} (x : M α) (s : State) : State :=
  match x s with
  | .ok _ t => t
  | .error _ t => t

theorem endState_of_run {α : Type} {x : M α} {s t : State} {a : α} (h : x.run s = .ok a t) : endState x s = t := by
  have h : x s = .ok a t := h
  simp only [endState, h]

theorem endState_of_stop {α : Type} {x : M α} {s t : State} {e : Stop} (h : x.run s = .error e t) : endState x s = t := by
  have h : x s = .error e t := h
  simp only [endState, h]

theorem endState_bind {α β : Type} (x : M α) (f : α → M β) (s : State) :
    endState (x >>= f) s = match x.run s with
      | .ok a t => endState (f a) t
      | .error _ t => t := by
  have h := run_bind x f s
  cases hx : x.run s with
  | ok a t => rw [hx] at h; simp only [endState, show (x >>= f) s = (f a) t from h]
  | error e t => rw [hx] at h; exact endState_of_stop h

/-- The operation leaves the stores. -/
def LeavesStores {α : Type} (x : M α) : Prop := ∀ s, stores (endState x s) = stores s

/-! ### The steps of the monad -/

theorem leaves_pure {α : Type} {a : α} : LeavesStores (pure a) := fun _ => rfl

theorem leaves_get : LeavesStores (get : M State) := fun _ => rfl

theorem leaves_throw {α : Type} {e : Stop} : LeavesStores (throw e : M α) := fun _ => rfl

theorem leaves_modify {f : State → State} (h : ∀ s, stores (f s) = stores s) : LeavesStores (modify f : M PUnit) := h

theorem leaves_liftState {α : Type} {f : State → α × State} (h : ∀ s, stores (f s).2 = stores s) :
    LeavesStores (liftState f) := h

theorem LeavesStores.bind {α β : Type} {x : M α} {f : α → M β} (hx : LeavesStores x) (hf : ∀ a, LeavesStores (f a)) :
    LeavesStores (x >>= f) := by
  intro s
  rw [endState_bind]
  cases h : x.run s with
  | ok a t => exact (hf a t).trans (endState_of_run h ▸ hx s)
  | error e t => exact endState_of_stop h ▸ hx s

/-- An operation that goes on by the state it reads has to leave the stores of that state only. -/
theorem leaves_get_bind {α : Type} {f : State → M α} (h : ∀ s, stores (endState (f s) s) = stores s) :
    LeavesStores (get >>= f) := fun s => by
  rw [endState_bind]
  exact h s

theorem leaves_ite {α : Type} {p : Prop} [Decidable p] {x y : M α} (hx : LeavesStores x) (hy : LeavesStores y) :
    LeavesStores (if p then x else y) := by
  split
  · exact hx
  · exact hy

theorem leaves_draw : LeavesStores draw := fun _ => rfl

theorem leaves_refuse {α : Type} {r : Refusal} : LeavesStores (refuse r : M α) := leaves_throw

theorem leaves_refuseIf {c : Bool} {r : Refusal} : LeavesStores (refuseIf c r) := leaves_ite leaves_refuse leaves_pure

theorem leaves_unpredictableIf {c : Bool} : LeavesStores (unpredictableIf c) := leaves_refuseIf

theorem leaves_shouldBe {c : Bool} : LeavesStores (shouldBe c) := leaves_refuseIf

/-! ### Functions of the state that leave the stores -/

theorem stores_ite {p : Prop} [Decidable p] {s t u : State} (ht : stores t = stores s) (hu : stores u = stores s) :
    stores (if p then t else u) = stores s := by
  split
  · exact ht
  · exact hu

@[simp] theorem stores_branchTo (s : State) (a : Word) : stores (s.branchTo a) = stores s := by simp [stores]

@[simp] theorem stores_setSpsrOf (s : State) (m : Mode) (v : Word) : stores (s.setSpsrOf m v) = stores s := by simp [stores]

@[simp] theorem stores_takeException (s : State) (k : Exn) (ret : Word) (mon : Bool) :
    stores (s.takeException k ret mon) = stores s := by simp [stores]

@[simp] theorem stores_recordImprecise (s : State) (a : ImpreciseAbort) : stores (s.recordImprecise a) = stores s := by
  simp [stores]

@[simp] theorem stores_idleStep (s : State) (en : PmuEnables) : stores (s.idleStep en) = stores s := by simp [stores]

@[simp] theorem stores_pmuTick (s : State) (en : PmuEnables) (n : Nat) : stores (s.pmuTick en n) = stores s := by
  simp [stores]

theorem stores_insertEntry (s : State) (e : TlbEntry) : stores (s.insertEntry e) = stores s := by
  obtain ⟨_, tlb, lockdown, h⟩ := s.insertEntry_frame e
  rw [h]
  rfl

theorem stores_findEntry (s : State) (r : Request) : stores (s.findEntry r).2 = stores s := by
  unfold State.findEntry
  split
  · rfl
  · split
    · rfl
    · exact stores_insertEntry _ _

theorem stores_translateDeferred (s : State) (r : Request) : stores (s.translateDeferred r).2 = stores s := by
  unfold State.translateDeferred
  have h := stores_findEntry s r
  split
  · rfl
  · split
    · next hf => rw [hf] at h; exact h
    · next hf => rw [hf] at h; exact h

theorem stores_translate (s : State) (r : Request) : stores (s.translate r).2 = stores s := by
  unfold State.translate
  have h := stores_translateDeferred s r
  split
  · next ht => rw [ht] at h; exact h
  · next ht => rw [ht] at h; exact h
  · next ht => rw [ht] at h; exact h

/-! ### Registers, the PC and the status registers -/

theorem leaves_readPc : LeavesStores readPc := by
  unfold readPc
  exact leaves_get.bind fun _ => leaves_ite (leaves_ite leaves_pure leaves_draw) leaves_pure

theorem leaves_readReg {n : BitVec 4} : LeavesStores (readReg n) := by
  unfold readReg
  exact leaves_ite leaves_readPc (leaves_get.bind fun _ => leaves_pure)

theorem leaves_readUserReg {n : BitVec 4} : LeavesStores (readUserReg n) := by
  unfold readUserReg
  exact leaves_ite leaves_readPc (leaves_get.bind fun _ => leaves_pure)

theorem leaves_writeReg {n : BitVec 4} {v : Word} : LeavesStores (writeReg n v) := leaves_modify fun _ => rfl

theorem leaves_writeUserReg {n : BitVec 4} {v : Word} : LeavesStores (writeUserReg n v) := leaves_modify fun _ => rfl

theorem leaves_setRegOf {m : Mode} {n : BitVec 4} {v : Word} : LeavesStores (modify fun s => s.setRegOf m n v) :=
  leaves_modify fun _ => rfl

theorem leaves_readSpsr : LeavesStores readSpsr := by
  unfold readSpsr
  refine leaves_get.bind fun s => ?_
  cases spsrSlot s.mode with
  | none => exact leaves_refuse
  | some k => exact leaves_pure

theorem leaves_advance : LeavesStores advance := leaves_modify fun _ => stores_ite rfl rfl

theorem leaves_branchTo {a : Word} : LeavesStores (branchTo a) := leaves_modify fun s => stores_branchTo s a

theorem leaves_aluWritePc {v : Word} : LeavesStores (aluWritePc v) := leaves_modify fun s => stores_branchTo s _

theorem leaves_bxWritePc {v : Word} : LeavesStores (bxWritePc v) := by
  unfold bxWritePc
  exact leaves_ite (leaves_modify fun _ => stores_branchTo _ _)
    (leaves_ite leaves_refuse (leaves_modify fun _ => stores_branchTo _ _))

theorem leaves_loadWritePc {v : Word} : LeavesStores (loadWritePc v) := by
  unfold loadWritePc
  exact leaves_get.bind fun _ => leaves_ite leaves_branchTo leaves_bxWritePc

theorem leaves_setFlags {f : Nzcv} : LeavesStores (setFlags f) := leaves_modify fun _ => rfl

theorem leaves_setNz {w : Word} : LeavesStores (setNz w) := leaves_modify fun _ => rfl

theorem leaves_setQIf {c : Bool} : LeavesStores (setQIf c) := leaves_modify fun _ => stores_ite rfl rfl

theorem leaves_writeCpsr {k : PsrWrite} {m v : Word} : LeavesStores (writeCpsr k m v) := by
  unfold writeCpsr
  refine leaves_get_bind fun s => ?_
  dsimp only
  split
  · split
    · rfl
    · split <;> rfl
  · rfl

theorem leaves_exceptionReturn {a psr : Word} : LeavesStores (exceptionReturn a psr) := by
  unfold exceptionReturn
  exact leaves_writeCpsr.bind fun _ => leaves_get.bind fun _ =>
    leaves_ite (leaves_throw.bind fun _ => leaves_modify fun _ => stores_branchTo _ _)
      (leaves_modify fun _ => stores_branchTo _ _)

/-! ### Exceptions -/

theorem leaves_raise {α : Type} {k : Exn} {ret : State → Word} {mon : State → Bool} :
    LeavesStores (raise k ret mon : M α) := by
  unfold raise
  refine (leaves_modify fun s => ?_).bind fun _ => leaves_throw
  split
  · cases k <;> rfl
  · exact stores_takeException _ _ _ _

theorem leaves_raiseUndefined {α : Type} : LeavesStores (raiseUndefined : M α) := leaves_raise

theorem leaves_undefinedIf {c : Bool} : LeavesStores (undefinedIf c) := leaves_ite leaves_raiseUndefined leaves_pure

theorem leaves_takeDataAbort {α : Type} {a : DataAbort} : LeavesStores (takeDataAbort a : M α) := by
  unfold takeDataAbort
  refine (leaves_modify fun s => ?_).bind fun _ => leaves_raise
  rfl

theorem leaves_takePrefetchAbort {α : Type} {a : FetchAbort} : LeavesStores (takePrefetchAbort a : M α) := by
  unfold takePrefetchAbort
  refine (leaves_modify fun s => ?_).bind fun _ => leaves_raise
  rfl

/-! ### Accesses that read -/

theorem leaves_translate {r : Request} : LeavesStores (translate r) := leaves_liftState fun s => stores_translate s r

theorem leaves_checkAlignment {t : AccessType} {va : Word} {w : Bool} : LeavesStores (checkAlignment t va w) := by
  unfold checkAlignment
  refine leaves_get.bind fun s => leaves_refuseIf.bind fun _ => ?_
  cases alignCheck (s.sctlr.getLsbD 1) (s.sctlr.getLsbD 22) t (va.extractLsb' 0 3) <;> exact leaves_pure

theorem leaves_locate {va : Word} {k : Access} {priv : Bool} : LeavesStores (locate va k priv) := by
  unfold locate
  refine leaves_get.bind fun s => leaves_translate.bind fun r => ?_
  cases r with
  | error f => exact leaves_pure
  | ok t =>
    dsimp only
    cases s.placeOf s.nonSecure k t with
    | none => exact leaves_refuse
    | some p => exact leaves_pure

theorem leaves_checkUnaligned {m : Mode1} {p : Place} {mva : Word} {w : Bool} : LeavesStores (checkUnaligned m p mva w) := by
  unfold checkUnaligned
  exact leaves_ite (leaves_get.bind fun _ => leaves_ite leaves_pure leaves_refuse) leaves_pure

theorem leaves_recordWatch {d : Word} {size len : Nat} {l w p : Bool} {dom : BitVec 4} :
    LeavesStores (recordWatch d size len l w p dom) := leaves_modify fun _ => stores_ite rfl rfl

theorem leaves_recordImprecise {f : State → ImpreciseAbort} : LeavesStores (modify fun s => s.recordImprecise (f s)) :=
  leaves_modify fun s => stores_recordImprecise s _

theorem leaves_orAbort {α : Type} {r : Except DataAbort α} : LeavesStores (orAbort r) := by
  cases r with
  | ok a => exact leaves_pure
  | error a => exact leaves_takeDataAbort

theorem leaves_readParts {m : Mode1} {l : List Part} {g : Gathered} : LeavesStores (readParts m l g) := by
  induction l generalizing g with
  | nil => exact leaves_pure
  | cons p ps ih =>
    unfold readParts
    refine leaves_get.bind fun _ => leaves_get.bind fun _ => leaves_locate.bind fun r => ?_
    cases r with
    | error f => exact leaves_pure
    | ok place =>
      refine leaves_checkUnaligned.bind fun o => ?_
      cases o with
      | some a => exact leaves_pure
      | none =>
        refine leaves_recordWatch.bind fun _ => leaves_get.bind fun s => ?_
        cases s.placeError place .read m.priv with
        | none => exact ih
        | some slverr => exact leaves_ite leaves_pure (leaves_recordImprecise.bind fun _ => ih)

theorem leaves_drawItem {n : Nat} : LeavesStores (drawItem n) := by
  unfold drawItem
  exact leaves_draw.bind fun _ => leaves_pure

theorem leaves_readChecked {m : Mode1} {va : Word} {n : Nat} : LeavesStores (readChecked m va n) := by
  unfold readChecked
  refine leaves_readParts.bind fun r => ?_
  cases r with
  | error a => exact leaves_pure
  | ok g => exact leaves_get.bind fun _ => leaves_ite (leaves_drawItem.bind fun _ => leaves_pure) leaves_pure

theorem leaves_readItem {m : Mode1} {va : Word} {n : Nat} : LeavesStores (readItem m va n) := by
  unfold readItem
  refine leaves_readChecked.bind fun r => ?_
  cases r <;> exact leaves_pure

theorem leaves_loadItem {t : AccessType} {n : Nat} {user precise : Bool} {va : Word} :
    LeavesStores (loadItem t n user precise va) := by
  unfold loadItem
  exact leaves_checkAlignment.bind fun _ => leaves_orAbort.bind fun _ => leaves_get.bind fun _ =>
    leaves_readItem.bind fun _ => leaves_orAbort.bind fun _ => leaves_pure

theorem leaves_loadPcWord {va : Word} : LeavesStores (loadPcWord va) := by
  unfold loadPcWord
  exact leaves_checkAlignment.bind fun _ => leaves_orAbort.bind fun _ => leaves_get.bind fun _ =>
    leaves_ite leaves_takeDataAbort leaves_loadItem

theorem leaves_loadWords {m : Mode1} {va : Word} {n : Nat} : LeavesStores (loadWords m va n) := by
  induction n generalizing va with
  | zero => exact leaves_pure
  | succ n ih =>
    unfold loadWords
    refine leaves_readItem.bind fun r => ?_
    cases r with
    | error a => exact leaves_pure
    | ok w => exact ih.bind fun _ => leaves_pure

theorem leaves_loadedOrOld {old new : Word} : LeavesStores (loadedOrOld old new) := by
  unfold loadedOrOld
  exact leaves_draw.bind fun _ => leaves_pure

theorem leaves_fetchInsn : LeavesStores fetchInsn := by
  unfold fetchInsn
  refine leaves_get.bind fun s => leaves_translate.bind fun r => ?_
  cases r with
  | error f => exact leaves_pure
  | ok t =>
    refine leaves_get.bind fun u => leaves_refuseIf.bind fun _ => ?_
    split
    · exact leaves_pure
    · exact leaves_ite leaves_pure leaves_pure

/-! ### The exclusive monitors -/

theorem leaves_setLocal {f : State → Bool} : LeavesStores (modify fun s => s.setLocal (f s)) := leaves_modify fun _ => rfl

theorem leaves_recordExclusive {mva : Word} {n : Nat} {l p : Bool} {dom : BitVec 4} :
    LeavesStores (recordExclusive mva n l p dom) := by
  unfold recordExclusive
  exact leaves_ite (leaves_recordWatch.bind fun _ => leaves_recordWatch) leaves_recordWatch

theorem stores_markExclusive (s : State) (p : Place) (n : Nat) : stores (s.markExclusive p n) = stores s := by
  unfold State.markExclusive
  split <;> rfl

theorem leaves_freeLocal : LeavesStores freeLocal := by
  unfold freeLocal
  exact leaves_draw.bind fun _ => leaves_setLocal

theorem leaves_readItems {m : Mode1} {n : Nat} {vas : List Word} : LeavesStores (readItems m n vas) := by
  induction vas with
  | nil => exact leaves_pure
  | cons va vas ih =>
    unfold readItems
    refine leaves_readChecked.bind fun r => ?_
    cases r with
    | error a => exact leaves_pure
    | ok w =>
      refine ih.bind fun ws => ?_
      cases ws <;> exact leaves_pure

theorem leaves_loadWithoutMonitor {m : Mode1} {p : Place} {mva : Word} {n : Nat} :
    LeavesStores (loadWithoutMonitor m p mva n) := by
  unfold loadWithoutMonitor
  exact leaves_get.bind fun _ => leaves_recordExclusive.bind fun _ => leaves_draw.bind fun _ => leaves_freeLocal.bind fun _ =>
    leaves_ite leaves_takeDataAbort (leaves_recordImprecise.bind fun _ => leaves_drawItem.bind fun _ =>
      leaves_draw.bind fun _ => leaves_pure)

theorem leaves_loadExclusive {t : AccessType} {va : Word} {n : Nat} : LeavesStores (loadExclusive t va n) := by
  unfold loadExclusive
  refine leaves_checkAlignment.bind fun _ => leaves_orAbort.bind fun a => leaves_get.bind fun s => leaves_locate.bind fun r => ?_
  cases r with
  | error f => exact leaves_takeDataAbort
  | ok p =>
    refine leaves_refuseIf.bind fun _ => leaves_get.bind fun _ => leaves_ite leaves_loadWithoutMonitor
      (leaves_readItems.bind fun r => ?_)
    cases r with
    | error e => exact leaves_ite (leaves_freeLocal.bind fun _ => leaves_takeDataAbort) leaves_takeDataAbort
    | ok ws =>
      exact leaves_ite (leaves_freeLocal.bind fun _ => leaves_pure)
        ((leaves_modify fun s => stores_markExclusive s p n).bind fun _ => leaves_pure)

theorem leaves_abortExclusive {α : Type} {e : DataAbort} : LeavesStores (abortExclusive e : M α) := by
  unfold abortExclusive
  exact leaves_setLocal.bind fun _ => leaves_takeDataAbort

theorem leaves_storeFails {m : Mode1} {mva : Word} {n : Nat} {dom : BitVec 4} : LeavesStores (storeFails m mva n dom) := by
  unfold storeFails
  exact leaves_recordExclusive.bind fun _ => leaves_setLocal.bind fun _ => leaves_pure

/-! ### The coprocessors -/

theorem stores_updateDma (s : State) (f : DmaChannel → DmaChannel) : stores (s.updateDma f) = stores s := by
  unfold State.updateDma
  dsimp only
  split <;> rfl

theorem stores_waitForInterrupt (s : State) : stores s.waitForInterrupt = stores s := by
  unfold State.waitForInterrupt
  split <;> rfl

theorem stores_barrier (s : State) : stores s.barrier = stores s := by
  unfold State.barrier
  dsimp only
  split <;> rfl

/-- A write of a CP15 register changes no store. -/
theorem stores_cp15Write (s : State) (c : AccessClass) (r : Cp15Reg) (v : Word) : stores (s.cp15Write c r v) = stores s := by
  cases r with
  | waitForInterrupt => exact stores_waitForInterrupt s
  | dataSyncBarrier | dataMemBarrier => exact stores_barrier s
  | dmaControl | dmaIntStart | dmaExtStart | dmaIntEnd | dmaContext => exact stores_updateDma s _
  | sctlr | tcmSelection =>
    unfold State.cp15Write
    dsimp only
    split <;> rfl
  | _ => rfl

theorem leaves_probe {mva : Word} {k : Access} : LeavesStores (probe mva k) := by
  unfold probe
  refine leaves_get_bind fun s => ?_
  dsimp only
  split
  · rfl
  · split
    · rfl
    · exact stores_insertEntry s _

theorem leaves_cacheAbort {α : Type} {instr : Bool} {mva : Word} {f : MmuFault} :
    LeavesStores (cacheAbort instr mva f : M α) := by
  unfold cacheAbort
  refine (leaves_modify fun s => ?_).bind fun _ => leaves_raise
  exact stores_ite rfl rfl

theorem leaves_cacheLine {instr : Bool} {mva : Word} : LeavesStores (cacheLine instr mva) := by
  unfold cacheLine
  refine leaves_probe.bind fun o => ?_
  cases o with
  | none => exact leaves_pure
  | some f => exact leaves_cacheAbort

theorem leaves_cacheLines {instr : Bool} {n : Nat} {va : Word} : LeavesStores (cacheLines instr n va) := by
  induction n generalizing va with
  | zero => exact leaves_pure
  | succ n ih =>
    unfold cacheLines
    exact leaves_get.bind fun _ => leaves_cacheLine.bind fun _ => ih

theorem leaves_cacheRange {instr : Bool} {a b : Word} : LeavesStores (cacheRange instr a b) := by
  unfold cacheRange
  exact leaves_get.bind fun _ => leaves_ite leaves_pure leaves_cacheLines

theorem leaves_setPar {f : State → Word} : LeavesStores (modify fun s => s.setPar (f s)) := leaves_modify fun _ => rfl

theorem leaves_vaToPa {k : BitVec 3} {va : Word} : LeavesStores (vaToPa k va) := by
  unfold vaToPa
  refine leaves_get.bind fun s => leaves_translate.bind fun r => ?_
  cases r with
  | error f => exact leaves_setPar.bind fun _ => leaves_ite leaves_takeDataAbort leaves_pure
  | ok t =>
    dsimp only
    cases t.attrs with
    | some a => exact leaves_setPar
    | none => exact leaves_draw.bind fun _ => leaves_setPar

theorem leaves_cp15Effect {c : AccessClass} {r : Cp15Reg} {v : Word} : LeavesStores (cp15Effect c r v) := by
  unfold cp15Effect
  split
  · exact leaves_cacheLine
  · exact leaves_cacheLine
  · exact leaves_cacheLine
  · exact leaves_cacheLine
  · exact leaves_cacheLine
  · exact leaves_vaToPa
  · exact leaves_refuseIf
  · exact leaves_modify fun s => stores_cp15Write s c _ v

theorem leaves_readCp15 {op1 : BitVec 3} {crn crm : BitVec 4} {op2 : BitVec 3} : LeavesStores (readCp15 op1 crn crm op2) := by
  unfold readCp15
  refine leaves_get.bind fun s => ?_
  cases Cp15Reg.select op1 crn crm op2 with
  | none => exact leaves_raiseUndefined
  | some r => exact leaves_undefinedIf.bind fun _ => leaves_pure

theorem leaves_writeCp15 {op1 : BitVec 3} {crn crm rd : BitVec 4} {op2 : BitVec 3} :
    LeavesStores (writeCp15 op1 crn crm op2 rd) := by
  unfold writeCp15
  refine leaves_get.bind fun s => ?_
  cases Cp15Reg.select op1 crn crm op2 with
  | none => exact leaves_raiseUndefined
  | some r => exact leaves_undefinedIf.bind fun _ => leaves_unpredictableIf.bind fun _ => leaves_cp15Effect

theorem leaves_writeCp15Range {op1 crm rd rn : BitVec 4} : LeavesStores (writeCp15Range op1 crm rd rn) := by
  unfold writeCp15Range
  exact leaves_get.bind fun _ => leaves_undefinedIf.bind fun _ => leaves_unpredictableIf.bind fun _ => leaves_cacheRange

theorem stores_debugWrite (s : State) (r : Cp14Reg) (v : Word) : stores (s.debugWrite r v) = stores s := by
  cases r <;> rfl

theorem stores_cp14Write (s : State) (r : Cp14Reg) (v : Word) : stores (s.cp14Write r v) = stores s := by
  cases r <;> rfl

theorem leaves_rdtrRead : LeavesStores (modify State.rdtrRead) := leaves_modify fun _ => rfl

theorem leaves_wdtrWrite {v : Word} : LeavesStores (modify fun s => s.wdtrWrite v) := leaves_modify fun _ => rfl

theorem leaves_readCp14 {op1 : BitVec 3} {crn crm : BitVec 4} {op2 : BitVec 3} : LeavesStores (readCp14 op1 crn crm op2) := by
  unfold readCp14
  refine leaves_get.bind fun s => ?_
  cases Cp14Reg.select op1 crn crm op2 with
  | none => exact leaves_raiseUndefined
  | some r =>
    exact leaves_undefinedIf.bind fun _ => leaves_ite (leaves_rdtrRead.bind fun _ => leaves_pure) leaves_pure

theorem leaves_writeCp14 {op1 : BitVec 3} {crn crm rd : BitVec 4} {op2 : BitVec 3} :
    LeavesStores (writeCp14 op1 crn crm op2 rd) := by
  unfold writeCp14
  refine leaves_get.bind fun s => ?_
  cases Cp14Reg.select op1 crn crm op2 with
  | none => exact leaves_raiseUndefined
  | some r => exact leaves_undefinedIf.bind fun _ => leaves_modify fun s => stores_cp14Write s r _

theorem leaves_finishMrc14 {rd : BitVec 4} {r : Cp14Reg} {v : Word} : LeavesStores (finishMrc14 rd r v) := by
  unfold finishMrc14
  exact leaves_ite (leaves_ite leaves_setFlags (leaves_draw.bind fun _ => leaves_setFlags)) leaves_writeReg

theorem leaves_dtrOnly {cp crd : BitVec 4} : LeavesStores (dtrOnly cp crd) := by
  unfold dtrOnly
  exact leaves_get.bind fun _ => leaves_undefinedIf

end Sys2Proof.StoresFrame

/-!
The meanings that leave the stores: the shared operations of the instructions that store no data, and every such instruction
(40_dataproc.md to 47_thumb.md).
-/
namespace Sys2Proof.StoresFrame

open Sys2Proof Sys2Proof.Machine

/-! ### Operands and addresses -/

theorem leaves_operand2 {o : Operand2} : LeavesStores (operand2 o) := by
  unfold operand2
  refine leaves_get.bind fun _ => ?_
  cases o with
  | imm rot imm8 => exact leaves_pure
  | shifted imm5 type rm => exact leaves_readReg.bind fun _ => leaves_pure
  | shiftedByReg rs type rm => exact leaves_readReg.bind fun _ => leaves_readReg.bind fun _ => leaves_pure

theorem leaves_offsetValue {o : Offset} : LeavesStores (offsetValue o) := by
  cases o with
  | imm v => exact leaves_pure
  | reg imm5 type rm => exact leaves_get.bind fun _ => leaves_readReg.bind fun _ => leaves_pure

theorem leaves_addressMode {x : Index} {rn : BitVec 4} {o : Offset} : LeavesStores (addressMode x rn o) := by
  unfold addressMode
  exact leaves_readReg.bind fun _ => leaves_offsetValue.bind fun _ => leaves_pure

theorem leaves_writeBack {rn : BitVec 4} {a : Addressed} : LeavesStores (writeBack rn a) := by
  unfold writeBack
  cases a.wb with
  | none => exact leaves_pure
  | some v => exact leaves_writeReg

theorem leaves_storedPc : LeavesStores storedPc := by
  unfold storedPc
  exact leaves_get.bind fun _ => leaves_ite leaves_readPc leaves_pure

theorem leaves_storedReg {n : BitVec 4} : LeavesStores (storedReg n) := leaves_ite leaves_storedPc leaves_readReg

/-! ### Data processing -/

theorem leaves_dataProcessing {op : AluOp} {sBit : Bool} {rn rd : BitVec 4} {o : Operand2} :
    LeavesStores (dataProcessing op sBit rn rd o) := by
  unfold dataProcessing
  exact leaves_unpredictableIf.bind fun _ => leaves_operand2.bind fun _ => leaves_readReg.bind fun _ => leaves_get.bind fun _ =>
    leaves_ite (leaves_writeReg.bind fun _ => leaves_ite (leaves_setFlags.bind fun _ => leaves_advance) leaves_advance)
      (leaves_ite leaves_aluWritePc (leaves_readSpsr.bind fun _ => leaves_exceptionReturn))

theorem leaves_compare {op : AluOp} {rn : BitVec 4} {o : Operand2} : LeavesStores (Machine.compare op rn o) := by
  unfold Machine.compare
  exact leaves_unpredictableIf.bind fun _ => leaves_operand2.bind fun _ => leaves_readReg.bind fun _ => leaves_get.bind fun _ =>
    leaves_setFlags.bind fun _ => leaves_advance

theorem leaves_moveOp {op : AluOp} {sBit : Bool} {sbz rd : BitVec 4} {o : Operand2} :
    LeavesStores (moveOp op sBit sbz rd o) := by
  unfold moveOp
  exact leaves_shouldBe.bind fun _ => leaves_dataProcessing

theorem leaves_compareOp {op : AluOp} {rn sbz : BitVec 4} {o : Operand2} : LeavesStores (compareOp op rn sbz o) := by
  unfold compareOp
  exact leaves_shouldBe.bind fun _ => leaves_compare

/-! ### Multiplies and media -/

theorem leaves_finishWord {sBit : Bool} {rd : BitVec 4} {w : Word} : LeavesStores (finishWord sBit rd w) := by
  unfold finishWord
  exact leaves_writeReg.bind fun _ => leaves_ite (leaves_setNz.bind fun _ => leaves_advance) leaves_advance

theorem leaves_finishAccumulate {rd : BitVec 4} {v : Int} : LeavesStores (finishAccumulate rd v) := by
  unfold finishAccumulate
  exact leaves_writeReg.bind fun _ => leaves_setQIf.bind fun _ => leaves_advance

theorem leaves_readLong {hi lo : BitVec 4} : LeavesStores (readLong hi lo) := by
  unfold readLong
  exact leaves_readReg.bind fun _ => leaves_readReg.bind fun _ => leaves_pure

theorem leaves_setNzLong {d : DWord} : LeavesStores (setNzLong d) := leaves_modify fun _ => rfl

theorem leaves_finishLong {sBit : Bool} {hi lo : BitVec 4} {v : Int} : LeavesStores (finishLong sBit hi lo v) := by
  unfold finishLong
  exact leaves_writeReg.bind fun _ => leaves_writeReg.bind fun _ =>
    leaves_ite (leaves_setNzLong.bind fun _ => leaves_advance) leaves_advance

theorem leaves_longRestrictions {hi lo rs rm : BitVec 4} : LeavesStores (longRestrictions hi lo rs rm) := leaves_unpredictableIf

theorem leaves_readDual {x : Bool} {rs rm : BitVec 4} : LeavesStores (readDual x rs rm) := by
  unfold readDual
  exact leaves_readReg.bind fun _ => leaves_readReg.bind fun _ => leaves_pure

theorem leaves_saturating {f : Int → Int → Int} {d : Bool} {rn rd sbz rm : BitVec 4} :
    LeavesStores (saturating f d rn rd sbz rm) := by
  unfold saturating
  exact leaves_shouldBe.bind fun _ => leaves_unpredictableIf.bind fun _ => leaves_readReg.bind fun _ =>
    leaves_readReg.bind fun _ => leaves_writeReg.bind fun _ => leaves_setQIf.bind fun _ => leaves_advance

theorem leaves_parallel {p : ParPrefix} {op : ParOp} {rn rd sbo rm : BitVec 4} : LeavesStores (parallel p op rn rd sbo rm) := by
  unfold parallel
  refine leaves_shouldBe.bind fun _ => leaves_unpredictableIf.bind fun _ => leaves_readReg.bind fun _ =>
    leaves_readReg.bind fun _ => leaves_writeReg.bind fun _ =>
      leaves_ite ((leaves_modify fun s => ?_).bind fun _ => leaves_advance) leaves_advance
  rfl

theorem leaves_rotatedReg {r : BitVec 2} {rm : BitVec 4} : LeavesStores (rotatedReg r rm) := by
  unfold rotatedReg
  exact leaves_readReg.bind fun _ => leaves_pure

theorem leaves_extend {e : Extend} {signed : Bool} {rd rm : BitVec 4} {r sbz : BitVec 2} :
    LeavesStores (extend e signed rd r sbz rm) := by
  unfold extend
  exact leaves_shouldBe.bind fun _ => leaves_unpredictableIf.bind fun _ => leaves_rotatedReg.bind fun _ => leaves_finishWord

theorem leaves_extendAdd {e : Extend} {signed : Bool} {rn rd rm : BitVec 4} {r sbz : BitVec 2} :
    LeavesStores (extendAdd e signed rn rd r sbz rm) := by
  unfold extendAdd
  exact leaves_shouldBe.bind fun _ => leaves_unpredictableIf.bind fun _ => leaves_rotatedReg.bind fun _ =>
    leaves_readReg.bind fun _ => leaves_finishWord

theorem leaves_reversal {f : Word → Word} {sbo rd sbo2 rm : BitVec 4} : LeavesStores (reversal f sbo rd sbo2 rm) := by
  unfold reversal
  exact leaves_shouldBe.bind fun _ => leaves_unpredictableIf.bind fun _ => leaves_readReg.bind fun _ => leaves_finishWord

/-! ### Branches, status and hints -/

theorem leaves_branchSbo {a b c : BitVec 4} : LeavesStores (branchSbo a b c) := leaves_shouldBe

theorem leaves_setT {b : Bool} : LeavesStores (modify fun s => s.setT b) := leaves_modify fun _ => rfl

theorem leaves_setE {b : Bool} : LeavesStores (modify fun s => s.setE b) := leaves_modify fun _ => rfl

theorem leaves_moveToStatus {r : Bool} {mask : BitVec 4} {w : Word} : LeavesStores (moveToStatus r mask w) := by
  unfold moveToStatus
  refine leaves_ite (leaves_readSpsr.bind fun _ => (leaves_modify fun s => ?_).bind fun _ => leaves_advance)
    (leaves_writeCpsr.bind fun _ => (leaves_modify fun s => ?_).bind fun _ => leaves_advance)
  · exact stores_setSpsrOf _ _ _
  · split <;> rfl

theorem leaves_changeState {imod : BitVec 2} {mmod a i f : Bool} {mode : BitVec 5} :
    LeavesStores (changeState imod mmod a i f mode) := by
  unfold changeState
  refine leaves_get_bind fun s => ?_
  dsimp only
  split
  · split
    · split
      · rfl
      · split <;> rfl
    · rfl
  · rfl

theorem leaves_hintOp {sbo sbz : BitVec 4} : LeavesStores (hintOp sbo sbz) := by
  unfold hintOp
  exact leaves_shouldBe.bind fun _ => leaves_advance

theorem stores_debugPrefetchAbort (s : State) : stores s.debugPrefetchAbort = stores s := stores_takeException _ _ _ _

theorem stores_codeEvent {s t : State} {c : DebugCause} (h : s.codeEvent c = some t) : stores t = stores s := by
  unfold State.codeEvent at h
  split at h
  · cases h
  · split at h
    · cases h
      rfl
    · cases h
      exact stores_debugPrefetchAbort _
    · cases h
    · cases h

theorem stores_softwareBreakpoint (s : State) : stores s.softwareBreakpoint = stores s := by
  unfold State.softwareBreakpoint
  split
  · rfl
  · cases h : s.codeEvent .bkpt with
    | none => exact stores_debugPrefetchAbort s
    | some t => exact stores_codeEvent h

theorem leaves_softwareBreakpoint : LeavesStores (modify State.softwareBreakpoint) := leaves_modify stores_softwareBreakpoint

/-! ### Loads -/

theorem leaves_loadRegister {t : AccessType} {n : Nat} {user : Bool} {ext : Word → Word} {x : Index} {rn rd : BitVec 4}
    {o : Offset} : LeavesStores (loadRegister t n user ext x rn rd o) := by
  unfold loadRegister
  exact leaves_unpredictableIf.bind fun _ => leaves_addressMode.bind fun _ => leaves_loadItem.bind fun _ =>
    leaves_writeBack.bind fun _ => leaves_writeReg.bind fun _ => leaves_advance

theorem leaves_mode3Form {x : Index} : LeavesStores (mode3Form x) := leaves_unpredictableIf

theorem leaves_loadToPc {x : Index} {rn : BitVec 4} {o : Offset} : LeavesStores (loadToPc x rn o) := by
  unfold loadToPc
  exact leaves_unpredictableIf.bind fun _ => leaves_addressMode.bind fun _ => leaves_loadPcWord.bind fun _ =>
    leaves_writeBack.bind fun _ => leaves_loadWritePc

theorem leaves_loadWord {x : Index} {rn rd : BitVec 4} {o : Offset} : LeavesStores (loadWord x rn rd o) :=
  leaves_ite leaves_loadToPc leaves_loadRegister

theorem leaves_preload {o : Offset} : LeavesStores (preload o) := by
  unfold preload
  exact leaves_unpredictableIf.bind fun _ => leaves_advance

theorem leaves_abortedLoads {read : BitVec 4 → M Word} {write : BitVec 4 → Word → M Unit} {rn : BitVec 4}
    {l : List (BitVec 4 × Word)} (hr : ∀ r, LeavesStores (read r)) (hw : ∀ r w, LeavesStores (write r w)) :
    LeavesStores (abortedLoads read write rn l) := by
  induction l with
  | nil => exact leaves_pure
  | cons p l ih =>
    unfold abortedLoads
    exact leaves_ite ((hr _).bind fun _ => leaves_loadedOrOld.bind fun _ => (hw _ _).bind fun _ => ih) ih

theorem leaves_doubleRestrictions {x : Index} {rn rd sbz : BitVec 4} {o : Offset} :
    LeavesStores (doubleRestrictions x rn rd sbz o) := by
  unfold doubleRestrictions
  exact leaves_undefinedIf.bind fun _ => leaves_shouldBe.bind fun _ => leaves_mode3Form.bind fun _ => leaves_unpredictableIf

theorem leaves_loadDouble {x : Index} {rn rd sbz : BitVec 4} {o : Offset} : LeavesStores (loadDouble x rn rd sbz o) := by
  unfold loadDouble
  refine leaves_doubleRestrictions.bind fun _ => leaves_unpredictableIf.bind fun _ => leaves_addressMode.bind fun _ =>
    leaves_checkAlignment.bind fun _ => leaves_orAbort.bind fun _ => leaves_get.bind fun _ => leaves_loadWords.bind fun r => ?_
  cases r.abort with
  | some e =>
    exact (leaves_abortedLoads (fun _ => leaves_readReg) fun _ _ => leaves_writeReg).bind fun _ => leaves_takeDataAbort
  | none => exact leaves_writeBack.bind fun _ => leaves_writeReg.bind fun _ => leaves_writeReg.bind fun _ => leaves_advance

theorem leaves_writeRegs {write : BitVec 4 → Word → M Unit} {l : List (BitVec 4 × Word)}
    (hw : ∀ r w, LeavesStores (write r w)) : LeavesStores (writeRegs write l) := by
  induction l with
  | nil => exact leaves_pure
  | cons p l ih =>
    unfold writeRegs
    exact (hw _ _).bind fun _ => ih

theorem leaves_loadMulti {read : BitVec 4 → M Word} {write : BitVec 4 → Word → M Unit} {keep : BitVec 4} {p u : Bool}
    {rn : BitVec 4} {regs : List (BitVec 4)} {precise : Bool} (hr : ∀ r, LeavesStores (read r))
    (hw : ∀ r w, LeavesStores (write r w)) : LeavesStores (loadMulti read write keep p u rn regs precise) := by
  unfold loadMulti
  refine leaves_readReg.bind fun _ => leaves_checkAlignment.bind fun _ => leaves_orAbort.bind fun _ => leaves_get.bind fun _ =>
    leaves_loadWords.bind fun r => ?_
  cases r.abort with
  | some e => exact (leaves_abortedLoads hr hw).bind fun _ => leaves_takeDataAbort
  | none => exact leaves_pure

theorem leaves_loadMultiple {p u w : Bool} {rn : BitVec 4} {l : BitVec 16} : LeavesStores (loadMultiple p u w rn l) := by
  unfold loadMultiple
  have hpc : ∀ ws : List Word, LeavesStores (if l.getLsbD 15 then loadWritePc (ws.getLastD 0) else advance) :=
    fun _ => leaves_ite leaves_loadWritePc leaves_advance
  exact leaves_unpredictableIf.bind fun _ =>
    (leaves_loadMulti (fun _ => leaves_readReg) fun _ _ => leaves_writeReg).bind fun _ =>
      (leaves_writeRegs fun _ _ => leaves_writeReg).bind fun _ =>
        leaves_ite (leaves_writeReg.bind fun _ => hpc _) (hpc _)

theorem leaves_storedRegs {read : BitVec 4 → M Word} {l : List (BitVec 4)} (hr : ∀ r, LeavesStores (read r)) :
    LeavesStores (storedRegs read l) := by
  induction l with
  | nil => exact leaves_pure
  | cons r l ih =>
    unfold storedRegs
    exact leaves_ite (leaves_storedPc.bind fun _ => ih.bind fun _ => leaves_pure)
      ((hr _).bind fun _ => ih.bind fun _ => leaves_pure)

theorem leaves_bankedOnly : LeavesStores bankedOnly := by
  unfold bankedOnly
  exact leaves_get.bind fun _ => leaves_unpredictableIf

theorem leaves_swapRestrictions {rn rd sbz rm : BitVec 4} : LeavesStores (swapRestrictions rn rd sbz rm) := by
  unfold swapRestrictions
  exact leaves_shouldBe.bind fun _ => leaves_unpredictableIf

theorem leaves_loadExclusiveReg {t : AccessType} {n : Nat} {rn rd sbo sbo2 : BitVec 4} :
    LeavesStores (loadExclusiveReg t n rn rd sbo sbo2) := by
  unfold loadExclusiveReg
  exact leaves_shouldBe.bind fun _ => leaves_unpredictableIf.bind fun _ => leaves_readReg.bind fun _ =>
    leaves_loadExclusive.bind fun _ => leaves_writeReg.bind fun _ => leaves_advance

/-! ### Thumb -/

theorem leaves_thumbAlu {op : AluOp} {rd : BitVec 4} {a b : Word} : LeavesStores (thumbAlu op rd a b) := by
  unfold thumbAlu
  exact leaves_get.bind fun _ => leaves_writeReg.bind fun _ => leaves_setFlags.bind fun _ => leaves_advance

theorem leaves_thumbRegs {op : AluOp} {rm rd : BitVec 3} : LeavesStores (thumbRegs op rm rd) := by
  unfold thumbRegs
  exact leaves_get.bind fun _ => leaves_thumbAlu

theorem leaves_thumbCompare {op : AluOp} {a b : Word} : LeavesStores (thumbCompare op a b) := by
  unfold thumbCompare
  exact leaves_get.bind fun _ => leaves_setFlags.bind fun _ => leaves_advance

theorem leaves_thumbShift {rd : BitVec 4} {r : Word × Bool} : LeavesStores (thumbShift rd r) := by
  unfold thumbShift
  exact leaves_get.bind fun _ => leaves_writeReg.bind fun _ => leaves_setFlags.bind fun _ => leaves_advance

theorem leaves_thumbShiftReg {type : BitVec 2} {rs rd : BitVec 3} : LeavesStores (thumbShiftReg type rs rd) := by
  unfold thumbShiftReg
  exact leaves_get.bind fun _ => leaves_thumbShift

theorem leaves_writeHigh {rd : BitVec 4} {v : Word} : LeavesStores (writeHigh rd v) := by
  unfold writeHigh
  exact leaves_ite leaves_aluWritePc (leaves_writeReg.bind fun _ => leaves_advance)

theorem leaves_thumbBase : LeavesStores thumbBase := by
  unfold thumbBase
  exact leaves_readPc.bind fun _ => leaves_pure

theorem leaves_thumbLoad {t : AccessType} {n : Nat} {ext : Word → Word} {rd : BitVec 3} {va : Word} :
    LeavesStores (thumbLoad t n ext rd va) := by
  unfold thumbLoad
  exact leaves_loadItem.bind fun _ => leaves_writeReg.bind fun _ => leaves_advance

theorem leaves_thumbUnary {f : Word → Word} {rm rd : BitVec 3} : LeavesStores (thumbUnary f rm rd) := by
  unfold thumbUnary
  exact leaves_get.bind fun _ => leaves_writeReg.bind fun _ => leaves_advance

theorem leaves_thumbStored {rn : BitVec 4} {o : Option (BitVec 4)} {l : List (BitVec 4)} :
    LeavesStores (thumbStored rn o l) := by
  induction l with
  | nil => exact leaves_pure
  | cons r l ih =>
    unfold thumbStored
    exact leaves_get.bind fun _ => leaves_ite (leaves_draw.bind fun _ => ih.bind fun _ => leaves_pure)
      (leaves_pure.bind fun _ => ih.bind fun _ => leaves_pure)

/-! ### Instructions -/

/-- The meaning of an instruction leaves the stores: a next state has those of the state before. -/
def LeavesStoresStep (k : State → Result) : Prop := ∀ s t, k s = .next t → stores t = stores s

theorem leavesStep_outcome {x : M Unit} (h : LeavesStores x) : LeavesStoresStep x.outcome := by
  intro s t ht
  rcases outcome_next ht with hr | hr
  · exact endState_of_run hr ▸ h s
  · exact endState_of_stop hr ▸ h s

theorem leavesStep_always {x : M Unit} (h : LeavesStores x) : LeavesStoresStep (always x) := leavesStep_outcome h

theorem leavesStep_conditional {c : Cond} {x : M Unit} (h : LeavesStores x) : LeavesStoresStep (conditional c x) :=
  fun s => leavesStep_outcome (leaves_ite h leaves_advance) s

theorem leavesStep_conditionalBranch {c : Cond} {x : M Unit} (h : LeavesStores x) :
    LeavesStoresStep (conditionalBranch c x) :=
  fun s => leavesStep_outcome (leaves_ite h (leaves_ite (leaves_draw.bind fun _ => leaves_branchTo) leaves_advance)) s

theorem execRfe_leavesStores (p u w : Bool) (rn : BitVec 4) : LeavesStoresStep (execRfe p u w rn) := by
  refine leavesStep_always (leaves_unpredictableIf.bind fun _ => leaves_readReg.bind fun _ => leaves_checkAlignment.bind fun _ =>
    leaves_orAbort.bind fun _ => leaves_get.bind fun _ => leaves_loadWords.bind fun r => ?_)
  cases r.abort with
  | some e => exact leaves_takeDataAbort
  | none => exact leaves_ite (leaves_writeReg.bind fun _ => leaves_exceptionReturn) leaves_exceptionReturn

theorem execLdm2_leavesStores (c : Cond) (p u sbz : Bool) (rn : BitVec 4) (l : BitVec 15) :
    LeavesStoresStep (execLdm2 c p u sbz rn l) :=
  leavesStep_conditional (leaves_unpredictableIf.bind fun _ => leaves_bankedOnly.bind fun _ => leaves_get.bind fun _ =>
    (leaves_loadMulti (fun _ => leaves_readUserReg) fun _ _ => leaves_writeUserReg).bind fun _ =>
      (leaves_writeRegs fun _ _ => leaves_writeUserReg).bind fun _ => leaves_advance)

theorem execLdm3_leavesStores (c : Cond) (p u w : Bool) (rn : BitVec 4) (l : BitVec 15) :
    LeavesStoresStep (execLdm3 c p u w rn l) :=
  leavesStep_conditional (leaves_unpredictableIf.bind fun _ => leaves_bankedOnly.bind fun _ => leaves_readSpsr.bind fun _ =>
    (leaves_loadMulti (fun _ => leaves_readReg) fun _ _ => leaves_writeReg).bind fun _ =>
      (leaves_writeRegs fun _ _ => leaves_writeReg).bind fun _ =>
        leaves_ite (leaves_writeReg.bind fun _ => leaves_exceptionReturn) leaves_exceptionReturn)

theorem execMcr_leavesStores (c : Cond) (op1 : BitVec 3) (crn rd cp : BitVec 4) (op2 : BitVec 3) (crm : BitVec 4) :
    LeavesStoresStep (execMcr c op1 crn rd cp op2 crm) :=
  leavesStep_conditional (leaves_ite (leaves_writeCp15.bind fun _ => leaves_advance)
    (leaves_ite (leaves_writeCp14.bind fun _ => leaves_advance) (leaves_raiseUndefined.bind fun _ => leaves_advance)))

theorem execMrc_leavesStores (c : Cond) (op1 : BitVec 3) (crn rd cp : BitVec 4) (op2 : BitVec 3) (crm : BitVec 4) :
    LeavesStoresStep (execMrc c op1 crn rd cp op2 crm) :=
  leavesStep_conditional (leaves_ite
    (leaves_readCp15.bind fun _ => leaves_ite (leaves_setFlags.bind fun _ => leaves_advance)
      (leaves_writeReg.bind fun _ => leaves_advance))
    (leaves_ite (leaves_readCp14.bind fun _ => leaves_finishMrc14.bind fun _ => leaves_advance)
      (leaves_raiseUndefined.bind fun _ => leaves_advance)))

theorem execTBCond_leavesStores (c : BitVec 4) (imm8 : BitVec 8) : LeavesStoresStep (execTBCond c imm8) := by
  unfold execTBCond
  cases Cond.ofBits c with
  | none => exact leavesStep_always leaves_raiseUndefined
  | some c => exact leavesStep_conditionalBranch (leaves_readPc.bind fun _ => leaves_branchTo)

/-- An instruction that stores no data leaves the stores, whether it completes or ends in an exception
(44_loadstore.md R1260, 45_ldm_excl_swp.md R1360). -/
theorem exec_leavesStores {i : Instr} (hi : i.stores = false) : LeavesStoresStep (exec i) := by
  cases i with
  -- Branches, program status registers and hints
  | b =>
    exact leavesStep_conditionalBranch (leaves_readPc.bind fun _ => leaves_branchTo)
  | bl =>
    exact leavesStep_conditionalBranch (leaves_readPc.bind fun _ => leaves_writeReg.bind fun _ => leaves_branchTo)
  | bx =>
    exact leavesStep_conditionalBranch (leaves_branchSbo.bind fun _ => leaves_readReg.bind fun _ => leaves_bxWritePc)
  | blxLabel =>
    exact leavesStep_always (leaves_readPc.bind fun _ => leaves_writeReg.bind fun _ => leaves_setT.bind fun _ =>
      leaves_branchTo)
  | blxReg =>
    exact leavesStep_conditionalBranch (leaves_branchSbo.bind fun _ => leaves_unpredictableIf.bind fun _ =>
      leaves_readReg.bind fun _ => leaves_readPc.bind fun _ => leaves_writeReg.bind fun _ => leaves_bxWritePc)
  | bxj =>
    exact leavesStep_conditionalBranch (leaves_branchSbo.bind fun _ => leaves_unpredictableIf.bind fun _ =>
      leaves_readReg.bind fun _ => leaves_bxWritePc)
  | mrs =>
    exact leavesStep_conditional (leaves_shouldBe.bind fun _ => leaves_unpredictableIf.bind fun _ =>
      leaves_ite (leaves_readSpsr.bind fun _ => leaves_writeReg.bind fun _ => leaves_advance)
        (leaves_get.bind fun _ => leaves_writeReg.bind fun _ => leaves_advance))
  | msrReg =>
    exact leavesStep_conditional (leaves_shouldBe.bind fun _ => leaves_unpredictableIf.bind fun _ =>
      leaves_readReg.bind fun _ => leaves_moveToStatus)
  | msrImm =>
    exact leavesStep_conditional (leaves_shouldBe.bind fun _ => leaves_moveToStatus)
  | cps =>
    exact leavesStep_always (leaves_shouldBe.bind fun _ => leaves_unpredictableIf.bind fun _ => leaves_changeState.bind fun _ =>
      leaves_advance)
  | tCps =>
    exact leavesStep_always (leaves_unpredictableIf.bind fun _ => leaves_changeState.bind fun _ => leaves_advance)
  | setend | tSetend =>
    exact leavesStep_always (leaves_shouldBe.bind fun _ => leaves_setE.bind fun _ => leaves_advance)
  | nop | yield | hint => exact leavesStep_conditional leaves_hintOp
  | pldImm u rn imm12 => exact (leavesStep_always leaves_preload : LeavesStoresStep (execPldImm u rn imm12))
  | pldReg => exact leavesStep_always leaves_preload
  -- Data processing
  | andImm | andRegImm | andRegReg | eorImm | eorRegImm | eorRegReg | subImm | subRegImm | subRegReg | rsbImm | rsbRegImm
  | rsbRegReg | addImm | addRegImm | addRegReg | adcImm | adcRegImm | adcRegReg | sbcImm | sbcRegImm | sbcRegReg | rscImm
  | rscRegImm | rscRegReg | orrImm | orrRegImm | orrRegReg | bicImm | bicRegImm | bicRegReg | cpy =>
    exact leavesStep_conditional leaves_dataProcessing
  | movImm | movRegImm | movRegReg | mvnImm | mvnRegImm | mvnRegReg => exact leavesStep_conditional leaves_moveOp
  | tstImm | tstRegImm | tstRegReg | teqImm | teqRegImm | teqRegReg | cmpImm | cmpRegImm | cmpRegReg | cmnImm | cmnRegImm
  | cmnRegReg => exact leavesStep_conditional leaves_compareOp
  | clz =>
    exact leavesStep_conditional (leaves_shouldBe.bind fun _ => leaves_unpredictableIf.bind fun _ =>
      leaves_readReg.bind fun _ => leaves_writeReg.bind fun _ => leaves_advance)
  -- Multiplies
  | mul | smulxy | smulwy =>
    exact leavesStep_conditional (leaves_shouldBe.bind fun _ => leaves_unpredictableIf.bind fun _ =>
      leaves_readReg.bind fun _ => leaves_readReg.bind fun _ => leaves_finishWord)
  | mla | smmla | smmls | usada8 =>
    exact leavesStep_conditional (leaves_unpredictableIf.bind fun _ => leaves_readReg.bind fun _ => leaves_readReg.bind fun _ =>
      leaves_readReg.bind fun _ => leaves_finishWord)
  | smmul | usad8 | pkhbt | pkhtb =>
    exact leavesStep_conditional (leaves_unpredictableIf.bind fun _ => leaves_readReg.bind fun _ => leaves_readReg.bind fun _ =>
      leaves_finishWord)
  | smlaxy | smlawy =>
    exact leavesStep_conditional (leaves_unpredictableIf.bind fun _ => leaves_readReg.bind fun _ => leaves_readReg.bind fun _ =>
      leaves_readReg.bind fun _ => leaves_finishAccumulate)
  | umull | smull =>
    exact leavesStep_conditional (leaves_longRestrictions.bind fun _ => leaves_readReg.bind fun _ => leaves_readReg.bind fun _ =>
      leaves_finishLong)
  | umlal | smlal | smlalxy =>
    exact leavesStep_conditional (leaves_longRestrictions.bind fun _ => leaves_readReg.bind fun _ => leaves_readReg.bind fun _ =>
      leaves_readLong.bind fun _ => leaves_finishLong)
  | umaal =>
    exact leavesStep_conditional (leaves_longRestrictions.bind fun _ => leaves_readReg.bind fun _ => leaves_readReg.bind fun _ =>
      leaves_readReg.bind fun _ => leaves_readReg.bind fun _ => leaves_finishLong)
  | smuad =>
    exact leavesStep_conditional (leaves_unpredictableIf.bind fun _ => leaves_readDual.bind fun _ => leaves_finishAccumulate)
  | smusd =>
    exact leavesStep_conditional (leaves_unpredictableIf.bind fun _ => leaves_readDual.bind fun _ => leaves_finishWord)
  | smlad | smlsd =>
    exact leavesStep_conditional (leaves_unpredictableIf.bind fun _ => leaves_readDual.bind fun _ => leaves_readReg.bind fun _ =>
      leaves_finishAccumulate)
  | smlald | smlsld =>
    exact leavesStep_conditional (leaves_longRestrictions.bind fun _ => leaves_readDual.bind fun _ =>
      leaves_readLong.bind fun _ => leaves_finishLong)
  | qadd | qsub | qdadd | qdsub => exact leavesStep_conditional leaves_saturating
  -- Media
  | sadd16 | qadd16 | shadd16 | uadd16 | uqadd16 | uhadd16 | saddsubx | qaddsubx | shaddsubx | uaddsubx | uqaddsubx
  | uhaddsubx | ssubaddx | qsubaddx | shsubaddx | usubaddx | uqsubaddx | uhsubaddx | ssub16 | qsub16 | shsub16 | usub16
  | uqsub16 | uhsub16 | sadd8 | qadd8 | shadd8 | uadd8 | uqadd8 | uhadd8 | ssub8 | qsub8 | shsub8 | usub8 | uqsub8 | uhsub8 =>
    exact leavesStep_conditional leaves_parallel
  | sxtb16 | sxtb | sxth | uxtb16 | uxtb | uxth => exact leavesStep_conditional leaves_extend
  | sxtab16 | sxtab | sxtah | uxtab16 | uxtab | uxtah => exact leavesStep_conditional leaves_extendAdd
  | rev | rev16 | revsh => exact leavesStep_conditional leaves_reversal
  | ssat | usat =>
    exact leavesStep_conditional (leaves_unpredictableIf.bind fun _ => leaves_readReg.bind fun _ => leaves_writeReg.bind fun _ =>
      leaves_setQIf.bind fun _ => leaves_advance)
  | ssat16 | usat16 =>
    exact leavesStep_conditional (leaves_shouldBe.bind fun _ => leaves_unpredictableIf.bind fun _ => leaves_readReg.bind fun _ =>
      leaves_writeReg.bind fun _ => leaves_setQIf.bind fun _ => leaves_advance)
  | sel =>
    exact leavesStep_conditional (leaves_shouldBe.bind fun _ => leaves_unpredictableIf.bind fun _ => leaves_readReg.bind fun _ =>
      leaves_readReg.bind fun _ => leaves_get.bind fun _ => leaves_finishWord)
  -- Loads
  | ldrImm | ldrReg => exact leavesStep_conditional leaves_loadWord
  | ldrtImm | ldrtReg | ldrbImm | ldrbReg | ldrbtImm | ldrbtReg => exact leavesStep_conditional leaves_loadRegister
  | ldrsbImm | ldrhImm | ldrshImm => exact leavesStep_conditional (leaves_mode3Form.bind fun _ => leaves_loadRegister)
  | ldrsbReg | ldrhReg | ldrshReg =>
    exact leavesStep_conditional (leaves_shouldBe.bind fun _ => leaves_mode3Form.bind fun _ => leaves_loadRegister)
  | ldrdImm | ldrdReg => exact leavesStep_conditional leaves_loadDouble
  | ldm1 => exact leavesStep_conditional leaves_loadMultiple
  | ldm2 => exact execLdm2_leavesStores _ _ _ _ _ _
  | ldm3 => exact execLdm3_leavesStores _ _ _ _ _ _
  | rfe => exact execRfe_leavesStores _ _ _ _
  | ldrex | ldrexb | ldrexh => exact leavesStep_conditional leaves_loadExclusiveReg
  | ldrexd =>
    exact leavesStep_conditional (leaves_shouldBe.bind fun _ => leaves_unpredictableIf.bind fun _ => leaves_readReg.bind fun _ =>
      leaves_loadExclusive.bind fun _ => leaves_writeReg.bind fun _ => leaves_writeReg.bind fun _ => leaves_advance)
  | clrex =>
    exact leavesStep_always (leaves_undefinedIf.bind fun _ => leaves_setLocal.bind fun _ => leaves_advance)
  -- Coprocessors
  | mcr => exact execMcr_leavesStores _ _ _ _ _ _ _
  | mrc => exact execMrc_leavesStores _ _ _ _ _ _ _
  | mcrr =>
    exact leavesStep_conditional (leaves_ite (leaves_writeCp15Range.bind fun _ => leaves_advance)
      (leaves_raiseUndefined.bind fun _ => leaves_advance))
  | ldc =>
    exact leavesStep_conditional (leaves_dtrOnly.bind fun _ => leaves_unpredictableIf.bind fun _ => leaves_readReg.bind fun _ =>
      leaves_loadItem.bind fun _ => leaves_wdtrWrite.bind fun _ => leaves_writeBack.bind fun _ => leaves_advance)
  -- Exceptions and the undefined rows
  | svc => exact leavesStep_conditional leaves_raise
  | tSvc => exact leavesStep_always leaves_raise
  | smc => exact leavesStep_conditional (leaves_get.bind fun _ => leaves_undefinedIf.bind fun _ => leaves_raise)
  | bkpt => exact leavesStep_conditional (leaves_unpredictableIf.bind fun _ => leaves_softwareBreakpoint)
  | tBkpt => exact leavesStep_always leaves_softwareBreakpoint
  | mrrc | cdp | undefined3 | undefined4 | undefined5 | undefined6 | undefined7 | undefined8 | undefined9 =>
    exact leavesStep_conditional leaves_raiseUndefined
  | mcr2 | mrc2 | mcrr2 | mrrc2 | cdp2 | ldc2 | stc2 | undefined1 | undefined2 | tUndefined1 | tUndefined2 | tUndefined3 =>
    exact leavesStep_always leaves_raiseUndefined
  -- Thumb
  | tLslImm | tLsrImm | tAsrImm => exact leavesStep_always (leaves_get.bind fun _ => leaves_thumbShift)
  | tLslReg | tLsrReg | tAsrReg | tRor => exact leavesStep_always leaves_thumbShiftReg
  | tAddReg | tSubReg | tMovLow | tAddImm3 | tSubImm3 | tAddImm8 | tSubImm8 | tNeg =>
    exact leavesStep_always (leaves_get.bind fun _ => leaves_thumbAlu)
  | tMovImm => exact leavesStep_always leaves_thumbAlu
  | tAnd | tEor | tAdc | tSbc | tOrr | tBic | tMvn => exact leavesStep_always leaves_thumbRegs
  | tCmpImm | tTst | tCmpLow | tCmn => exact leavesStep_always (leaves_get.bind fun _ => leaves_thumbCompare)
  | tMul rm rd =>
    exact (leavesStep_always (leaves_get.bind fun _ => leaves_finishWord) : LeavesStoresStep (execTMul rm rd))
  | tAddHigh =>
    exact leavesStep_always (leaves_unpredictableIf.bind fun _ => leaves_readReg.bind fun _ => leaves_readReg.bind fun _ =>
      leaves_writeHigh)
  | tCmpHigh =>
    exact leavesStep_always (leaves_unpredictableIf.bind fun _ => leaves_readReg.bind fun _ => leaves_readReg.bind fun _ =>
      leaves_thumbCompare)
  | tMovHigh | tCpy => exact leavesStep_always (leaves_readReg.bind fun _ => leaves_writeHigh)
  | tBx => exact leavesStep_always (leaves_shouldBe.bind fun _ => leaves_readReg.bind fun _ => leaves_bxWritePc)
  | tBlxReg =>
    exact leavesStep_always (leaves_shouldBe.bind fun _ => leaves_unpredictableIf.bind fun _ => leaves_readReg.bind fun _ =>
      leaves_readPc.bind fun _ => leaves_writeReg.bind fun _ => leaves_bxWritePc)
  | tLdrPc => exact leavesStep_always (leaves_thumbBase.bind fun _ => leaves_thumbLoad)
  | tLdrReg | tLdrImm | tLdrhReg | tLdrhImm | tLdrbReg | tLdrbImm | tLdrsb | tLdrsh | tLdrSp =>
    exact leavesStep_always (leaves_get.bind fun _ => leaves_thumbLoad)
  | tAddPc => exact leavesStep_always (leaves_thumbBase.bind fun _ => leaves_writeReg.bind fun _ => leaves_advance)
  | tAddSp | tAddSpImm | tSubSpImm =>
    exact leavesStep_always (leaves_get.bind fun _ => leaves_writeReg.bind fun _ => leaves_advance)
  | tUxth rm rd => exact (leavesStep_always leaves_thumbUnary : LeavesStoresStep (execTUxth rm rd))
  | tUxtb rm rd => exact (leavesStep_always leaves_thumbUnary : LeavesStoresStep (execTUxtb rm rd))
  | tSxth | tSxtb | tRev | tRev16 | tRevsh => exact leavesStep_always leaves_thumbUnary
  | tPop | tLdmia => exact leavesStep_always leaves_loadMultiple
  | tBCond => exact execTBCond_leavesStores _ _
  | tB => exact leavesStep_always (leaves_readPc.bind fun _ => leaves_branchTo)
  | tBlFirst => exact leavesStep_always (leaves_readPc.bind fun _ => leaves_writeReg.bind fun _ => leaves_advance)
  | tBlSecond =>
    exact leavesStep_always (leaves_get.bind fun _ => leaves_readPc.bind fun _ => leaves_writeReg.bind fun _ => leaves_branchTo)
  | tBlxSecond =>
    exact leavesStep_always (leaves_get.bind fun _ => leaves_readPc.bind fun _ => leaves_writeReg.bind fun _ =>
      leaves_setT.bind fun _ => leaves_branchTo)
  -- The instructions that store
  | _ => cases hi

/-- A word that matches no row leaves the stores (30_encoding.md R880). -/
theorem execNoRow_leavesStores (w : Words) : LeavesStoresStep (execNoRow w) := by
  unfold execNoRow
  cases w with
  | thumb h => exact leavesStep_always leaves_raiseUndefined
  | arm v =>
    dsimp only
    cases Cond.ofBits (v.extractLsb' 28 4) with
    | none => exact leavesStep_always leaves_raiseUndefined
    | some c => exact leavesStep_conditional leaves_raiseUndefined

end Sys2Proof.StoresFrame

/-!
The canonical form of the stores under every step: the operations that write data keep it, and so does every instruction,
every event from outside and every transaction of the DMA engine (22_l1_l2.md R760, R783, 62_platform.md R1909).
-/
namespace Sys2Proof.CanonicalStores

open Sys2Proof Sys2Proof.Machine Sys2Proof.StoresFrame

/-! ### Operations that keep the canonical form -/

/-- The operation keeps the canonical form: from stores in canonical form it ends, with a value or by a stop, in such. -/
def KeepsMemory {α : Type} (x : M α) : Prop := ∀ s : State, s.MemoryOk → (endState x s).MemoryOk

/-- An operation that leaves the stores keeps their canonical form. -/
theorem keeps_of_leaves {α : Type} {x : M α} (h : LeavesStores x) : KeepsMemory x := fun s => memoryOk_of_stores (h s)

theorem keeps_pure {α : Type} {a : α} : KeepsMemory (pure a) := keeps_of_leaves leaves_pure

theorem KeepsMemory.bind {α β : Type} {x : M α} {f : α → M β} (hx : KeepsMemory x) (hf : ∀ a, KeepsMemory (f a)) :
    KeepsMemory (x >>= f) := by
  intro s hs
  rw [endState_bind]
  cases h : x.run s with
  | ok a t => exact hf a t (endState_of_run h ▸ hx s hs)
  | error e t => exact endState_of_stop h ▸ hx s hs

/-- First an operation that leaves the stores, then one that keeps their canonical form. -/
theorem leaves_then {α β : Type} {x : M α} {f : α → M β} (hx : LeavesStores x) (hf : ∀ a, KeepsMemory (f a)) :
    KeepsMemory (x >>= f) := (keeps_of_leaves hx).bind hf

/-- First an operation that keeps the canonical form, then one that leaves the stores. -/
theorem KeepsMemory.leaves {α β : Type} {x : M α} {f : α → M β} (hx : KeepsMemory x) (hf : ∀ a, LeavesStores (f a)) :
    KeepsMemory (x >>= f) := hx.bind fun a => keeps_of_leaves (hf a)

/-- An operation that goes on by the state it reads has to keep the canonical form from that state only. -/
theorem keeps_get_bind {α : Type} {f : State → M α} (h : ∀ s : State, s.MemoryOk → (endState (f s) s).MemoryOk) :
    KeepsMemory (get >>= f) := fun s hs => by
  rw [endState_bind]
  exact h s hs

theorem keeps_ite {α : Type} {p : Prop} [Decidable p] {x y : M α} (hx : KeepsMemory x) (hy : KeepsMemory y) :
    KeepsMemory (if p then x else y) := by
  split
  · exact hx
  · exact hy

/-! ### Writes of data -/

/-- Go on from a state that is set. -/
theorem endState_set_bind {α : Type} (t s : State) (f : PUnit → M α) : endState (set t >>= f) s = endState (f ⟨⟩) t := by
  rw [endState_bind]
  rfl

theorem keeps_writeParts {m : Mode1} {l : List Part} {bytes : List Byte} {failed : Bool} :
    KeepsMemory (writeParts m l bytes failed) := by
  induction l generalizing bytes failed with
  | nil => exact keeps_pure
  | cons p ps ih =>
    unfold writeParts
    refine leaves_then leaves_get fun _ => leaves_then leaves_get fun _ => leaves_then leaves_locate fun r => ?_
    cases r with
    | error f => exact keeps_pure
    | ok place =>
      refine leaves_then leaves_checkUnaligned fun o => ?_
      cases o with
      | some a => exact keeps_pure
      | none =>
        refine leaves_then leaves_recordWatch fun _ => keeps_get_bind fun s hs => ?_
        cases s.placeError place .write m.priv with
        | none =>
          dsimp only
          rw [endState_set_bind]
          exact ih _ (State.memoryOk_writePart hs)
        | some slverr => exact keeps_ite keeps_pure (leaves_then leaves_recordImprecise fun _ => ih) s hs

theorem keeps_writeChecked {m : Mode1} {va : Word} {n : Nat} {v : Word} : KeepsMemory (writeChecked m va n v) := by
  unfold writeChecked
  exact leaves_then leaves_get fun _ => keeps_writeParts

theorem keeps_writeItem {m : Mode1} {va : Word} {n : Nat} {v : Word} : KeepsMemory (writeItem m va n v) := by
  unfold writeItem
  refine keeps_writeChecked.bind fun r => ?_
  cases r <;> exact keeps_pure

theorem keeps_storeItem {t : AccessType} {n : Nat} {user : Bool} {va v : Word} : KeepsMemory (storeItem t n user va v) := by
  unfold storeItem
  exact leaves_then leaves_checkAlignment fun _ => leaves_then leaves_orAbort fun _ => leaves_then leaves_get fun _ =>
    keeps_writeItem.leaves fun _ => leaves_orAbort

theorem keeps_storeWords {m : Mode1} {ws : List Word} {va : Word} : KeepsMemory (storeWords m va ws) := by
  induction ws generalizing va with
  | nil => exact keeps_pure
  | cons w ws ih =>
    unfold storeWords
    exact keeps_writeItem.bind fun _ => leaves_then leaves_orAbort fun _ => ih

theorem keeps_writeItems {m : Mode1} {n : Nat} {l : List (Word × Word)} : KeepsMemory (writeItems m n l) := by
  induction l with
  | nil => exact keeps_pure
  | cons p l ih =>
    unfold writeItems
    refine keeps_writeChecked.bind fun r => ?_
    cases r with
    | error a => exact keeps_pure
    | ok failed =>
      refine ih.bind fun r => ?_
      cases r <;> exact keeps_pure

theorem keeps_storeHeld {m : Mode1} {p : Place} {va mva : Word} {n : Nat} {vs : List Word} :
    KeepsMemory (storeHeld m p va mva n vs) := by
  unfold storeHeld
  dsimp only
  have hclear : LeavesStores (modify fun s : State =>
      (if p.shared then { s with monitors := { s.monitors with globl := none } } else s).setLocal false) :=
    leaves_modify fun _ => stores_ite rfl rfl
  refine leaves_then leaves_get fun _ => keeps_ite
    (keeps_of_leaves (leaves_recordExclusive.bind fun _ => hclear.bind fun _ => leaves_pure))
    (keeps_writeItems.bind fun r => ?_)
  cases r with
  | error e => exact keeps_of_leaves leaves_abortExclusive
  | ok failed => exact keeps_of_leaves (hclear.bind fun _ => leaves_pure)

theorem keeps_storeExclusive {t : AccessType} {va : Word} {n : Nat} {vs : List Word} :
    KeepsMemory (storeExclusive t va n vs) := by
  unfold storeExclusive
  refine leaves_then leaves_checkAlignment fun r => ?_
  cases r with
  | error e => exact keeps_of_leaves leaves_abortExclusive
  | ok a =>
    refine leaves_then leaves_get fun s => keeps_ite (keeps_of_leaves leaves_storeFails)
      (leaves_then (leaves_liftState fun u => stores_translateDeferred u _) fun r => ?_)
    cases r with
    | error f => exact keeps_of_leaves leaves_abortExclusive
    | ok x =>
      obtain ⟨t, denied⟩ := x
      refine leaves_then leaves_get fun u => keeps_ite (keeps_of_leaves leaves_storeFails) ?_
      split
      · exact keeps_of_leaves leaves_abortExclusive
      · exact keeps_of_leaves leaves_refuse
      · exact leaves_then leaves_refuseIf fun _ => keeps_storeHeld

/-! ### Stores -/

theorem keeps_storeRegister {t : AccessType} {n : Nat} {user : Bool} {x : Index} {rn rd : BitVec 4} {o : Offset} :
    KeepsMemory (storeRegister t n user x rn rd o) := by
  unfold storeRegister
  exact leaves_then leaves_unpredictableIf fun _ => leaves_then leaves_addressMode fun _ => leaves_then leaves_readReg fun _ =>
    keeps_storeItem.leaves fun _ => leaves_writeBack.bind fun _ => leaves_advance

theorem keeps_storeWord {x : Index} {rn rd : BitVec 4} {o : Offset} : KeepsMemory (storeWord x rn rd o) := by
  unfold storeWord
  exact leaves_then leaves_unpredictableIf fun _ => leaves_then leaves_addressMode fun _ => leaves_then leaves_storedReg fun _ =>
    keeps_storeItem.leaves fun _ => leaves_writeBack.bind fun _ => leaves_advance

theorem keeps_storeDouble {x : Index} {rn rd sbz : BitVec 4} {o : Offset} : KeepsMemory (storeDouble x rn rd sbz o) := by
  unfold storeDouble
  exact leaves_then leaves_doubleRestrictions fun _ => leaves_then leaves_addressMode fun _ =>
    leaves_then leaves_readReg fun _ => leaves_then leaves_readReg fun _ => leaves_then leaves_checkAlignment fun _ =>
      leaves_then leaves_orAbort fun _ => leaves_then leaves_get fun _ =>
        keeps_storeWords.leaves fun _ => leaves_writeBack.bind fun _ => leaves_advance

theorem keeps_storeMulti {p u : Bool} {base : Word} {vs : List Word} : KeepsMemory (storeMulti p u base vs) := by
  unfold storeMulti
  exact leaves_then leaves_checkAlignment fun _ => leaves_then leaves_orAbort fun _ => leaves_then leaves_get fun _ =>
    keeps_storeWords.leaves fun _ => leaves_pure

theorem keeps_storeMultiple {p u w : Bool} {rn : BitVec 4} {l : BitVec 16} : KeepsMemory (storeMultiple p u w rn l) := by
  unfold storeMultiple
  exact leaves_then leaves_unpredictableIf fun _ => leaves_then leaves_readReg fun _ =>
    leaves_then (leaves_storedRegs fun _ => leaves_readReg) fun _ => keeps_storeMulti.leaves fun _ =>
      leaves_ite (leaves_writeReg.bind fun _ => leaves_advance) leaves_advance

theorem keeps_swap {load store : AccessType} {n : Nat} {va v : Word} : KeepsMemory (swap load store n va v) := by
  unfold swap
  exact leaves_then leaves_loadItem fun _ => keeps_storeItem.leaves fun _ => leaves_pure

theorem keeps_storeExclusiveReg {t : AccessType} {n : Nat} {rn rd sbo rm : BitVec 4} :
    KeepsMemory (storeExclusiveReg t n rn rd sbo rm) := by
  unfold storeExclusiveReg
  exact leaves_then leaves_shouldBe fun _ => leaves_then leaves_unpredictableIf fun _ => leaves_then leaves_readReg fun _ =>
    leaves_then leaves_readReg fun _ => keeps_storeExclusive.leaves fun _ => leaves_writeReg.bind fun _ => leaves_advance

theorem keeps_thumbStore {t : AccessType} {n : Nat} {rd : BitVec 3} {va : Word} : KeepsMemory (thumbStore t n rd va) := by
  unfold thumbStore
  exact leaves_then leaves_get fun _ => keeps_storeItem.leaves fun _ => leaves_advance

/-! ### Instructions -/

/-- The meaning of an instruction keeps the canonical form: a next state of a state in canonical form is in it. -/
def KeepsMemoryStep (k : State → Result) : Prop := ∀ s t : State, s.MemoryOk → k s = .next t → t.MemoryOk

theorem keepsStep_of_leaves {k : State → Result} (h : LeavesStoresStep k) : KeepsMemoryStep k :=
  fun s t hs ht => memoryOk_of_stores (h s t ht) hs

theorem keepsStep_outcome {x : M Unit} (h : KeepsMemory x) : KeepsMemoryStep x.outcome := by
  intro s t hs ht
  rcases outcome_next ht with hr | hr
  · exact endState_of_run hr ▸ h s hs
  · exact endState_of_stop hr ▸ h s hs

theorem keepsStep_always {x : M Unit} (h : KeepsMemory x) : KeepsMemoryStep (always x) := keepsStep_outcome h

theorem keepsStep_conditional {c : Cond} {x : M Unit} (h : KeepsMemory x) : KeepsMemoryStep (conditional c x) :=
  fun s => keepsStep_outcome (keeps_ite h (keeps_of_leaves leaves_advance)) s

/-- An instruction that stores data keeps the canonical form. -/
theorem exec_keeps_of_stores {i : Instr} (hi : i.stores = true) : KeepsMemoryStep (exec i) := by
  cases i with
  | strImm | strReg => exact keepsStep_conditional keeps_storeWord
  | strtImm | strtReg | strbImm | strbReg | strbtImm | strbtReg => exact keepsStep_conditional keeps_storeRegister
  | strhImm => exact keepsStep_conditional (leaves_then leaves_mode3Form fun _ => keeps_storeRegister)
  | strhReg =>
    exact keepsStep_conditional (leaves_then leaves_shouldBe fun _ => leaves_then leaves_mode3Form fun _ => keeps_storeRegister)
  | strdImm | strdReg => exact keepsStep_conditional keeps_storeDouble
  | stm1 => exact keepsStep_conditional keeps_storeMultiple
  | stm2 =>
    exact keepsStep_conditional (leaves_then leaves_unpredictableIf fun _ => leaves_then leaves_bankedOnly fun _ =>
      leaves_then leaves_readReg fun _ => leaves_then (leaves_storedRegs fun _ => leaves_readUserReg) fun _ =>
        keeps_storeMulti.leaves fun _ => leaves_advance)
  | srs p u w mode =>
    refine keepsStep_always (leaves_then leaves_get fun s => leaves_then leaves_undefinedIf fun _ =>
      leaves_then leaves_readSpsr fun _ => ?_)
    cases Mode.ofBits mode with
    | none => exact keeps_of_leaves leaves_refuse
    | some m =>
      exact leaves_then leaves_readReg fun _ => keeps_storeMulti.leaves fun _ =>
        leaves_ite (leaves_setRegOf.bind fun _ => leaves_advance) leaves_advance
  | swp =>
    exact keepsStep_conditional (leaves_then leaves_swapRestrictions fun _ => leaves_then leaves_readReg fun _ =>
      leaves_then leaves_readReg fun _ => leaves_then leaves_get fun _ =>
        keeps_ite (keeps_swap.leaves fun _ => leaves_writeReg.bind fun _ => leaves_advance)
          (keeps_swap.leaves fun _ => leaves_writeReg.bind fun _ => leaves_advance))
  | swpb =>
    exact keepsStep_conditional (leaves_then leaves_swapRestrictions fun _ => leaves_then leaves_readReg fun _ =>
      leaves_then leaves_readReg fun _ => keeps_swap.leaves fun _ => leaves_writeReg.bind fun _ => leaves_advance)
  | strex | strexb | strexh => exact keepsStep_conditional keeps_storeExclusiveReg
  | strexd =>
    exact keepsStep_conditional (leaves_then leaves_shouldBe fun _ => leaves_then leaves_unpredictableIf fun _ =>
      leaves_then leaves_readReg fun _ => leaves_then leaves_readReg fun _ => leaves_then leaves_readReg fun _ =>
        keeps_storeExclusive.leaves fun _ => leaves_writeReg.bind fun _ => leaves_advance)
  | stc =>
    exact keepsStep_conditional (leaves_then leaves_dtrOnly fun _ => leaves_then leaves_unpredictableIf fun _ =>
      leaves_then leaves_readReg fun _ => leaves_then leaves_get fun _ => keeps_storeItem.leaves fun _ =>
        leaves_rdtrRead.bind fun _ => leaves_writeBack.bind fun _ => leaves_advance)
  | tStrReg | tStrImm | tStrhReg | tStrhImm | tStrbReg | tStrbImm | tStrSp =>
    exact keepsStep_always (leaves_then leaves_get fun _ => keeps_thumbStore)
  | tPush => exact keepsStep_always keeps_storeMultiple
  | tStmia =>
    exact keepsStep_always (leaves_then leaves_unpredictableIf fun _ => leaves_then leaves_get fun _ =>
      leaves_then leaves_thumbStored fun _ => keeps_storeMulti.leaves fun _ => leaves_writeReg.bind fun _ => leaves_advance)
  | _ => cases hi

/-- Every instruction keeps the canonical form: it leaves the stores, or writes bytes within them. -/
theorem exec_keeps (i : Instr) : KeepsMemoryStep (exec i) := by
  cases hi : i.stores with
  | false => exact keepsStep_of_leaves (exec_leavesStores hi)
  | true => exact exec_keeps_of_stores hi

theorem execWords_keeps (w : Words) : KeepsMemoryStep (execWords w) := by
  unfold execWords
  cases decode w with
  | noRow => exact keepsStep_of_leaves (execNoRow_leavesStores w)
  | instr i => exact exec_keeps i

/-! ### One boundary of the core -/

/-- The state a decision goes on from or ends in. -/
def decided : Decision → State
  | .done t => t
  | .go t => t

theorem stores_watchEvent {s t : State} {h : WatchHit} (ht : s.watchEvent h = some t) : stores t = stores s := by
  unfold State.watchEvent at ht
  dsimp only at ht
  split at ht
  · cases ht
  · split at ht
    · cases ht
      rfl
    · cases ht
      exact (stores_takeException _ _ _ _).trans rfl
    · cases ht
    · cases ht

theorem stores_takeWatch (s : State) : stores (decided s.takeWatch) = stores s := by
  unfold State.takeWatch
  split
  · rfl
  · dsimp only
    split
    · next ht => exact (stores_watchEvent ht).trans rfl
    · rfl

theorem stores_takeDebugRequest (s : State) : stores (decided s.takeDebugRequest) = stores s := by
  unfold State.takeDebugRequest
  split
  · rfl
  · split <;> rfl

theorem stores_takeIrq (s : State) : stores s.takeIrq = stores s := by
  unfold State.takeIrq
  dsimp only
  rw [stores_takeException]
  exact stores_ite rfl (stores_ite rfl rfl)

theorem stores_takeInterrupt (s : State) : stores (decided s.takeInterrupt) = stores s := by
  unfold State.takeInterrupt
  split
  · rfl
  · split
    · exact stores_takeException _ _ _ _
    · split
      · split
        · rfl
        · exact stores_takeIrq s
      · rfl

theorem stores_takeImprecise (s : State) (a : ImpreciseAbort) : stores (s.takeImprecise a) = stores s :=
  (stores_takeException _ _ _ _).trans rfl

theorem stores_of_codeEvent_if {s t : State} {p : Bool} {c : DebugCause} (h : (if p then s.codeEvent c else none) = some t) :
    stores t = stores s := by
  cases p with
  | false => cases h
  | true => exact stores_codeEvent h

theorem stores_afterFetch (s : State) : stores (decided s.afterFetch) = stores s := by
  unfold State.afterFetch
  split
  · exact stores_takeImprecise s _
  · split
    · next h => exact stores_of_codeEvent_if h
    · split
      · next h => exact stores_of_codeEvent_if h
      · rfl

/-- A decision that leaves the stores, followed by a step that keeps the canonical form. -/
theorem andThen_keeps {s t : State} {d : Decision} {en : PmuEnables} {k : State → Result} (hd : stores (decided d) = stores s)
    (hk : KeepsMemoryStep k) (hs : s.MemoryOk) (ht : d.andThen en k = .next t) : t.MemoryOk := by
  cases d with
  | done u =>
    cases ht
    exact memoryOk_of_stores ((stores_idleStep u en).trans hd) hs
  | go u => exact hk u t (memoryOk_of_stores hd hs) ht

/-- A change of the next state that leaves the stores keeps the canonical form. -/
theorem mapNext_memoryOk {f : State → State} (hf : ∀ s, stores (f s) = stores s) {r : Result} {t : State}
    (hr : ∀ u, r = .next u → u.MemoryOk) (ht : mapNext f r = .next t) : t.MemoryOk := by
  cases r with
  | next u =>
    cases ht
    exact memoryOk_of_stores (hf u) (hr u rfl)
  | fault e => cases ht
  | refused e => cases ht

theorem runWord_keeps (w : Words) : KeepsMemoryStep (State.runWord · w) := by
  intro s t hs ht
  simp only [State.runWord] at ht
  split at ht
  · split at ht
    · exact keepsStep_outcome (keeps_of_leaves leaves_raiseUndefined) s t hs ht
    · cases ht
  · exact execWords_keeps w s t hs ht

theorem fetchAndRun_keeps : KeepsMemoryStep State.fetchAndRun := by
  intro s t hs ht
  have hf : stores (endState fetchInsn s) = stores s := leaves_fetchInsn s
  have hu : ∀ u, u = endState fetchInsn s → u.MemoryOk := fun u hu => memoryOk_of_stores (hu ▸ hf) hs
  simp only [State.fetchAndRun] at ht
  split at ht
  · cases ht
  · cases ht
  · next u h =>
    cases ht
    exact memoryOk_of_stores (stores_idleStep u _) (hu u (endState_of_stop h).symm)
  · next a u h =>
    refine mapNext_memoryOk (fun v => stores_idleStep v _) (fun v hv => ?_) ht
    exact keepsStep_outcome (keeps_of_leaves leaves_takePrefetchAbort) u v (hu u (endState_of_run h).symm) hv
  · next w u h =>
    refine andThen_keeps (stores_afterFetch u) (fun v t hv ht => ?_) (hu u (endState_of_run h).symm) ht
    exact mapNext_memoryOk (fun x => stores_pmuTick x _ 1) (fun x hx => runWord_keeps w (v.commit w) x hv hx) ht

theorem boundary_keeps : KeepsMemoryStep State.boundary := by
  intro s t hs ht
  simp only [State.boundary] at ht
  split at ht
  · cases ht
    exact memoryOk_of_stores ((stores_idleStep _ _).trans (stores_ite (stores_takeIrq s) rfl)) hs
  · refine andThen_keeps (stores_takeWatch s) (fun u t hu ht => ?_) hs ht
    refine andThen_keeps (stores_takeDebugRequest u) (fun v t hv ht => ?_) hu ht
    exact andThen_keeps (stores_takeInterrupt v) fetchAndRun_keeps hv ht

theorem coreStep_keeps : KeepsMemoryStep State.coreStep := by
  intro s t hs ht
  have hidle : ∀ en, (s.idleStep en).MemoryOk := fun en => memoryOk_of_stores (stores_idleStep s en) hs
  unfold State.coreStep at ht
  split at ht
  · exact boundary_keeps s t hs ht
  · split at ht
    · exact boundary_keeps { s with activity := .running } t hs ht
    · cases ht
      exact hidle _
  · cases ht
    exact hidle _
  · cases ht
    exact hs

/-! ### The DMA engine -/

theorem stores_clearTag (s : State) (l : List Word) : stores (s.clearTag l) = stores s := by
  unfold State.clearTag
  split
  · split <;> rfl
  · rfl

theorem memoryOk_dmaMove {s : State} (hs : s.MemoryOk) (m : Tcm) (toTcm : Bool) (ti te : Word) (n : Nat) :
    (s.dmaMove m toTcm ti te n).MemoryOk := by
  unfold State.dmaMove
  split
  · exact State.memoryOk_copyBytes hs
  · exact memoryOk_of_stores (stores_clearTag _ _) (State.memoryOk_copyBytes hs)

theorem stores_dmaTranslate (s : State) (n : Bool) (va : Word) (k : Access) : stores (s.dmaTranslate n va k).2 = stores s := by
  unfold State.dmaTranslate
  dsimp only
  exact (stores_translate _ _).trans rfl

/-- If the engine goes on, then in a state in canonical form. -/
def OkMemory (r : Except Refusal State) : Prop := ∀ t, r = .ok t → t.MemoryOk

theorem okMemory_ok {t : State} (h : t.MemoryOk) : OkMemory (.ok t) := by
  intro u hu
  cases hu
  exact h

theorem okMemory_error {e : Refusal} : OkMemory (.error e) := by
  intro u hu
  cases hu

theorem okMemory_ite {p : Prop} [Decidable p] {x y : Except Refusal State} (hx : OkMemory x) (hy : OkMemory y) :
    OkMemory (if p then x else y) := by
  split
  · exact hx
  · exact hy

/-- A step of the DMA engine keeps the canonical form: it leaves the stores, or moves the bytes of one transaction
(22_l1_l2.md R783). -/
theorem okMemory_dmaStep {s : State} {n : Bool} (hs : s.MemoryOk) : OkMemory (s.dmaStep n) := by
  unfold State.dmaStep
  extract_lets c a e toTcm failed
  have hfailed : ∀ {u : State} {side code x sl}, u.MemoryOk → OkMemory (failed u side code x sl) :=
    fun h => okMemory_ok h
  have htr : ∀ {u : State} (va : Word) (k : Access), u.MemoryOk → (u.dmaTranslate n va k).2.MemoryOk :=
    fun va k => memoryOk_of_stores (stores_dmaTranslate _ n va k)
  refine okMemory_ite (okMemory_ok hs) ?_
  have h1 := htr a (if toTcm then .write else .read) hs
  generalize s.dmaTranslate n a (if toTcm then .write else .read) = r1 at h1 ⊢
  obtain ⟨ti, s1⟩ := r1
  cases ti with
  | error f => exact hfailed h1
  | ok ti =>
    have h2 := htr e (if toTcm then .read else .write) h1
    dsimp only at h2 ⊢
    generalize s1.dmaTranslate n e (if toTcm then .read else .write) = r2 at h2 ⊢
    obtain ⟨te, s2⟩ := r2
    cases te with
    | error f => exact hfailed h2
    | ok te =>
      dsimp only at h2 ⊢
      cases s2.cp15.dmaTcm (c.control.getLsbD 31) ti with
      | none => exact hfailed h2
      | some m =>
        refine okMemory_ite (hfailed h2) (okMemory_ite okMemory_error (okMemory_ite (hfailed h2)
          (okMemory_ite okMemory_error (okMemory_ite (hfailed h2) ?_))))
        cases s2.busError (c.onBus te) with
        | some slverr => exact hfailed h2
        | none => exact okMemory_ok (memoryOk_dmaMove h2 m toTcm ti.pa te.pa (2 ^ c.sizeLog))
theorem okMemory_dmaTick {s : State} (hs : s.MemoryOk) : OkMemory s.dmaTick := by
  unfold State.dmaTick
  split
  · exact okMemory_ok hs
  · exact okMemory_ite (okMemory_dmaStep hs) (okMemory_ite (okMemory_dmaStep hs) (okMemory_ok hs))

theorem dmaOutcome_keeps {k : State → Result} (hk : KeepsMemoryStep k) : KeepsMemoryStep (State.dmaOutcome · k) := by
  intro s t hs ht
  have htick := okMemory_dmaTick hs
  simp only [State.dmaOutcome] at ht
  split at ht
  · next u hu => exact hk u t (htick u hu) ht
  · cases ht

/-! ### The debug test access port -/

theorem stores_scan7 (s : State) (v : BitVec 40) : stores (s.scan7 v) = stores s := by
  unfold State.scan7
  refine stores_ite rfl (stores_ite (stores_ite rfl rfl) ?_)
  cases chain7Reg (v.extractLsb' 33 7) with
  | none => rfl
  | some r => exact stores_ite (stores_debugWrite s r _) rfl

theorem stores_scanChain (s : State) (v : BitVec 40) : stores (s.scanChain v) = stores s := by
  unfold State.scanChain
  exact stores_ite rfl (stores_ite rfl (stores_ite rfl (stores_ite (stores_ite (stores_ite rfl rfl) rfl)
    (stores_ite (stores_scan7 s v) rfl))))

theorem stores_scanDr (s : State) (v : BitVec 40) : stores (s.scanDr v) = stores s :=
  stores_ite rfl (stores_ite rfl (stores_ite (stores_scanChain s v) rfl))

theorem stores_leaveDebug (s : State) : stores s.leaveDebug = stores s := by
  unfold State.leaveDebug
  cases s.dbg.dbgPcWritten <;> rfl

/-- An instruction issued in Debug state has its effects or none. -/
theorem issued_memoryOk {s t : State} {w : Word} {r : Result} (hs : s.MemoryOk) (hr : ∀ u, r = .next u → u.MemoryOk)
    (ht : s.issued w r = .next t) : t.MemoryOk := by
  cases r with
  | next u =>
    cases ht
    split
    · exact hr u rfl
    · exact hs
  | fault e => cases ht
  | refused e => cases ht

theorem runTestIdle_keeps : KeepsMemoryStep State.runTestIdle := by
  intro s t hs ht
  unfold State.runTestIdle at ht
  split at ht
  · cases ht
    exact hs
  · split at ht
    · cases ht
      exact memoryOk_of_stores (stores_ite (stores_leaveDebug s) rfl) hs
    · split at ht
      · exact issued_memoryOk hs (fun u hu => execWords_keeps _ { s with trace := s.traceOf (.arm s.tap.itr) } u hs hu) ht
      · cases ht
        exact hs

/-! ### The outside and the step -/

theorem stores_releaseReset (s : State) : stores s.releaseReset = stores s := by
  unfold State.releaseReset
  split <;> rfl

/-- Another master writes a byte of main memory (20_memory.md R604). -/
theorem memoryOk_masterWrite {s : State} (hs : s.MemoryOk) (pa : Word) (b : Byte) : (s.masterWrite pa b).MemoryOk :=
  memoryOk_of_stores (stores_clearTag _ _) (State.memoryOk_writeByteAt none (s.byteAddr pa 0) b hs)

/-- Every event keeps the canonical form. -/
theorem event_keeps (e : Event) : KeepsMemoryStep (State.event · e) := by
  intro s t hs ht
  cases e with
  | core => exact dmaOutcome_keeps coreStep_keeps s t hs ht
  | dma => exact dmaOutcome_keeps (k := .next) (fun u v hu hv => by cases hv; exact hu) s t hs ht
  | runTestIdle => exact runTestIdle_keeps s t hs ht
  | porAlone =>
    simp only [State.event, State.porAlone] at ht
    split at ht
    · cases ht
      exact hs
    · cases ht
  | masterWrite pa b =>
    cases ht
    exact memoryOk_masterWrite hs pa b
  | releaseReset =>
    cases ht
    exact memoryOk_of_stores (stores_releaseReset s) hs
  | scanDR v =>
    cases ht
    exact memoryOk_of_stores (stores_scanDr s v) hs
  | busError a =>
    cases ht
    exact memoryOk_of_stores (stores_recordImprecise s a) hs
  | pin | irqAddr | assertReset | tapReset | scanIR | setRegions =>
    cases ht
    exact hs

theorem stepOne_keeps : KeepsMemoryStep State.stepOne := by
  intro s t hs ht
  unfold State.stepOne at ht
  split at ht
  · exact event_keeps .core s t hs ht
  · next e rest _ => exact event_keeps e { s with agenda := rest } t hs ht

/-- Settles O4: what a step does to the stores is to write bytes within them, each by a write that keeps the canonical form. -/
theorem everyStepKeepsMemoryCanonical : Obligations.EveryStepKeepsMemoryCanonical := by
  unfold Obligations.EveryStepKeepsMemoryCanonical
  exact stepOne_keeps

end Sys2Proof.CanonicalStores

/-!
Data processing: what the frame of the opcodes answers once its operands are read, and the statements about the twelve opcodes
and the comparisons (40_dataproc.md R901 to R935).
-/
namespace Sys2Proof.DataProcessing

open Sys2Proof Sys2Proof.Machine

/-! ### The steps of a frame -/

theorem outcome_unpredictableIf {b : Bool} (hb : b = false) (s : State) (f : Unit → M Unit) :
    (unpredictableIf b >>= f).outcome s = (f ()).outcome s := by
  subst hb
  rfl

theorem outcome_shouldBe {b : Bool} (hb : b = true) (s : State) (f : Unit → M Unit) :
    (shouldBe b >>= f).outcome s = (f ()).outcome s := by
  subst hb
  rfl

theorem outcome_readReg {n : BitVec 4} (hn : n ≠ 15) (s : State) (f : Word → M Unit) :
    (readReg n >>= f).outcome s = (f (s.reg n)).outcome s :=
  outcome_bind_ok (run_readReg hn s) f

/-- A write of a register ends with the next instruction. -/
theorem outcome_writeReg_advance {s : State} (hd : s.inDebug = false) (rd : BitVec 4) (w : Word) :
    (writeReg rd w >>= fun _ => advance).outcome s = .next ((s.setReg rd w).goto s.nextInsn) :=
  (outcome_bind_ok (run_writeReg rd w s) _).trans (outcome_advance hd rfl)

/-- A write of the flags ends with the next instruction, at a state that keeps the PC and the instruction set. -/
theorem outcome_setFlags_advance {s t : State} (hd : t.inDebug = false) (hn : t.nextInsn = s.nextInsn) (f : Nzcv) :
    (setFlags f >>= fun _ => advance).outcome t = .next ((t.setNzcv f).goto s.nextInsn) :=
  (outcome_bind_ok (run_setFlags f t) _).trans (outcome_advance hd ((State.setNzcv_nextInsn t f).trans hn))

/-! ### The frame of the opcodes -/

/-- The register an opcode reads as its first operand: MOV and MVN have none, and their Rn field is 0. -/
def firstReg (op : AluOp) (rn : BitVec 4) : BitVec 4 :=
  match op with
  | .mov | .mvn => 0
  | _ => rn

/-- The end of the frame of the opcodes: where the result goes. -/
def writeResult (sBit : Bool) (rd : BitVec 4) (r : Word × Nzcv) : M Unit := do
  if rd ≠ 15 then
    writeReg rd r.1
    if sBit then setFlags r.2
    advance
  else if !sBit then aluWritePc r.1
  else
    let psr ← readSpsr
    exceptionReturn r.1 psr

/-- MOV and MVN do not use their first operand. -/
theorem aluResult_firstReg (s : State) (op : AluOp) (rn : BitVec 4) (o : Operand2) :
    s.aluResult op (firstReg op rn) o = s.aluResult op rn o := by
  cases op <;> rfl

theorem regShiftPc_firstReg {o : Operand2} {rn rd : BitVec 4} (h : o.regShiftPc rn rd = false) (op : AluOp) :
    o.regShiftPc (firstReg op rn) rd = false := by
  cases o with
  | imm | shifted => rfl
  | shiftedByReg rs t rm =>
    simp only [Operand2.regShiftPc, Bool.or_eq_false_iff] at h ⊢
    obtain ⟨⟨hregs, hrn⟩, hrd⟩ := h
    refine ⟨⟨hregs, ?_⟩, hrd⟩
    cases op with
    | mov | mvn => rfl
    | _ => exact hrn

/-- An instruction of an opcode is the frame of the opcode, on the register its row reads. -/
theorem exec_aluInstr {s : State} {c : Cond} (h : s.Passes c) (op : AluOp) (sBit : Bool) (rn rd : BitVec 4) (o : Operand2) :
    exec (aluInstr op c sBit rn rd o) s = (dataProcessing op sBit (firstReg op rn) rd o).outcome s := by
  cases op <;> cases o <;> exact conditional_passed h.2 _

/-- A comparison is the frame of the comparisons on its opcode. -/
theorem exec_compareInstr {s : State} {c : Cond} (h : s.Passes c) (op : CompareOp) (rn : BitVec 4) (o : Operand2) :
    exec (compareInstr op c rn o) s = (Machine.compare op.alu rn o).outcome s := by
  cases op <;> cases o <;> exact conditional_passed h.2 _

/-- The frame of the opcodes computes the result of plain arithmetic and leaves the state as it is until it writes it. -/
theorem outcome_dataProcessing {s : State} (hd : s.inDebug = false) {op : AluOp} {rn rd : BitVec 4} {o : Operand2}
    (ho : o.regShiftPc rn rd = false) (sBit : Bool) :
    (dataProcessing op sBit rn rd o).outcome s = (writeResult sBit rd (s.aluResult op rn o)).outcome s := by
  unfold dataProcessing
  rw [outcome_unpredictableIf ho, outcome_bind_ok (run_operand2 hd o), outcome_bind_ok (run_readReg_operand hd rn),
    outcome_bind_ok (run_get s), alu_apply]
  rfl

/-- The frame of the comparisons writes the flags of its opcode. -/
theorem outcome_compare {s : State} (hd : s.inDebug = false) {rn : BitVec 4} {o : Operand2}
    (ho : o.regShiftPc rn 0 = false) (op : AluOp) :
    (Machine.compare op rn o).outcome s = .next ((s.setNzcv (s.aluResult op rn o).2).goto s.nextInsn) := by
  unfold Machine.compare
  rw [outcome_unpredictableIf ho, outcome_bind_ok (run_operand2 hd o), outcome_bind_ok (run_readReg_operand hd rn),
    outcome_bind_ok (run_get s), alu_apply]
  exact outcome_setFlags_advance hd rfl _

/-- An instruction of an opcode writes the result of plain arithmetic. -/
theorem exec_aluInstr_writeResult {s : State} {c : Cond} (h : s.Passes c) (op : AluOp) (sBit : Bool) {rn rd : BitVec 4}
    {o : Operand2} (ho : o.regShiftPc rn rd = false) :
    exec (aluInstr op c sBit rn rd o) s = (writeResult sBit rd (s.aluResult op rn o)).outcome s := by
  rw [exec_aluInstr h, outcome_dataProcessing h.1 (regShiftPc_firstReg ho op), aluResult_firstReg]

/-! ### Where the result goes -/

theorem outcome_writeResult_reg {s : State} (hd : s.inDebug = false) {rd : BitVec 4} (hrd : rd ≠ 15) (sBit : Bool)
    (r : Word × Nzcv) :
    (writeResult sBit rd r).outcome s =
      .next ((if sBit then (s.setReg rd r.1).setNzcv r.2 else s.setReg rd r.1).goto s.nextInsn) := by
  unfold writeResult
  rw [if_pos hrd]
  cases sBit with
  | false => exact outcome_writeReg_advance hd rd r.1
  | true =>
    have hflags := outcome_setFlags_advance (s := s) (t := s.setReg rd r.1) hd rfl r.2
    exact (outcome_bind_ok (run_writeReg rd r.1 s) _).trans hflags

theorem outcome_writeResult_branch {s : State} (hd : s.inDebug = false) (r : Word × Nzcv) :
    (writeResult false 15 r).outcome s =
      .next (s.goto (if s.bitT then r.1 &&& 0xFFFFFFFE else r.1 &&& 0xFFFFFFFC)) :=
  (outcome_ok (run_aluWritePc r.1 s)).trans (congrArg _ (branchTo_running hd _))

/-- With S a write of R15 returns from an exception, where the mode has an SPSR. -/
theorem outcome_writeResult_return {s : State} (hd : s.inDebug = false) (r : Word × Nzcv) :
    (writeResult true 15 r).outcome s =
      match spsrSlot s.mode with
      | some k => s.returnOutcome r.1 s.spsr[k]
      | none => .refused .spsrAbsent := by
  have hframe : (writeResult true 15 r).outcome s = (readSpsr >>= exceptionReturn r.1).outcome s := rfl
  rw [hframe]
  cases hk : spsrSlot s.mode with
  | some k =>
    have hr : readSpsr.run s = .ok s.spsr[k] s := by simp only [readSpsr, run_bind, run_get, hk, run_pure]
    exact (outcome_bind_ok hr _).trans (outcome_exceptionReturn hd _ _)
  | none =>
    have hr : readSpsr.run s = .error (.refused .spsrAbsent) s := by
      simp only [readSpsr, run_bind, run_get, hk, run_refuse]
    exact outcome_bind_error hr _

/-! ### The statements -/

/-- Settles O21: the frame computes the plain arithmetic, and a destination other than R15 takes it. -/
theorem dataProcessingWritesResultAndFlags : Obligations.DataProcessingWritesResultAndFlags := by
  intro s op c sBit rn rd o h hrd ho
  rw [exec_aluInstr_writeResult h op sBit ho, outcome_writeResult_reg h.1 hrd]

/-- Settles O22: R15 takes the result by a branch, or with S by an exception return. -/
theorem dataProcessingToThePcBranchesOrReturns : Obligations.DataProcessingToThePcBranchesOrReturns := by
  intro s op c rn o h ho
  exact ⟨(exec_aluInstr_writeResult h op false ho).trans (outcome_writeResult_branch h.1 _),
    (exec_aluInstr_writeResult h op true ho).trans (outcome_writeResult_return h.1 _)⟩

/-- Settles O23: a comparison is its opcode without the result. -/
theorem comparisonsOnlySetTheFlags : Obligations.ComparisonsOnlySetTheFlags := by
  intro s op c rn o h ho
  rw [exec_compareInstr h, outcome_compare h.1 ho]

end Sys2Proof.DataProcessing

/-!
The instructions that move bytes and count: the words they compute as plain arithmetic, and the statement about them
(40_dataproc.md R936, R940, 42_media_simd.md R1150, R1151, R1184 to R1192).
-/
namespace Sys2Proof.ByteInstructions

open Sys2Proof Sys2Proof.Machine Sys2Proof.DataProcessing

/-! ### The frame of an instruction that writes one word -/

theorem anyPc_nil : anyPc [] = false := rfl

theorem anyPc_cons {n : BitVec 4} {l : List (BitVec 4)} (hn : n ≠ 15) (hl : anyPc l = false) : anyPc (n :: l) = false :=
  Bool.or_eq_false_iff.2 ⟨beq_eq_false_iff_ne.2 hn, hl⟩

theorem outcome_finishWord {s : State} (hd : s.inDebug = false) (rd : BitVec 4) (w : Word) :
    (finishWord false rd w).outcome s = .next ((s.setReg rd w).goto s.nextInsn) :=
  outcome_writeReg_advance hd rd w

/-- The frame of a word computed from two registers, where the operands `l` are not R15. -/
theorem outcome_wordOfTwo {s : State} (hd : s.inDebug = false) {l : List (BitVec 4)} (hl : anyPc l = false) {x y : BitVec 4}
    (hx : x ≠ 15) (hy : y ≠ 15) (rd : BitVec 4) (f : Word → Word → Word) :
    (unpredictableIf (anyPc l) >>= fun _ => readReg x >>= fun v => readReg y >>= fun w =>
      finishWord false rd (f v w)).outcome s = .next ((s.setReg rd (f (s.reg x) (s.reg y))).goto s.nextInsn) := by
  rw [outcome_unpredictableIf hl, outcome_readReg hx, outcome_readReg hy, outcome_finishWord hd]

theorem outcome_reversal {s : State} (hd : s.inDebug = false) (f : Word → Word) {rd rm : BitVec 4} (hrd : rd ≠ 15)
    (hrm : rm ≠ 15) : (reversal f 15 rd 15 rm).outcome s = .next ((s.setReg rd (f (s.reg rm))).goto s.nextInsn) := by
  unfold reversal
  rw [outcome_shouldBe (by rfl), outcome_unpredictableIf (anyPc_cons hrd (anyPc_cons hrm anyPc_nil)), outcome_readReg hrm,
    outcome_finishWord hd]

/-! ### The words -/

/-- Two subtractions that stop at 0, one of them 0, add up to the absolute difference. -/
theorem sub_add_sub_eq_natAbs (a b : Nat) : a - b + (b - a) = ((a : Int) - b).natAbs := by omega

theorem absDiffs_eq (m r : Word) :
    absDiffs m r = BitVec.ofNat 32 ((((byteAt m 0).toNat : Int) - (byteAt r 0).toNat).natAbs +
      (((byteAt m 1).toNat : Int) - (byteAt r 1).toNat).natAbs + (((byteAt m 2).toNat : Int) - (byteAt r 2).toNat).natAbs +
      (((byteAt m 3).toNat : Int) - (byteAt r 3).toNat).natAbs) := by
  simp only [absDiffs, sub_add_sub_eq_natAbs]

theorem add_ofNat (x : Word) (n : Nat) : x + BitVec.ofNat 32 n = BitVec.ofNat 32 (x.toNat + n) := by
  rw [BitVec.ofNat_add, BitVec.ofNat_toNat, BitVec.setWidth_eq]

theorem setWidth_ofInt_16 (i : Int) : (BitVec.ofInt 32 i).setWidth 16 = BitVec.ofInt 16 i := by
  apply BitVec.eq_of_toNat_eq
  simp only [BitVec.toNat_setWidth, BitVec.toNat_ofInt]
  omega

/-- An arithmetic shift right divides and rounds down. -/
theorem lowHalf_sshiftRight (x : Word) (n : Nat) : lowHalf (x.sshiftRight n) = BitVec.ofInt 16 (x.toInt / 2 ^ n) := by
  have hdiv : x.sshiftRight n = BitVec.ofInt 32 (x.toInt / 2 ^ n) := by
    rw [BitVec.sshiftRight_eq, Int.shiftRight_eq_div_pow, Int.natCast_pow, Int.cast_ofNat_Int]
  rw [hdiv, lowHalf, ← BitVec.setWidth_eq_extractLsb' (by decide), setWidth_ofInt_16]

/-! ### Leading zeros -/

/-- A word whose top `k` bits are clear is below `2 ^ (32 - k)`. -/
theorem toNat_lt_of_top_clear {w : Word} {k : Nat} (h : ∀ j < k, (!w.getLsbD (31 - j)) = true) :
    w.toNat < 2 ^ (32 - k) := by
  refine Nat.lt_pow_two_of_testBit _ fun i hi => ?_
  by_cases h32 : i < 32
  · have hbit := h (31 - i) (by omega)
    rwa [Nat.sub_sub_self (by omega), Bool.not_eq_true'] at hbit
  · exact BitVec.getLsbD_of_ge w i (Nat.le_of_not_lt h32)

/-- The count of the zeros above the most significant set bit is the `k` that puts the value between two powers of two. -/
theorem leadingZeros_bounds (w : Word) :
    ∃ k ≤ 32, leadingZeros w = BitVec.ofNat 32 k ∧ w.toNat < 2 ^ (32 - k) ∧ (k < 32 → 2 ^ (31 - k) ≤ w.toNat) := by
  unfold leadingZeros
  cases hf : (List.range 32).find? fun k => w.getLsbD (31 - k) with
  | none =>
    have hclear := List.find?_range_eq_none.1 hf
    exact ⟨32, Nat.le_refl 32, rfl, toNat_lt_of_top_clear hclear, fun h => absurd h (Nat.lt_irrefl 32)⟩
  | some k =>
    obtain ⟨hset, hmem, hclear⟩ := List.find?_range_eq_some.1 hf
    have hk : k < 32 := List.mem_range.1 hmem
    exact ⟨k, Nat.le_of_lt hk, rfl, toNat_lt_of_top_clear hclear, fun _ => Nat.ge_two_pow_of_testBit hset⟩

/-! ### The instructions -/

section

variable {s : State} {c : Cond} {rn rd rs rm : BitVec 4}

theorem exec_sel (h : s.Passes c) (hrn : rn ≠ 15) (hrd : rd ≠ 15) (hrm : rm ≠ 15) :
    exec (.sel c rn rd 15 rm) s = .next ((s.setReg rd (selectBytes s.ge (s.reg rn) (s.reg rm))).goto s.nextInsn) := by
  refine (conditional_passed h.2 _).trans ?_
  rw [outcome_shouldBe (by rfl), outcome_unpredictableIf (anyPc_cons hrn (anyPc_cons hrd (anyPc_cons hrm anyPc_nil))),
    outcome_readReg hrn, outcome_readReg hrm, outcome_bind_ok (run_get s), outcome_finishWord h.1]

theorem exec_pkhbt (h : s.Passes c) (hrn : rn ≠ 15) (hrd : rd ≠ 15) (hrm : rm ≠ 15) (imm5 : BitVec 5) :
    exec (.pkhbt c rn rd imm5 rm) s =
      .next ((s.setReg rd (ofHalves (highHalf (s.reg rm <<< imm5.toNat)) (lowHalf (s.reg rn)))).goto s.nextInsn) :=
  (conditional_passed h.2 _).trans
    (outcome_wordOfTwo h.1 (anyPc_cons hrn (anyPc_cons hrd (anyPc_cons hrm anyPc_nil))) hrn hrm rd _)

theorem exec_pkhtb (h : s.Passes c) (hrn : rn ≠ 15) (hrd : rd ≠ 15) (hrm : rm ≠ 15) (imm5 : BitVec 5) :
    exec (.pkhtb c rn rd imm5 rm) s =
      .next ((s.setReg rd (ofHalves (highHalf (s.reg rn))
        (lowHalf ((s.reg rm).sshiftRight (if imm5 = 0 then 32 else imm5.toNat))))).goto s.nextInsn) :=
  (conditional_passed h.2 _).trans
    (outcome_wordOfTwo h.1 (anyPc_cons hrn (anyPc_cons hrd (anyPc_cons hrm anyPc_nil))) hrn hrm rd _)

theorem exec_usad8 (h : s.Passes c) (hrd : rd ≠ 15) (hrs : rs ≠ 15) (hrm : rm ≠ 15) :
    exec (.usad8 c rd rs rm) s = .next ((s.setReg rd (absDiffs (s.reg rm) (s.reg rs))).goto s.nextInsn) :=
  (conditional_passed h.2 _).trans
    (outcome_wordOfTwo h.1 (anyPc_cons hrd (anyPc_cons hrs (anyPc_cons hrm anyPc_nil))) hrm hrs rd absDiffs)

theorem exec_usada8 (h : s.Passes c) (hrn : rn ≠ 15) (hrd : rd ≠ 15) (hrs : rs ≠ 15) (hrm : rm ≠ 15) :
    exec (.usada8 c rd rn rs rm) s =
      .next ((s.setReg rd (s.reg rn + absDiffs (s.reg rm) (s.reg rs))).goto s.nextInsn) := by
  refine (conditional_passed h.2 _).trans ?_
  rw [outcome_unpredictableIf (anyPc_cons hrd (anyPc_cons hrn (anyPc_cons hrs (anyPc_cons hrm anyPc_nil)))),
    outcome_readReg hrm, outcome_readReg hrs, outcome_readReg hrn, outcome_finishWord h.1]

theorem exec_clz (h : s.Passes c) (hrd : rd ≠ 15) (hrm : rm ≠ 15) :
    exec (.clz c 15 rd 15 rm) s = .next ((s.setReg rd (leadingZeros (s.reg rm))).goto s.nextInsn) := by
  refine (conditional_passed h.2 _).trans ?_
  have hpc : (rd == 15 || rm == 15) = false :=
    Bool.or_eq_false_iff.2 ⟨beq_eq_false_iff_ne.2 hrd, beq_eq_false_iff_ne.2 hrm⟩
  rw [outcome_shouldBe (by rfl), outcome_unpredictableIf hpc, outcome_readReg hrm, outcome_writeReg_advance h.1]

/-- CPY is MOV of an unshifted register without flags. -/
theorem exec_cpy (h : s.Passes c) (rd q : BitVec 4) :
    exec (.cpy c rd q) s = exec (aluInstr .mov c false 0 rd (.shifted 0 0 q)) s := by
  rw [exec_aluInstr h]
  exact conditional_passed h.2 _

theorem exec_cpy_reg (h : s.Passes c) (hrd : rd ≠ 15) (q : BitVec 4) :
    exec (.cpy c rd q) s = .next ((s.setReg rd (s.operand q)).goto s.nextInsn) := by
  rw [exec_cpy h, dataProcessingWritesResultAndFlags s .mov c false 0 rd _ h hrd rfl]
  rfl

theorem exec_cpy_pc (h : s.Passes c) (q : BitVec 4) :
    exec (.cpy c 15 q) s =
      .next (s.goto (if s.bitT then s.operand q &&& 0xFFFFFFFE else s.operand q &&& 0xFFFFFFFC)) :=
  (exec_cpy h 15 q).trans (dataProcessingToThePcBranchesOrReturns s .mov c 0 (.shifted 0 0 q) h rfl).1

end

/-! ### The statement -/

/-- Settles O30: each instruction writes the word of its helper, and the helpers are the plain arithmetic. -/
theorem byteInstructionsSelectAndCount : Obligations.ByteInstructionsSelectAndCount := by
  intro s c rn rd rs rm imm5 h hrn hrd hrs hrm
  obtain ⟨k, hk, hclz, hbounds⟩ := leadingZeros_bounds (s.reg rm)
  refine ⟨?rev, ?rev16, ?revsh, exec_sel h hrn hrd hrm, exec_pkhbt h hrn hrd hrm imm5, ?pkhtb, ?usad8, ?usada8,
    ⟨k, hk, ?clz, hbounds⟩, exec_cpy_reg h hrd, exec_cpy_pc h⟩
  case rev => exact (conditional_passed h.2 _).trans (outcome_reversal h.1 reverseBytes hrd hrm)
  case rev16 => exact (conditional_passed h.2 _).trans (outcome_reversal h.1 reverseHalves hrd hrm)
  case revsh => exact (conditional_passed h.2 _).trans (outcome_reversal h.1 reverseSigned hrd hrm)
  case pkhtb =>
    rw [exec_pkhtb h hrn hrd hrm, lowHalf_sshiftRight]
    rfl
  case usad8 =>
    rw [exec_usad8 h hrd hrs hrm, absDiffs_eq]
    rfl
  case usada8 =>
    rw [exec_usada8 h hrn hrd hrs hrm, absDiffs_eq, add_ofNat]
    rfl
  case clz => rw [exec_clz h hrd hrm, hclz]

end Sys2Proof.ByteInstructions

/-!
The multiplies: how their results are written, their exact integers as words, and the statements about them
(41_multiply_dsp.md R1001 to R1016, R1030 to R1052).
-/
namespace Sys2Proof.Multiplies

open Sys2Proof Sys2Proof.Machine Sys2Proof.DataProcessing Sys2Proof.ByteInstructions

/-! ### Writing the result -/

/-- The state after an instruction that writes a word, with the flags N and Z where `sBit`. -/
def afterWord (s : State) (sBit : Bool) (rd : BitVec 4) (w : Word) : State :=
  (if sBit then (s.setReg rd w).withNz w else s.setReg rd w).goto s.nextInsn

theorem outcome_finishWord_afterWord {s : State} (hd : s.inDebug = false) (sBit : Bool) (rd : BitVec 4) (w : Word) :
    (finishWord sBit rd w).outcome s = .next (afterWord s sBit rd w) := by
  cases sBit with
  | false => exact outcome_finishWord hd rd w
  | true =>
    have hnz : (setNz w >>= fun _ => advance).outcome (s.setReg rd w) =
        .next (((s.setReg rd w).withNz w).goto s.nextInsn) :=
      (outcome_bind_ok (run_setNz w _) _).trans (outcome_advance hd (State.setNzcv_nextInsn _ _))
    exact (outcome_bind_ok (run_writeReg rd w s) _).trans hnz

/-- The state after an instruction that narrows an exact integer to a word. -/
def afterNarrow (s : State) (rd : BitVec 4) (v : Int) : State := (s.setReg rd (BitVec.ofInt 32 v)).goto s.nextInsn

theorem outcome_finishWord_afterNarrow {s : State} (hd : s.inDebug = false) (rd : BitVec 4) (v : Int) :
    (finishWord false rd (wordOf v)).outcome s = .next (afterNarrow s rd v) :=
  outcome_finishWord hd rd (wordOf v)

/-- A write of a register and of Q ends with the next instruction. -/
theorem outcome_writeReg_setQIf_advance {s : State} (hd : s.inDebug = false) (rd : BitVec 4) (w : Word) (q : Bool) :
    (writeReg rd w >>= fun _ => setQIf q >>= fun _ => advance).outcome s =
      .next (((s.setReg rd w).orQ q).goto s.nextInsn) := by
  have hq : (setQIf q >>= fun _ => advance).outcome (s.setReg rd w) =
      .next (((s.setReg rd w).orQ q).goto s.nextInsn) :=
    (outcome_bind_ok (run_setQIf q _) _).trans
      (outcome_advance ((State.orQ_inDebug _ q).trans hd) (State.orQ_nextInsn _ q))
  exact (outcome_bind_ok (run_writeReg rd w s) _).trans hq

/-- An integer does not fit in 32 signed bits where it is below or above their range. -/
theorem not_fitsWord (v : Int) : (!fitsWord v) = (decide (v < -2 ^ 31) || decide (2 ^ 31 ≤ v)) := by
  rw [Bool.eq_iff_iff]
  simp only [fitsWord, wordOf, BitVec.toInt_ofInt, Int.bmod_def, Bool.not_eq_true', beq_eq_false_iff_ne,
    Bool.or_eq_true, decide_eq_true_eq]
  split <;> omega

/-- The state after an accumulation: the word, and Q where the exact integer does not fit it. -/
def afterAccumulate (s : State) (rd : BitVec 4) (v : Int) : State :=
  ((s.setReg rd (BitVec.ofInt 32 v)).orQ (decide (v < -2 ^ 31) || decide (2 ^ 31 ≤ v))).goto s.nextInsn

theorem outcome_finishAccumulate {s : State} (hd : s.inDebug = false) (rd : BitVec 4) (v : Int) :
    (finishAccumulate rd v).outcome s = .next (afterAccumulate s rd v) := by
  rw [afterAccumulate, ← not_fitsWord]
  exact outcome_writeReg_setQIf_advance hd rd (wordOf v) (!fitsWord v)

/-- The state with a double word in a pair of registers. -/
def withLong (s : State) (rdHi rdLo : BitVec 4) (d : DWord) : State :=
  (s.setReg rdHi (d.extractLsb' 32 32)).setReg rdLo (d.extractLsb' 0 32)

/-- The state after an instruction that writes a double word, with the flags N and Z where `sBit`. -/
def afterLong (s : State) (sBit : Bool) (rdHi rdLo : BitVec 4) (d : DWord) : State :=
  (if sBit then (withLong s rdHi rdLo d).setNzcv { s.nzcv with n := d.msb, z := d == 0 }
    else withLong s rdHi rdLo d).goto s.nextInsn

theorem outcome_writeLong (s : State) (rdHi rdLo : BitVec 4) (d : DWord) (f : Unit → M Unit) :
    (writeReg rdHi (d.extractLsb' 32 32) >>= fun _ => writeReg rdLo (d.extractLsb' 0 32) >>= f).outcome s =
      (f ()).outcome (withLong s rdHi rdLo d) :=
  (outcome_bind_ok (run_writeReg _ _ _) _).trans (outcome_bind_ok (run_writeReg _ _ _) f)

theorem outcome_finishLong {s : State} (hd : s.inDebug = false) (sBit : Bool) (rdHi rdLo : BitVec 4) (v : Int) :
    (finishLong sBit rdHi rdLo v).outcome s = .next (afterLong s sBit rdHi rdLo (BitVec.ofInt 64 v)) := by
  cases sBit with
  | false => exact (outcome_writeLong s rdHi rdLo _ _).trans (outcome_advance hd rfl)
  | true =>
    have hnz : (setNzLong (BitVec.ofInt 64 v) >>= fun _ => advance).outcome (withLong s rdHi rdLo (BitVec.ofInt 64 v)) =
        .next (afterLong s true rdHi rdLo (BitVec.ofInt 64 v)) :=
      (outcome_bind_ok (run_modify _ _) _).trans (outcome_advance hd (State.setNzcv_nextInsn _ _))
    exact (outcome_writeLong s rdHi rdLo _ _).trans hnz

/-! ### Reading the operands -/

theorem run_readLong {hi lo : BitVec 4} (hhi : hi ≠ 15) (hlo : lo ≠ 15) (s : State) :
    (readLong hi lo).run s = .ok (s.reg hi ++ s.reg lo) s := by
  simp only [readLong, run_bind, run_readReg hhi, run_readReg hlo, run_pure]

theorem run_readDual {rs rm : BitVec 4} (hrs : rs ≠ 15) (hrm : rm ≠ 15) (x : Bool) (s : State) :
    (readDual x rs rm).run s = .ok (dualProducts x (s.reg rm) (s.reg rs)) s := by
  simp only [readDual, run_bind, run_readReg hrs, run_readReg hrm, run_pure]

theorem anyPc_three {a b c : BitVec 4} (ha : a ≠ 15) (hb : b ≠ 15) (hc : c ≠ 15) : anyPc [a, b, c] = false :=
  anyPc_cons ha (anyPc_cons hb (anyPc_cons hc anyPc_nil))

theorem anyPc_four {a b c d : BitVec 4} (ha : a ≠ 15) (hb : b ≠ 15) (hc : c ≠ 15) (hd : d ≠ 15) :
    anyPc [a, b, c, d] = false :=
  anyPc_cons ha (anyPc_three hb hc hd)

section

variable {s : State} {l : List (BitVec 4)} {rd rn rs rm : BitVec 4}

theorem outcome_readTwo (hl : anyPc l = false) (hrs : rs ≠ 15) (hrm : rm ≠ 15) (f : Word → Word → M Unit) :
    (unpredictableIf (anyPc l) >>= fun _ => readReg rm >>= fun a => readReg rs >>= fun b => f a b).outcome s =
      (f (s.reg rm) (s.reg rs)).outcome s := by
  rw [outcome_unpredictableIf hl, outcome_readReg hrm, outcome_readReg hrs]

theorem outcome_readThree (hl : anyPc l = false) (hrn : rn ≠ 15) (hrs : rs ≠ 15) (hrm : rm ≠ 15)
    (f : Word → Word → Word → M Unit) :
    (unpredictableIf (anyPc l) >>= fun _ => readReg rm >>= fun a => readReg rs >>= fun b => readReg rn >>= fun e =>
      f a b e).outcome s = (f (s.reg rm) (s.reg rs) (s.reg rn)).outcome s := by
  rw [outcome_readTwo hl hrs hrm, outcome_readReg hrn]

theorem outcome_longRestrictions (hrd : rd ≠ 15) (hrn : rn ≠ 15) (hrs : rs ≠ 15) (hrm : rm ≠ 15) (hne : rd ≠ rn)
    (f : Unit → M Unit) : (longRestrictions rd rn rs rm >>= f).outcome s = (f ()).outcome s :=
  outcome_unpredictableIf (Bool.or_eq_false_iff.2
    ⟨anyPc_four hrd hrn hrs hrm, beq_eq_false_iff_ne.2 hne⟩) s f

theorem outcome_longProduct (hrd : rd ≠ 15) (hrn : rn ≠ 15) (hrs : rs ≠ 15) (hrm : rm ≠ 15) (hne : rd ≠ rn)
    (f : Word → Word → M Unit) :
    (longRestrictions rd rn rs rm >>= fun _ => readReg rm >>= fun a => readReg rs >>= fun b => f a b).outcome s =
      (f (s.reg rm) (s.reg rs)).outcome s := by
  rw [outcome_longRestrictions hrd hrn hrs hrm hne, outcome_readReg hrm, outcome_readReg hrs]

theorem outcome_longAccumulate (hrd : rd ≠ 15) (hrn : rn ≠ 15) (hrs : rs ≠ 15) (hrm : rm ≠ 15) (hne : rd ≠ rn)
    (f : Word → Word → DWord → M Unit) :
    (longRestrictions rd rn rs rm >>= fun _ => readReg rm >>= fun a => readReg rs >>= fun b =>
      readLong rd rn >>= fun acc => f a b acc).outcome s =
      (f (s.reg rm) (s.reg rs) (s.reg rd ++ s.reg rn)).outcome s := by
  rw [outcome_longProduct hrd hrn hrs hrm hne, outcome_bind_ok (run_readLong hrd hrn s)]

theorem outcome_dual (hl : anyPc l = false) (hrs : rs ≠ 15) (hrm : rm ≠ 15) (x : Bool) (f : Int × Int → M Unit) :
    (unpredictableIf (anyPc l) >>= fun _ => readDual x rs rm >>= f).outcome s =
      (f (dualProducts x (s.reg rm) (s.reg rs))).outcome s := by
  rw [outcome_unpredictableIf hl, outcome_bind_ok (run_readDual hrs hrm x s)]

theorem outcome_dualAccumulate (hl : anyPc l = false) (hrn : rn ≠ 15) (hrs : rs ≠ 15) (hrm : rm ≠ 15) (x : Bool)
    (f : Int × Int → Word → M Unit) :
    (unpredictableIf (anyPc l) >>= fun _ => readDual x rs rm >>= fun p => readReg rn >>= fun e => f p e).outcome s =
      (f (dualProducts x (s.reg rm) (s.reg rs)) (s.reg rn)).outcome s := by
  rw [outcome_dual hl hrs hrm, outcome_readReg hrn]

theorem outcome_dualLong (hrd : rd ≠ 15) (hrn : rn ≠ 15) (hrs : rs ≠ 15) (hrm : rm ≠ 15) (hne : rd ≠ rn) (x : Bool)
    (f : Int × Int → DWord → M Unit) :
    (longRestrictions rd rn rs rm >>= fun _ => readDual x rs rm >>= fun p => readLong rd rn >>= fun acc =>
      f p acc).outcome s =
      (f (dualProducts x (s.reg rm) (s.reg rs)) (s.reg rd ++ s.reg rn)).outcome s := by
  rw [outcome_longRestrictions hrd hrn hrs hrm hne, outcome_bind_ok (run_readDual hrs hrm x s),
    outcome_bind_ok (run_readLong hrd hrn s)]

end

/-! ### The exact integers as words -/

theorem ofInt_toNat {k : Nat} (n : Nat) (x : BitVec k) : BitVec.ofInt n x.toNat = x.setWidth n := by
  rw [BitVec.ofInt_natCast, BitVec.ofNat_toNat]

theorem ofInt_toInt_eq_signExtend {k : Nat} (n : Nat) (x : BitVec k) : BitVec.ofInt n x.toInt = x.signExtend n := rfl

theorem halfInt_eq (top : Bool) (w : Word) :
    halfInt top w = if top then (w.extractLsb' 16 16).toInt else (w.extractLsb' 0 16).toInt :=
  apply_ite BitVec.toInt _ _ _

theorem lowHalf_rotateRight (r : Word) : lowHalf (r.rotateRight 16) = highHalf r := by
  refine BitVec.eq_of_getLsbD_eq fun k hk => ?_
  simp only [lowHalf, highHalf, BitVec.getLsbD_extractLsb', BitVec.getLsbD_rotateRight, hk, decide_true, cond_true,
    Bool.true_and, Nat.zero_add]

theorem highHalf_rotateRight (r : Word) : highHalf (r.rotateRight 16) = lowHalf r := by
  refine BitVec.eq_of_getLsbD_eq fun k hk => ?_
  have hwraps : ¬16 + k < 32 - 16 % 32 := by omega
  have hword : 16 + k < 32 := by omega
  have hback : 16 + k - (32 - 16 % 32) = k := by omega
  simp only [lowHalf, highHalf, BitVec.getLsbD_extractLsb', BitVec.getLsbD_rotateRight, hk, hwraps, hword, hback, decide_true,
    decide_false, cond_false, Bool.true_and, Nat.zero_add]

/-- The low halfword of Rm meets one half of Rs, and its top halfword the other. -/
theorem dualProducts_eq (x : Bool) (m r : Word) :
    dualProducts x m r = (halfInt false m * halfInt x r, halfInt true m * halfInt (!x) r) := by
  cases x with
  | false => rfl
  | true =>
    simp only [dualProducts, if_true, lowHalf_rotateRight, highHalf_rotateRight]
    rfl

/-- The top word of 64 bits is the quotient by `2 ^ 32`. -/
theorem highWord_eq (b : Bool) (v : Int) :
    highWord b v = BitVec.ofInt 32 ((v + if b then 2 ^ 31 else 0) / 2 ^ 32) := by
  have htop (e : Int) : (BitVec.ofInt 64 e).extractLsb' 32 32 = BitVec.ofInt 32 (e / 2 ^ 32) := by
    apply BitVec.eq_of_toNat_eq
    simp only [BitVec.extractLsb'_toNat, BitVec.toNat_ofInt, Nat.shiftRight_eq_div_pow]
    omega
  cases b with
  | false => exact (htop v).trans (by rw [if_neg Bool.false_ne_true, Int.add_zero])
  | true => exact htop _

theorem halfInt_bounds (top : Bool) (w : Word) : -2 ^ 15 ≤ halfInt top w ∧ halfInt top w < 2 ^ 15 :=
  ⟨BitVec.le_toInt _, BitVec.toInt_lt⟩

/-- A word times a halfword has at most 48 bits, so that the shifted product fits a word. -/
theorem wideProduct_toInt (y : Bool) (a b : Word) :
    (wideProduct y a b).toInt = a.toInt * halfInt y b / 2 ^ 16 := by
  have halo : -2 ^ 31 ≤ a.toInt := BitVec.le_toInt a
  have hahi : a.toInt < 2 ^ 31 := BitVec.toInt_lt
  obtain ⟨hblo, hbhi⟩ := halfInt_bounds y b
  have hprod : (a.toInt * halfInt y b).natAbs ≤ 2 ^ 31 * 2 ^ 15 := by
    rw [Int.natAbs_mul]
    exact Nat.mul_le_mul (by omega) (by omega)
  exact BitVec.toInt_ofInt_eq_self (by decide) (by omega) (by omega)

/-! ### The instructions -/

section

variable {s : State} {c : Cond} {rd rn rs rm : BitVec 4} (h : s.Passes c) (hrd : rd ≠ 15) (hrs : rs ≠ 15)
  (hrm : rm ≠ 15)

include h hrd hrs hrm

theorem exec_mul (sBit : Bool) :
    exec (.mul c sBit rd 0 rs rm) s = .next (afterWord s sBit rd (s.reg rm * s.reg rs)) := by
  refine (conditional_passed h.2 _).trans ?_
  rw [outcome_shouldBe (by rfl), outcome_readTwo (anyPc_three hrd hrs hrm) hrs hrm, outcome_finishWord_afterWord h.1]
  simp only [wordOf, BitVec.ofInt_mul, ofInt_toNat, BitVec.setWidth_eq]

theorem exec_smulxy (y x : Bool) :
    exec (.smulxy c rd 0 rs y x rm) s = .next (afterNarrow s rd (halfInt x (s.reg rm) * halfInt y (s.reg rs))) := by
  refine (conditional_passed h.2 _).trans ?_
  rw [outcome_shouldBe (by rfl), outcome_readTwo (anyPc_three hrd hrs hrm) hrs hrm, outcome_finishWord_afterNarrow h.1]

theorem exec_smulwy (y : Bool) :
    exec (.smulwy c rd 0 rs y rm) s =
      .next (afterNarrow s rd ((s.reg rm).toInt * halfInt y (s.reg rs) / 2 ^ 16)) := by
  refine (conditional_passed h.2 _).trans ?_
  rw [outcome_shouldBe (by rfl), outcome_readTwo (anyPc_three hrd hrs hrm) hrs hrm]
  exact outcome_finishWord_afterNarrow h.1 rd _

theorem exec_smuad (x : Bool) :
    exec (.smuad c rd rs x rm) s = .next (afterAccumulate s rd
      (halfInt false (s.reg rm) * halfInt x (s.reg rs) + halfInt true (s.reg rm) * halfInt (!x) (s.reg rs))) := by
  refine (conditional_passed h.2 _).trans ?_
  rw [outcome_dual (anyPc_three hrd hrs hrm) hrs hrm, outcome_finishAccumulate h.1, dualProducts_eq]

theorem exec_smusd (x : Bool) :
    exec (.smusd c rd rs x rm) s = .next (afterNarrow s rd
      (halfInt false (s.reg rm) * halfInt x (s.reg rs) - halfInt true (s.reg rm) * halfInt (!x) (s.reg rs))) := by
  refine (conditional_passed h.2 _).trans ?_
  rw [outcome_dual (anyPc_three hrd hrs hrm) hrs hrm, outcome_finishWord_afterNarrow h.1, dualProducts_eq]

theorem exec_smmul (b : Bool) :
    exec (.smmul c rd rs b rm) s = .next (afterNarrow s rd
      (((s.reg rm).toInt * (s.reg rs).toInt + if b then 2 ^ 31 else 0) / 2 ^ 32)) := by
  refine (conditional_passed h.2 _).trans ?_
  rw [outcome_readTwo (anyPc_three hrd hrs hrm) hrs hrm, highWord_eq]
  exact outcome_finishWord_afterNarrow h.1 rd _

variable (hrn : rn ≠ 15)

include hrn

theorem exec_mla (sBit : Bool) :
    exec (.mla c sBit rd rn rs rm) s = .next (afterWord s sBit rd (s.reg rm * s.reg rs + s.reg rn)) := by
  refine (conditional_passed h.2 _).trans ?_
  rw [outcome_readThree (anyPc_four hrd hrn hrs hrm) hrn hrs hrm, outcome_finishWord_afterWord h.1]
  simp only [wordOf, BitVec.ofInt_add, BitVec.ofInt_mul, ofInt_toNat, BitVec.setWidth_eq]

theorem exec_smlaxy (y x : Bool) :
    exec (.smlaxy c rd rn rs y x rm) s =
      .next (afterAccumulate s rd (halfInt x (s.reg rm) * halfInt y (s.reg rs) + (s.reg rn).toInt)) := by
  refine (conditional_passed h.2 _).trans ?_
  rw [outcome_readThree (anyPc_four hrd hrn hrs hrm) hrn hrs hrm, outcome_finishAccumulate h.1]

theorem exec_smlawy (y : Bool) :
    exec (.smlawy c rd rn rs y rm) s =
      .next (afterAccumulate s rd ((s.reg rm).toInt * halfInt y (s.reg rs) / 2 ^ 16 + (s.reg rn).toInt)) := by
  refine (conditional_passed h.2 _).trans ?_
  rw [outcome_readThree (anyPc_four hrd hrn hrs hrm) hrn hrs hrm, outcome_finishAccumulate h.1, wideProduct_toInt]

theorem exec_smlad (x : Bool) :
    exec (.smlad c rd rn rs x rm) s = .next (afterAccumulate s rd
      (halfInt false (s.reg rm) * halfInt x (s.reg rs) + halfInt true (s.reg rm) * halfInt (!x) (s.reg rs) +
        (s.reg rn).toInt)) := by
  refine (conditional_passed h.2 _).trans ?_
  rw [outcome_dualAccumulate (anyPc_four hrd hrn hrs hrm) hrn hrs hrm, outcome_finishAccumulate h.1, dualProducts_eq]

theorem exec_smlsd (x : Bool) :
    exec (.smlsd c rd rn rs x rm) s = .next (afterAccumulate s rd
      (halfInt false (s.reg rm) * halfInt x (s.reg rs) - halfInt true (s.reg rm) * halfInt (!x) (s.reg rs) +
        (s.reg rn).toInt)) := by
  refine (conditional_passed h.2 _).trans ?_
  rw [outcome_dualAccumulate (anyPc_four hrd hrn hrs hrm) hrn hrs hrm, outcome_finishAccumulate h.1, dualProducts_eq]

theorem exec_smmla (b : Bool) :
    exec (.smmla c rd rn rs b rm) s = .next (afterNarrow s rd
      (((s.reg rn).toInt * 2 ^ 32 + (s.reg rm).toInt * (s.reg rs).toInt + if b then 2 ^ 31 else 0) / 2 ^ 32)) := by
  refine (conditional_passed h.2 _).trans ?_
  rw [outcome_readThree (anyPc_four hrd hrn hrs hrm) hrn hrs hrm, highWord_eq]
  exact outcome_finishWord_afterNarrow h.1 rd _

theorem exec_smmls (b : Bool) :
    exec (.smmls c rd rn rs b rm) s = .next (afterNarrow s rd
      (((s.reg rn).toInt * 2 ^ 32 - (s.reg rm).toInt * (s.reg rs).toInt + if b then 2 ^ 31 else 0) / 2 ^ 32)) := by
  refine (conditional_passed h.2 _).trans ?_
  rw [outcome_readThree (anyPc_four hrd hrn hrs hrm) hrn hrs hrm, highWord_eq]
  exact outcome_finishWord_afterNarrow h.1 rd _

variable (hne : rd ≠ rn)

include hne

theorem exec_umull (sBit : Bool) :
    exec (.umull c sBit rd rn rs rm) s =
      .next (afterLong s sBit rd rn ((s.reg rm).setWidth 64 * (s.reg rs).setWidth 64)) := by
  refine (conditional_passed h.2 _).trans ?_
  rw [outcome_longProduct hrd hrn hrs hrm hne, outcome_finishLong h.1]
  simp only [BitVec.ofInt_mul, ofInt_toNat]

theorem exec_umlal (sBit : Bool) :
    exec (.umlal c sBit rd rn rs rm) s = .next (afterLong s sBit rd rn
      ((s.reg rm).setWidth 64 * (s.reg rs).setWidth 64 + (s.reg rd ++ s.reg rn))) := by
  refine (conditional_passed h.2 _).trans ?_
  rw [outcome_longAccumulate hrd hrn hrs hrm hne, outcome_finishLong h.1]
  simp only [BitVec.ofInt_add, BitVec.ofInt_mul, ofInt_toNat, BitVec.setWidth_eq]

theorem exec_smull (sBit : Bool) :
    exec (.smull c sBit rd rn rs rm) s =
      .next (afterLong s sBit rd rn ((s.reg rm).signExtend 64 * (s.reg rs).signExtend 64)) := by
  refine (conditional_passed h.2 _).trans ?_
  rw [outcome_longProduct hrd hrn hrs hrm hne, outcome_finishLong h.1, BitVec.ofInt_mul]
  rfl

theorem exec_smlal (sBit : Bool) :
    exec (.smlal c sBit rd rn rs rm) s = .next (afterLong s sBit rd rn
      ((s.reg rm).signExtend 64 * (s.reg rs).signExtend 64 + (s.reg rd ++ s.reg rn))) := by
  refine (conditional_passed h.2 _).trans ?_
  rw [outcome_longAccumulate hrd hrn hrs hrm hne, outcome_finishLong h.1, BitVec.ofInt_add, BitVec.ofInt_mul,
    BitVec.ofInt_toInt]
  rfl

theorem exec_umaal :
    exec (.umaal c rd rn rs rm) s = .next (afterLong s false rd rn
      ((s.reg rm).setWidth 64 * (s.reg rs).setWidth 64 + (s.reg rn).setWidth 64 + (s.reg rd).setWidth 64)) := by
  refine (conditional_passed h.2 _).trans ?_
  rw [outcome_longProduct hrd hrn hrs hrm hne, outcome_readReg hrn, outcome_readReg hrd, outcome_finishLong h.1]
  simp only [BitVec.ofInt_add, BitVec.ofInt_mul, ofInt_toNat]

theorem exec_smlalxy (y x : Bool) :
    exec (.smlalxy c rd rn rs y x rm) s = .next (afterLong s false rd rn
      (BitVec.ofInt 64 (halfInt x (s.reg rm) * halfInt y (s.reg rs) + (s.reg rd ++ s.reg rn : DWord).toInt))) := by
  refine (conditional_passed h.2 _).trans ?_
  rw [outcome_longAccumulate hrd hrn hrs hrm hne, outcome_finishLong h.1]

theorem exec_smlald (x : Bool) :
    exec (.smlald c rd rn rs x rm) s = .next (afterLong s false rd rn (BitVec.ofInt 64
      (halfInt false (s.reg rm) * halfInt x (s.reg rs) + halfInt true (s.reg rm) * halfInt (!x) (s.reg rs) +
        (s.reg rd ++ s.reg rn : DWord).toInt))) := by
  refine (conditional_passed h.2 _).trans ?_
  rw [outcome_dualLong hrd hrn hrs hrm hne, outcome_finishLong h.1, dualProducts_eq]

theorem exec_smlsld (x : Bool) :
    exec (.smlsld c rd rn rs x rm) s = .next (afterLong s false rd rn (BitVec.ofInt 64
      (halfInt false (s.reg rm) * halfInt x (s.reg rs) - halfInt true (s.reg rm) * halfInt (!x) (s.reg rs) +
        (s.reg rd ++ s.reg rn : DWord).toInt))) := by
  refine (conditional_passed h.2 _).trans ?_
  rw [outcome_dualLong hrd hrn hrs hrm hne, outcome_finishLong h.1, dualProducts_eq]

end

/-! ### The statements -/

/-- Settles O25: each form writes the word or the double word of its exact product. -/
theorem multipliesWriteTheProduct : Obligations.MultipliesWriteTheProduct := by
  intro s c sBit rd rn rs rm h hrd hrn hrs hrm
  exact ⟨exec_mul h hrd hrs hrm sBit, exec_mla h hrd hrs hrm hrn sBit, fun hne =>
    ⟨exec_umull h hrd hrs hrm hrn hne sBit, exec_umlal h hrd hrs hrm hrn hne sBit, exec_smull h hrd hrs hrm hrn hne sBit,
      exec_smlal h hrd hrs hrm hrn hne sBit, exec_umaal h hrd hrs hrm hrn hne⟩⟩

/-- Settles O27: each form narrows its exact integer, whose halfwords are those of the statement. -/
theorem signedMultipliesNarrowTheExactResult : Obligations.SignedMultipliesNarrowTheExactResult := by
  intro s c rd rn rs rm h hrd hrn hrs hrm half
  have hhalf : half = halfInt := funext fun top => funext fun w => (halfInt_eq top w).symm
  rw [hhalf]
  refine ⟨fun x y => ?halfword, fun x => ?dual, fun b => ?topWord⟩
  case halfword =>
    exact ⟨exec_smulxy h hrd hrs hrm y x, exec_smlaxy h hrd hrs hrm hrn y x, exec_smulwy h hrd hrs hrm y,
      exec_smlawy h hrd hrs hrm hrn y, fun hne => exec_smlalxy h hrd hrs hrm hrn hne y x⟩
  case dual =>
    exact ⟨exec_smuad h hrd hrs hrm x, exec_smlad h hrd hrs hrm hrn x, exec_smusd h hrd hrs hrm x,
      exec_smlsd h hrd hrs hrm hrn x, fun hne =>
        ⟨exec_smlald h hrd hrs hrm hrn hne x, exec_smlsld h hrd hrs hrm hrn hne x⟩⟩
  case topWord =>
    exact ⟨exec_smmul h hrd hrs hrm b, exec_smmla h hrd hrs hrm hrn b, exec_smmls h hrd hrs hrm hrn b⟩

end Sys2Proof.Multiplies

/-!
The saturating instructions: holding an integer to a range is clamping it, and the statement about them
(41_multiply_dsp.md R1020 to R1023, 42_media_simd.md R1180 to R1183).
-/
namespace Sys2Proof.Saturation

open Sys2Proof Sys2Proof.Machine Sys2Proof.DataProcessing Sys2Proof.ByteInstructions Sys2Proof.Multiplies

/-! ### Clamping -/

/-- Clamping to a range that is not empty answers the bound an integer passes, and otherwise the integer. -/
theorem clamp_eq {lo hi : Int} (hr : lo ≤ hi) (i : Int) :
    (if i > hi then (hi, true) else if i < lo then (lo, true) else (i, false)) =
      (max lo (min hi i), max lo (min hi i) != i) := by
  by_cases hhi : i > hi
  · rw [if_pos hhi, Int.min_eq_left (Int.le_of_lt hhi), Int.max_eq_right hr, bne_iff_ne.2 (Int.ne_of_lt hhi)]
  · rw [if_neg hhi, Int.min_eq_right (Int.not_lt.1 hhi)]
    by_cases hlo : i < lo
    · rw [if_pos hlo, Int.max_eq_left (Int.le_of_lt hlo), bne_iff_ne.2 (Int.ne_of_gt hlo)]
    · rw [if_neg hlo, Int.max_eq_right (Int.not_lt.1 hlo), bne_self_eq_false]

theorem signedSat_eq (i : Int) (n : Nat) : signedSat i n = (clampSigned n i, clampSigned n i != i) := by
  have hpow : (0 : Int) < 2 ^ (n - 1) := Int.pow_pos (by decide)
  exact clamp_eq (by omega) i

theorem unsignedSat_eq (i : Int) (n : Nat) : unsignedSat i n = (clampUnsigned n i, clampUnsigned n i != i) := by
  have hpow : (0 : Int) < 2 ^ n := Int.pow_pos (by decide)
  exact clamp_eq (by omega) i

/-- The operand of SSAT and USAT: an arithmetic shift right divides and rounds down, and its amount 0 means 32. -/
theorem saturateOperand_toInt (imm5 : BitVec 5) (asr : Bool) (m : Word) :
    (saturateOperand imm5 asr m).toInt =
      if asr then m.toInt / 2 ^ (if imm5 = 0 then 32 else imm5.toNat) else (m <<< imm5.toNat).toInt := by
  cases asr with
  | false => rfl
  | true =>
    show (m.sshiftRight _).toInt = m.toInt / _
    rw [BitVec.toInt_sshiftRight, Int.shiftRight_eq_div_pow, Int.natCast_pow, Int.cast_ofNat_Int]

/-! ### The instructions -/

/-- The state after a saturating instruction: a word, and Q where `q`. -/
def afterSaturate (s : State) (rd : BitVec 4) (w : Word) (q : Bool) : State :=
  ((s.setReg rd w).orQ q).goto s.nextInsn

/-- The second operand of a saturating addition or subtraction, doubled and clamped where `doubled`, and whether it was held. -/
def secondOperand (doubled : Bool) (n : Int) : Int × Bool :=
  if doubled then (clampSigned 32 (2 * n), clampSigned 32 (2 * n) != 2 * n) else (n, false)

section

variable {s : State} {c : Cond} {rn rd rm : BitVec 4}

theorem outcome_saturating (hd : s.inDebug = false) (hrn : rn ≠ 15) (hrd : rd ≠ 15) (hrm : rm ≠ 15)
    (f : Int → Int → Int) (doubled : Bool) :
    (saturating f doubled rn rd 0 rm).outcome s =
      let d := secondOperand doubled (s.reg rn).toInt
      let e := f (s.reg rm).toInt d.1
      .next (afterSaturate s rd (BitVec.ofInt 32 (clampSigned 32 e)) (d.2 || clampSigned 32 e != e)) := by
  unfold saturating
  rw [outcome_shouldBe (by rfl), outcome_unpredictableIf (anyPc_three hrn hrd hrm), outcome_readReg hrm,
    outcome_readReg hrn]
  simp only [signedSat_eq]
  exact outcome_writeReg_setQIf_advance hd rd _ _

/-- The frame of SSAT and USAT, where `sat` holds the operand to a range. -/
theorem outcome_saturateWord (hd : s.inDebug = false) (hrd : rd ≠ 15) (hrm : rm ≠ 15) (sat : Word → Int × Bool) :
    (unpredictableIf (anyPc [rd, rm]) >>= fun _ => readReg rm >>= fun m => writeReg rd (wordOf (sat m).1) >>= fun _ =>
      setQIf (sat m).2 >>= fun _ => advance).outcome s =
      .next (afterSaturate s rd (BitVec.ofInt 32 (sat (s.reg rm)).1) (sat (s.reg rm)).2) := by
  rw [outcome_unpredictableIf (anyPc_cons hrd (anyPc_cons hrm anyPc_nil)), outcome_readReg hrm]
  exact outcome_writeReg_setQIf_advance hd rd _ _

/-- The frame of SSAT16 and USAT16, where `sat` holds each halfword to a range. -/
theorem outcome_saturateHalves (hd : s.inDebug = false) (hrd : rd ≠ 15) (hrm : rm ≠ 15) (sat : Int → Int × Bool) :
    (shouldBe ((15 : BitVec 4) == 15) >>= fun _ => unpredictableIf (anyPc [rd, rm]) >>= fun _ => readReg rm >>= fun m =>
      writeReg rd (ofHalves (BitVec.ofInt 16 (sat (highHalf m).toInt).1) (BitVec.ofInt 16 (sat (lowHalf m).toInt).1)) >>=
      fun _ => setQIf ((sat (lowHalf m).toInt).2 || (sat (highHalf m).toInt).2) >>= fun _ => advance).outcome s =
      let lo := sat (lowHalf (s.reg rm)).toInt
      let hi := sat (highHalf (s.reg rm)).toInt
      .next (afterSaturate s rd (BitVec.ofInt 16 hi.1 ++ BitVec.ofInt 16 lo.1) (lo.2 || hi.2)) := by
  rw [outcome_shouldBe (by rfl), outcome_unpredictableIf (anyPc_cons hrd (anyPc_cons hrm anyPc_nil)),
    outcome_readReg hrm]
  exact outcome_writeReg_setQIf_advance hd rd _ _

theorem exec_ssat (h : s.Passes c) (hrd : rd ≠ 15) (hrm : rm ≠ 15) (sat imm5 : BitVec 5) (asr : Bool) :
    exec (.ssat c sat rd imm5 asr rm) s =
      let e := (saturateOperand imm5 asr (s.reg rm)).toInt
      let v := clampSigned (sat.toNat + 1) e
      .next (afterSaturate s rd (BitVec.ofInt 32 v) (v != e)) := by
  refine (conditional_passed h.2 _).trans ?_
  rw [outcome_saturateWord h.1 hrd hrm fun m => signedSat (saturateOperand imm5 asr m).toInt (sat.toNat + 1),
    signedSat_eq]

theorem exec_usat (h : s.Passes c) (hrd : rd ≠ 15) (hrm : rm ≠ 15) (sat imm5 : BitVec 5) (asr : Bool) :
    exec (.usat c sat rd imm5 asr rm) s =
      let e := (saturateOperand imm5 asr (s.reg rm)).toInt
      let v := clampUnsigned sat.toNat e
      .next (afterSaturate s rd (BitVec.ofInt 32 v) (v != e)) := by
  refine (conditional_passed h.2 _).trans ?_
  rw [outcome_saturateWord h.1 hrd hrm fun m => unsignedSat (saturateOperand imm5 asr m).toInt sat.toNat,
    unsignedSat_eq]

theorem exec_ssat16 (h : s.Passes c) (hrd : rd ≠ 15) (hrm : rm ≠ 15) (sat : BitVec 4) :
    exec (.ssat16 c sat rd 15 rm) s =
      let lo := (lowHalf (s.reg rm)).toInt
      let hi := (highHalf (s.reg rm)).toInt
      let l := clampSigned (sat.toNat + 1) lo
      let k := clampSigned (sat.toNat + 1) hi
      .next (afterSaturate s rd (BitVec.ofInt 16 k ++ BitVec.ofInt 16 l) (l != lo || k != hi)) := by
  refine (conditional_passed h.2 _).trans ?_
  rw [outcome_saturateHalves h.1 hrd hrm fun e => signedSat e (sat.toNat + 1), signedSat_eq, signedSat_eq]

theorem exec_usat16 (h : s.Passes c) (hrd : rd ≠ 15) (hrm : rm ≠ 15) (sat : BitVec 4) :
    exec (.usat16 c sat rd 15 rm) s =
      let lo := (lowHalf (s.reg rm)).toInt
      let hi := (highHalf (s.reg rm)).toInt
      let l := clampUnsigned sat.toNat lo
      let k := clampUnsigned sat.toNat hi
      .next (afterSaturate s rd (BitVec.ofInt 16 k ++ BitVec.ofInt 16 l) (l != lo || k != hi)) := by
  refine (conditional_passed h.2 _).trans ?_
  rw [outcome_saturateHalves h.1 hrd hrm fun e => unsignedSat e sat.toNat, unsignedSat_eq, unsignedSat_eq]

end

/-! ### The statement -/

/-- Settles O26: the additions and subtractions clamp their exact result, and the others their operand or its halves. -/
theorem saturationHoldsTheResultAndSetsQ : Obligations.SaturationHoldsTheResultAndSetsQ := by
  intro s c rn rd rm h hrn hrd hrm m n twice goesTo lo hi shifted
  have hshifted (imm5 : BitVec 5) (asr : Bool) : shifted imm5 asr = (saturateOperand imm5 asr (s.reg rm)).toInt :=
    (saturateOperand_toInt imm5 asr (s.reg rm)).symm
  refine ⟨?qadd, ?qsub, ?qdadd, ?qdsub, fun sat imm5 asr => ?words,
    fun sat => ⟨exec_ssat16 h hrd hrm sat, exec_usat16 h hrd hrm sat⟩⟩
  case qadd => exact (conditional_passed h.2 _).trans (outcome_saturating h.1 hrn hrd hrm (· + ·) false)
  case qsub => exact (conditional_passed h.2 _).trans (outcome_saturating h.1 hrn hrd hrm (· - ·) false)
  case qdadd => exact (conditional_passed h.2 _).trans (outcome_saturating h.1 hrn hrd hrm (· + ·) true)
  case qdsub => exact (conditional_passed h.2 _).trans (outcome_saturating h.1 hrn hrd hrm (· - ·) true)
  case words =>
    rw [hshifted]
    exact ⟨exec_ssat h hrd hrm sat imm5 asr, exec_usat h hrd hrm sat imm5 asr⟩

end Sys2Proof.Saturation

/-!
The parallel additions and subtractions: a result is packed from its lanes, a lane is the exact result of the statement, and
the statement about the 36 instructions (42_media_simd.md R1102, R1103, R1110 to R1145).
-/
namespace Sys2Proof.ParallelLanes

open Sys2Proof Sys2Proof.Machine Sys2Proof.DataProcessing Sys2Proof.ByteInstructions Sys2Proof.Multiplies
  Sys2Proof.Saturation

/-! ### One lane -/

theorem laneRead_eq {w : Nat} (p : ParPrefix) (x : BitVec w) :
    laneRead p x = if p.signed then x.toInt else x.toNat := by
  cases p <;> rfl

/-- The exact result of a lane, from its two operands. -/
def exactOf {w : Nat} (p : ParPrefix) (sub : Bool) (a b : BitVec w) : Int :=
  if sub then laneRead p a - laneRead p b else laneRead p a + laneRead p b

theorem lane_value {w : Nat} (p : ParPrefix) (sub : Bool) (a b : BitVec w) :
    (lane p sub a b).1 = laneValue p w (exactOf p sub a b) := by
  unfold lane exactOf
  simp only [laneRead_eq, signedSat_eq, unsignedSat_eq]
  cases p <;> rfl

/-- The S and U forms, which write GE, set it by R1103; the others compute a bit that nothing reads. -/
theorem lane_ge {w : Nat} {p : ParPrefix} (hp : p = .s ∨ p = .u) (sub : Bool) (a b : BitVec w) :
    (lane p sub a b).2 = laneGe p sub w (exactOf p sub a b) := by
  unfold lane exactOf
  simp only [laneRead_eq]
  obtain rfl | rfl := hp <;> cases sub <;> rfl

/-! ### Packing the lanes -/

/-- Lane `k` of a result and its GE bits, one for each byte of the lane. -/
def HasLane (w k : Nat) (r : Word × BitVec 4) (l : BitVec w × Bool) : Prop :=
  r.1.extractLsb' (w * k) w = l.1 ∧ ∀ j < w / 8, r.2.getLsbD (w / 8 * k + j) = l.2

/-- The four GE bits, one for each byte. -/
def fourBits (f : Nat → Bool) : BitVec 4 :=
  BitVec.ofBool (f 3) ++ BitVec.ofBool (f 2) ++ BitVec.ofBool (f 1) ++ BitVec.ofBool (f 0)

theorem getLsbD_fourBits (f : Nat → Bool) {i : Nat} (hi : i < 4) : (fourBits f).getLsbD i = f i := by
  simp only [fourBits, BitVec.getLsbD_append, BitVec.getLsbD_ofBool]
  match i, hi with
  | 0, _ | 1, _ | 2, _ | 3, _ => rfl

/-- Two halfword lanes: each has two GE bits. -/
def packHalves (l : Nat → Half × Bool) : Word × BitVec 4 :=
  (ofHalves (l 1).1 (l 0).1, fourBits fun i => (l (i / 2)).2)

/-- Four byte lanes. -/
def packBytes (l : Nat → Byte × Bool) : Word × BitVec 4 :=
  (ofBytes (l 3).1 (l 2).1 (l 1).1 (l 0).1, fourBits fun i => (l i).2)

theorem packHalves_hasLane (l : Nat → Half × Bool) {k : Nat} (hk : k < 2) : HasLane 16 k (packHalves l) (l k) := by
  refine ⟨?value, fun j hj => ?ge⟩
  case value =>
    unfold packHalves ofHalves
    obtain rfl | rfl : k = 0 ∨ k = 1 := by omega
    · exact BitVec.extractLsb'_append_eq_right
    · exact BitVec.extractLsb'_append_eq_left
  case ge =>
    have hlane : (16 / 8 * k + j) / 2 = k := by omega
    unfold packHalves
    rw [getLsbD_fourBits _ (by omega), hlane]

theorem packBytes_hasLane (l : Nat → Byte × Bool) {k : Nat} (hk : k < 4) : HasLane 8 k (packBytes l) (l k) := by
  refine ⟨?value, fun j hj => ?ge⟩
  case value =>
    unfold packBytes ofBytes
    obtain rfl | rfl | rfl | rfl : k = 0 ∨ k = 1 ∨ k = 2 ∨ k = 3 := by omega
    · exact BitVec.extractLsb'_append_eq_right
    all_goals rw [BitVec.extractLsb'_append_eq_of_le (by decide)]
    · exact BitVec.extractLsb'_append_eq_right
    all_goals rw [BitVec.extractLsb'_append_eq_of_le (by decide)]
    · exact BitVec.extractLsb'_append_eq_right
    · exact BitVec.extractLsb'_append_eq_left
  case ge =>
    have hbit : 8 / 8 * k + j = k := by omega
    unfold packBytes
    rw [hbit, getLsbD_fourBits _ hk]

/-! ### The lanes of an operation -/

/-- Lane `k` of an operation, on the lane of the second operand that meets it. -/
def laneOf (p : ParPrefix) (op : ParOp) (n m : Word) (k : Nat) : BitVec op.width × Bool :=
  lane p (op.subtracts k) (n.extractLsb' (op.width * k) op.width) (m.extractLsb' (op.width * op.partner k) op.width)

theorem parallelResult_hasLane (p : ParPrefix) (op : ParOp) (n m : Word) {k : Nat} (hk : op.width * k < 32) :
    HasLane op.width k (parallelResult p op n m) (laneOf p op n m k) := by
  have hbyte (h8 : 8 * k < 32) (l : Nat → Byte × Bool) := packBytes_hasLane l (k := k) (by omega)
  have hhalf (h16 : 16 * k < 32) (l : Nat → Half × Bool) := packHalves_hasLane l (k := k) (by omega)
  cases op with
  | add8 => exact hbyte hk (laneOf p .add8 n m)
  | sub8 => exact hbyte hk (laneOf p .sub8 n m)
  | add16 => exact hhalf hk (laneOf p .add16 n m)
  | sub16 => exact hhalf hk (laneOf p .sub16 n m)
  | addsubx => exact hhalf hk (laneOf p .addsubx n m)
  | subaddx => exact hhalf hk (laneOf p .subaddx n m)

/-- The GE bit of lane `k` by R1103, also in the forms that do not write it. -/
def geOf (p : ParPrefix) (op : ParOp) (n m : Word) (k : Nat) : Bool :=
  laneGe p (op.subtracts k) op.width (laneExact p (op.subtracts k) op.width n m k (op.partner k))

/-- The GE bits by R1103: bit `i` is that of the lane with byte `i`. -/
def geBits (p : ParPrefix) (op : ParOp) (n m : Word) : BitVec 4 := fourBits fun i => geOf p op n m (i / (op.width / 8))

theorem width_div_eight_pos (op : ParOp) : 0 < op.width / 8 := by
  cases op <;> decide

/-- The GE bits of a lane inside the word are among the four. -/
theorem geIndex_lt {op : ParOp} {k j : Nat} (hk : op.width * k < 32) (hj : j < op.width / 8) :
    op.width / 8 * k + j < 4 := by
  cases op <;> simp only [ParOp.width] at hk hj ⊢ <;> omega

theorem getLsbD_geBits (p : ParPrefix) (op : ParOp) (n m : Word) {k j : Nat} (hk : op.width * k < 32)
    (hj : j < op.width / 8) : (geBits p op n m).getLsbD (op.width / 8 * k + j) = geOf p op n m k := by
  have hlane : (op.width / 8 * k + j) / (op.width / 8) = k := by
    rw [Nat.mul_add_div (width_div_eight_pos op), Nat.div_eq_of_lt hj, Nat.add_zero]
  rw [geBits, getLsbD_fourBits _ (geIndex_lt hk hj), hlane]

/-- The forms that write GE write the bits of R1103. -/
theorem parallelResult_ge {p : ParPrefix} (hp : p = .s ∨ p = .u) (op : ParOp) (n m : Word) :
    (parallelResult p op n m).2 = geBits p op n m := by
  refine BitVec.eq_of_getLsbD_eq fun i hi => ?_
  have hin : op.width * (i / (op.width / 8)) < 32 := by
    cases op <;> simp only [ParOp.width] <;> omega
  have hbyte : i % (op.width / 8) < op.width / 8 := Nat.mod_lt _ (width_div_eight_pos op)
  obtain ⟨-, hge⟩ := parallelResult_hasLane p op n m hin
  calc (parallelResult p op n m).2.getLsbD i
      = (laneOf p op n m (i / (op.width / 8))).2 := by rw [← hge _ hbyte, Nat.div_add_mod]
    _ = geOf p op n m (i / (op.width / 8)) := lane_ge hp _ _ _
    _ = (geBits p op n m).getLsbD i := by rw [geBits, getLsbD_fourBits _ hi]

/-! ### The instructions -/

theorem writesGe_eq_true {p : ParPrefix} : p.writesGe = true ↔ p = .s ∨ p = .u := by
  cases p <;> decide

/-- The state after a parallel instruction: the word, and the GE bits in the S and U forms. -/
def afterParallel (s : State) (p : ParPrefix) (rd : BitVec 4) (r : Word) (g : BitVec 4) : State :=
  (if p = .s ∨ p = .u then (s.setReg rd r).setGe g else s.setReg rd r).goto s.nextInsn

section

variable {s : State} {c : Cond} {rn rd rm : BitVec 4}

theorem outcome_parallel (hd : s.inDebug = false) (hrn : rn ≠ 15) (hrd : rd ≠ 15) (hrm : rm ≠ 15) (p : ParPrefix)
    (op : ParOp) :
    (parallel p op rn rd 15 rm).outcome s =
      .next (afterParallel s p rd (parallelResult p op (s.reg rn) (s.reg rm)).1 (geBits p op (s.reg rn) (s.reg rm))) := by
  unfold parallel
  rw [outcome_shouldBe (by rfl), outcome_unpredictableIf (anyPc_three hrn hrd hrm), outcome_readReg hrn,
    outcome_readReg hrm, outcome_bind_ok (run_writeReg rd _ s)]
  by_cases hp : p = .s ∨ p = .u
  · rw [if_pos (writesGe_eq_true.2 hp), afterParallel, if_pos hp, parallelResult_ge hp]
    exact (outcome_bind_ok (run_modify _ _) _).trans (outcome_advance hd (State.setGe_nextInsn _ _))
  · rw [if_neg (mt writesGe_eq_true.1 hp), afterParallel, if_neg hp]
    exact outcome_advance hd rfl

theorem exec_parallelInstr (h : s.Passes c) (p : ParPrefix) (op : ParOp) :
    exec (parallelInstr p op c rn rd rm) s = (parallel p op rn rd 15 rm).outcome s := by
  cases p <;> cases op <;> exact conditional_passed h.2 _

end

/-! ### The statement -/

/-- Settles O28: the GE bits are those of R1103, and each lane of the result is that of its exact integer. -/
theorem parallelInstructionsWorkLaneByLane : Obligations.ParallelInstructionsWorkLaneByLane := by
  intro s p op c rn rd rm h hrn hrd hrm
  refine ⟨(parallelResult p op (s.reg rn) (s.reg rm)).1, geBits p op (s.reg rn) (s.reg rm),
    (exec_parallelInstr h p op).trans (outcome_parallel h.1 hrn hrd hrm p op), fun k hk => ?lanes⟩
  obtain ⟨hvalue, -⟩ := parallelResult_hasLane p op (s.reg rn) (s.reg rm) hk
  exact ⟨hvalue.trans (lane_value p _ _ _), fun j hj => getLsbD_geBits p op _ _ hk hj⟩

end Sys2Proof.ParallelLanes

/-!
The extends: sign and zero extension as integers, and the statement about the twelve instructions
(42_media_simd.md R1160 to R1172).
-/
namespace Sys2Proof.Extends

open Sys2Proof Sys2Proof.Machine Sys2Proof.DataProcessing Sys2Proof.ByteInstructions Sys2Proof.Multiplies

/-! ### The words -/

theorem ofInt_extendedInt {k : Nat} (n : Nat) (signed : Bool) (x : BitVec k) :
    BitVec.ofInt n (extendedInt signed x) = if signed then x.signExtend n else x.setWidth n := by
  cases signed with
  | false => exact ofInt_toNat n x
  | true => exact ofInt_toInt_eq_signExtend n x

theorem apply_eq_extendedWord (e : Extend) (signed : Bool) (r : Word) : e.apply signed r = extendedWord e signed r := by
  unfold extendedWord
  simp only [ofInt_extendedInt]
  cases e <;> rfl

/-- The forms of two bytes add the halves apart, and the others add words. -/
theorem add_eq (e : Extend) (a b : Word) :
    e.add a b = if e = .twoBytes then
      (a.extractLsb' 16 16 + b.extractLsb' 16 16 : Half) ++ (a.extractLsb' 0 16 + b.extractLsb' 0 16 : Half)
      else a + b := by
  cases e <;> rfl

/-! ### The instructions -/

section

variable {s : State} {c : Cond} {rn rd rm : BitVec 4}

theorem outcome_rotatedReg (hrm : rm ≠ 15) (rotate : BitVec 2) (f : Word → M Unit) :
    (rotatedReg rotate rm >>= f).outcome s = (f ((s.reg rm).rotateRight (8 * rotate.toNat))).outcome s := by
  refine outcome_bind_ok ?_ f
  simp only [rotatedReg, run_bind, run_readReg hrm, run_pure]

theorem outcome_extend (hd : s.inDebug = false) (hrd : rd ≠ 15) (hrm : rm ≠ 15) (e : Extend) (signed : Bool)
    (rotate : BitVec 2) :
    (extend e signed rd rotate 0 rm).outcome s =
      .next ((s.setReg rd (e.apply signed ((s.reg rm).rotateRight (8 * rotate.toNat)))).goto s.nextInsn) := by
  unfold extend
  rw [outcome_shouldBe (by rfl), outcome_unpredictableIf (anyPc_cons hrd (anyPc_cons hrm anyPc_nil)),
    outcome_rotatedReg hrm, outcome_finishWord hd]

theorem outcome_extendAdd (hd : s.inDebug = false) (hrn : rn ≠ 15) (hrd : rd ≠ 15) (hrm : rm ≠ 15) (e : Extend)
    (signed : Bool) (rotate : BitVec 2) :
    (extendAdd e signed rn rd rotate 0 rm).outcome s =
      .next ((s.setReg rd
        (e.add (s.reg rn) (e.apply signed ((s.reg rm).rotateRight (8 * rotate.toNat))))).goto s.nextInsn) := by
  unfold extendAdd
  rw [outcome_shouldBe (by rfl), outcome_unpredictableIf (anyPc_three hrn hrd hrm), outcome_rotatedReg hrm,
    outcome_readReg hrn, outcome_finishWord hd]

theorem exec_extendInstr (h : s.Passes c) (e : Extend) (signed : Bool) (rotate : BitVec 2) :
    exec (extendInstr e signed c rd rotate rm) s = (extend e signed rd rotate 0 rm).outcome s := by
  cases e <;> cases signed <;> exact conditional_passed h.2 _

theorem exec_extendAddInstr (h : s.Passes c) (e : Extend) (signed : Bool) (rotate : BitVec 2) :
    exec (extendAddInstr e signed c rn rd rotate rm) s = (extendAdd e signed rn rd rotate 0 rm).outcome s := by
  cases e <;> cases signed <;> exact conditional_passed h.2 _

end

/-! ### The statement -/

/-- Settles O29: the frames write the extended word, alone or added, and the extension and the addition are plain arithmetic. -/
theorem extendsRotateExtendAndAdd : Obligations.ExtendsRotateExtendAndAdd := by
  intro s e signed c rn rd rm rotate h hrn hrd hrm v n sum
  have hv : e.apply signed ((s.reg rm).rotateRight (8 * rotate.toNat)) = v := apply_eq_extendedWord e signed _
  have hsum : e.add n v = sum := add_eq e n v
  refine ⟨?plain, ?withAddition⟩
  case plain => rw [exec_extendInstr h, outcome_extend h.1 hrd hrm, hv]
  case withAddition => rw [exec_extendAddInstr h, outcome_extendAdd h.1 hrn hrd hrm, hv, hsum]

end Sys2Proof.Extends

/-!
The branches: the offset and the interworking address as plain arithmetic, and the statements about the ARM branches and the
loads of the PC (43_branch_status.md R1201 to R1203, R1210 to R1215, 44_loadstore.md R1270).
-/
namespace Sys2Proof.Branches

open Sys2Proof Sys2Proof.Machine Sys2Proof.DataProcessing

/-! ### Addresses -/

/-- The field of a branch counts words. -/
theorem branchOffset_eq (imm24 : BitVec 24) : branchOffset imm24 = BitVec.ofInt 32 (4 * imm24.toInt) := by
  have hwords : imm24.signExtend 32 <<< 2 = imm24.signExtend 32 * 4#32 := BitVec.shiftLeft_eq_mul_twoPow ..
  rw [branchOffset, hwords, BitVec.signExtend, Int.mul_comm, BitVec.ofInt_mul]
  rfl

theorem linkAddress_add_eight (pc : Word) : linkAddress (pc + 8) = pc + 4 := by
  unfold linkAddress
  bv_omega

/-- Clearing a bit 0 that is clear changes nothing. -/
theorem clear_bit0_of_clear {v : Word} (h : v.getLsbD 0 = false) : v &&& 0xFFFFFFFE = v := by
  have hmask : ∀ i < 32, (0xFFFFFFFE : Word).getLsbD i = decide (i ≠ 0) := by decide
  refine BitVec.eq_of_getLsbD_eq fun i hi => ?_
  rw [BitVec.getLsbD_and, hmask i hi]
  by_cases h0 : i = 0
  · simp only [h0, h, Bool.false_and]
  · simp only [h0, ne_eq, not_false_eq_true, decide_true, Bool.and_true]

/-- An address with bits [1:0] = 0b10 is a halfword address for ARM state. -/
theorem low_eq_10_iff (v : Word) : v.extractLsb' 0 2 = 0b10#2 ↔ v.getLsbD 0 = false ∧ v.getLsbD 1 = true := by
  rw [MemoryManagement.extract_type]
  cases v.getLsbD 0 <;> cases v.getLsbD 1 <;> decide

/-- An interworking branch takes its instruction set from bit 0 and its address from the others. -/
theorem interwork_of_low_ne_10 {v : Word} (h : v.extractLsb' 0 2 ≠ 0b10#2) (t : State) :
    t.interwork v = .next ({ t with cpsr := setBit t.cpsr 5 (v.getLsbD 0) }.goto (v &&& 0xFFFFFFFE)) := by
  rw [ne_eq, low_eq_10_iff] at h
  unfold State.interwork
  cases h0 : v.getLsbD 0 with
  | true => rfl
  | false =>
    have h1 : ¬ v.getLsbD 1 = true := fun h1 => h ⟨h0, h1⟩
    rw [if_neg Bool.false_ne_true, if_neg h1, clear_bit0_of_clear h0]

/-- An interworking branch to a halfword address in ARM state stops. -/
theorem interwork_of_low_eq_10 {v : Word} (h : v.extractLsb' 0 2 = 0b10#2) (t : State) :
    t.interwork v = .refused .branchAddress := by
  obtain ⟨h0, h1⟩ := (low_eq_10_iff v).1 h
  rw [State.interwork, h0, h1]
  rfl

/-! ### The ARM branches -/

section

variable {s : State} {c : Cond}

/-- In ARM state R15 reads as the address of the instruction plus 8. -/
theorem outcome_readPc (hd : s.inDebug = false) (ht : s.bitT = false) (f : Word → M Unit) :
    (readPc >>= f).outcome s = (f (s.pc + 8)).outcome s := by
  refine outcome_bind_ok ?_ f
  rw [run_readPc hd, ht]
  rfl

theorem outcome_branchTo (hd : s.inDebug = false) (a : Word) : (branchTo a).outcome s = .next (s.goto a) :=
  (outcome_ok (run_branchTo a s)).trans (congrArg _ (branchTo_running hd a))

theorem exec_b (h : s.Passes c) (ht : s.bitT = false) (imm24 : BitVec 24) :
    exec (.b c imm24) s = .next (s.goto (s.pc + 8 + BitVec.ofInt 32 (4 * imm24.toInt))) := by
  refine (conditionalBranch_passed h.2 _).trans ?_
  rw [outcome_readPc h.1 ht, outcome_branchTo h.1, branchOffset_eq]

theorem exec_bl (h : s.Passes c) (ht : s.bitT = false) (imm24 : BitVec 24) :
    exec (.bl c imm24) s =
      .next ((s.setReg 14 (s.pc + 4)).goto (s.pc + 8 + BitVec.ofInt 32 (4 * imm24.toInt))) := by
  refine (conditionalBranch_passed h.2 _).trans ?_
  rw [outcome_readPc h.1 ht, outcome_bind_ok (run_writeReg 14 _ s), outcome_branchTo (by exact h.1), linkAddress_add_eight,
    branchOffset_eq]

theorem exec_blxLabel (hd : s.inDebug = false) (ht : s.bitT = false) (half : Bool) (imm24 : BitVec 24) :
    exec (.blxLabel half imm24) s =
      .next (((s.setReg 14 (s.pc + 4)).setT true).goto
        (s.pc + 8 + BitVec.ofInt 32 (4 * imm24.toInt) + if half then 2 else 0)) := by
  refine (outcome_readPc hd ht _).trans ?_
  rw [outcome_bind_ok (run_writeReg 14 _ s), outcome_bind_ok (run_modify _ _), outcome_branchTo (by exact hd),
    linkAddress_add_eight, branchOffset_eq]

/-- The should-be-one fields of the register branches are ones. -/
theorem outcome_branchSbo (f : Unit → M Unit) : (branchSbo 15 15 15 >>= f).outcome s = (f ()).outcome s :=
  outcome_shouldBe rfl s f

theorem exec_bx (h : s.Passes c) (rm : BitVec 4) :
    exec (.bx c 15 15 15 rm) s = s.interwork (s.operand rm) := by
  refine (conditionalBranch_passed h.2 _).trans ?_
  rw [outcome_branchSbo, outcome_bind_ok (run_readReg_operand h.1 rm), outcome_bxWritePc h.1]

theorem exec_blxReg (h : s.Passes c) (ht : s.bitT = false) {rm : BitVec 4} (hrm : rm ≠ 15) :
    exec (.blxReg c 15 15 15 rm) s = (s.setReg 14 (s.pc + 4)).interwork (s.reg rm) := by
  refine (conditionalBranch_passed h.2 _).trans ?_
  rw [outcome_branchSbo, outcome_unpredictableIf (beq_eq_false_iff_ne.2 hrm), outcome_readReg hrm, outcome_readPc h.1 ht,
    outcome_bind_ok (run_writeReg 14 _ s), outcome_bxWritePc (by exact h.1), linkAddress_add_eight]

theorem exec_bxj (h : s.Passes c) {rm : BitVec 4} (hrm : rm ≠ 15) :
    exec (.bxj c 15 15 15 rm) s = s.interwork (s.reg rm) := by
  refine (conditionalBranch_passed h.2 _).trans ?_
  rw [outcome_branchSbo, outcome_unpredictableIf (beq_eq_false_iff_ne.2 hrm), outcome_readReg hrm, outcome_bxWritePc h.1]

end

theorem operand_reg (s : State) {n : BitVec 4} (hn : n ≠ 15) : s.operand n = s.reg n := if_neg hn

/-- Settles O31: the offset forms branch to their sum, and the register forms are interworking branches to the register. -/
theorem branchesGoToTheirTarget : Obligations.BranchesGoToTheirTarget := by
  intro s c imm24 half rm h ht target linked into
  refine ⟨exec_b h ht imm24, exec_bl h ht imm24, exec_blxLabel h.1 ht half imm24, fun hlow => ⟨?bx, fun hrm => ?linking⟩,
    fun hlow hrm i hi => ?stops⟩
  case bx => exact (exec_bx h rm).trans (interwork_of_low_ne_10 hlow s)
  case linking =>
    rw [operand_reg s hrm] at hlow
    exact ⟨(exec_blxReg h ht hrm).trans (interwork_of_low_ne_10 hlow linked),
      (exec_bxj h hrm).trans (interwork_of_low_ne_10 hlow s)⟩
  case stops =>
    have hreg := hlow
    rw [operand_reg s hrm] at hreg
    simp only [List.mem_cons, List.not_mem_nil, or_false] at hi
    obtain rfl | rfl | rfl := hi
    · exact (exec_bx h rm).trans (interwork_of_low_eq_10 hlow s)
    · exact (exec_blxReg h ht hrm).trans (interwork_of_low_eq_10 hreg linked)
    · exact (exec_bxj h hrm).trans (interwork_of_low_eq_10 hreg s)

/-! ### Loads of the PC -/

/-- Both forms of LDR to R15 are the load of the PC. -/
theorem exec_ldr_pc {s : State} {c : Cond} (hc : s.condPassed c = true) {x : Index} {rn : BitVec 4} {f : OffsetForm} {i : Instr}
    (h : LoadOp.instr .ldr c x rn 15 f = some i) : exec i s = (loadToPc x rn f.offset).outcome s := by
  cases f with
  | imm12 | shifted =>
    obtain rfl := Option.some.inj h
    exact conditional_passed hc _
  | imm8 | reg => cases h

section

variable {s : State} {x : Index} {rn : BitVec 4} {o : Offset}

/-- A load of the PC that is not Unpredictable loads the word at its address, then writes the base and the PC. -/
theorem outcome_loadToPc (hd : s.inDebug = false) (hb : badTransfer x rn 15 o = false) :
    (loadToPc x rn o).outcome s = (loadPcWord (s.address x rn o) >>= fun w =>
      writeBack rn { addr := s.address x rn o, wb := if x.p && !x.w then none else some (s.moved x rn o) } >>= fun _ =>
        loadWritePc w).outcome s := by
  unfold loadToPc
  rw [outcome_unpredictableIf ((unpredictable_badTransfer x rn 15 o).trans hb), outcome_bind_ok (run_addressMode hd x rn o)]

/-- The word that is loaded is where the core goes on, after the write of the base. -/
theorem outcome_loadToPc_loaded (hd : s.inDebug = false) (hb : badTransfer x rn 15 o = false) {w : Word}
    (h : (loadPcWord (s.address x rn o)).run s = .ok w s) :
    (loadToPc x rn o).outcome s = (s.withBase x rn (s.moved x rn o)).loadedPc w := by
  rw [outcome_loadToPc hd hb, outcome_bind_ok h, outcome_bind_ok (run_writeBack s x rn _ _),
    outcome_loadWritePc ((State.withBase_inDebug ..).trans hd)]

end

/-- Settles O35: the word loaded goes to the PC, or the access ends in the Alignment fault before the base is written. -/
theorem loadingThePcBranches : Obligations.LoadingThePcBranches := by
  intro s c x rn f i w hi h hb va
  rw [exec_ldr_pc h.2 hi]
  refine ⟨fun hu hw => ?loaded, fun hf he => ?fault⟩
  case loaded => exact outcome_loadToPc_loaded h.1 hb (run_loadPcWord hu hw)
  case fault =>
    rw [outcome_loadToPc h.1 hb]
    exact SystemControl.outcome_then_taken (run_loadPcWord_unaligned h.1 he hf) _

end Sys2Proof.Branches

/-!
The loads and stores of one register and of two, the preload and the hints (44_loadstore.md R1260 to R1265, R1271 to R1278,
R1290 to R1300, 46_coproc_system.md R1420).
-/
namespace Sys2Proof.SingleTransfers

open Sys2Proof Sys2Proof.Machine Sys2Proof.DataProcessing Sys2Proof.AbortedTransfers Sys2Proof.SystemControl

/-- Settles O17: an instruction that stores no data leaves every store, whether it completes or ends in an exception. -/
theorem onlyStoresWriteMemory : Obligations.OnlyStoresWriteMemory :=
  fun _ s t hi h => StoresFrame.stores_eq_iff.1 (StoresFrame.exec_leavesStores hi s t h)

/-! ### One register -/

section

variable {s u : State} {x : Index} {rn rd : BitVec 4} {o : Offset} {ty : AccessType} {n : Nat} {user : Bool} {v w : Word}

/-- The write of the last register ends with the next instruction, at a state that keeps the PC and the instruction set. -/
theorem outcome_lastReg (hd : u.inDebug = false) (hn : u.nextInsn = s.nextInsn) (rd : BitVec 4) (w : Word) :
    (writeReg rd w >>= fun _ => advance).outcome u = .next ((u.setReg rd w).goto s.nextInsn) := by
  rw [outcome_writeReg_advance hd, hn]

/-- The end of a store: the base is written back to the state the store left. -/
theorem outcome_writeBack_advance (hd : s.inDebug = false) (hu : s.SameBut u) (a b : Word) :
    (writeBack rn { addr := a, wb := if x.p && !x.w then none else some b } >>= fun _ => advance).outcome u =
      .next ((u.withBase x rn b).goto s.nextInsn) := by
  rw [outcome_bind_ok (run_writeBack u x rn a b)]
  exact outcome_advance ((State.withBase_inDebug ..).trans (hu.inDebug.trans hd))
    ((State.withBase_nextInsn ..).trans hu.nextInsn)

/-- A load of one register writes the base, then the register. -/
theorem outcome_loadRegister (hd : s.inDebug = false) (hb : badTransfer x rn rd o = false) (hrd : rd ≠ 15)
    (hn : n ≤ ty.unit) (h : s.Holds ty n (s.privileged && !user) (s.address x rn o) w) (ext : Word → Word) :
    (loadRegister ty n user ext x rn rd o).outcome s =
      .next (((s.withBase x rn (s.moved x rn o)).setReg rd (ext w)).goto s.nextInsn) := by
  unfold loadRegister
  rw [outcome_bind_ok (run_transferCheck hb hrd s), outcome_bind_ok (run_addressMode hd x rn o),
    outcome_bind_ok (run_loadItem hn h _), outcome_bind_ok (run_writeBack s x rn _ _)]
  exact outcome_lastReg ((State.withBase_inDebug ..).trans hd) (State.withBase_nextInsn ..) rd _

/-- A store of one register stores it, then writes the base. -/
theorem outcome_storeRegister (hd : s.inDebug = false) (hb : badTransfer x rn rd o = false) (hrd : rd ≠ 15)
    (hn : n ≤ ty.unit) (h : s.StoredAs ty n (s.privileged && !user) (s.address x rn o) (s.storeValue rd) u) :
    (storeRegister ty n user x rn rd o).outcome s = .next ((u.withBase x rn (s.moved x rn o)).goto s.nextInsn) := by
  have hv : s.storeValue rd = s.reg rd := if_neg hrd
  have hu := h.sameBut
  rw [hv] at h
  unfold storeRegister
  rw [outcome_bind_ok (run_transferCheck hb hrd s), outcome_bind_ok (run_addressMode hd x rn o), outcome_readReg hrd,
    outcome_bind_ok (run_storeItem hn h), outcome_writeBack_advance hd hu]

/-- STR stores the value of its register, R15 included. -/
theorem outcome_storeWord (hd : s.inDebug = false) (hb : badTransfer x rn rd o = false)
    (h : s.StoredAs .wordStore 4 (s.privileged && !false) (s.address x rn o) (s.storeValue rd) u) :
    (storeWord x rn rd o).outcome s = .next ((u.withBase x rn (s.moved x rn o)).goto s.nextInsn) := by
  have hu := h.sameBut
  unfold storeWord
  rw [outcome_unpredictableIf ((unpredictable_badTransfer x rn rd o).trans hb), outcome_bind_ok (run_addressMode hd x rn o),
    outcome_bind_ok (run_storedReg hd rd), outcome_bind_ok (run_storeItem (n := 4) (by decide) h), outcome_writeBack_advance hd hu]

/-- Both forms of STR are the store of a word. -/
theorem exec_str {c : Cond} {f : OffsetForm} {i : Instr} (h : StoreOp.instr .str c x rn rd f = some i)
    (hc : s.condPassed c = true) : exec i s = (storeWord x rn rd f.offset).outcome s := by
  cases f with
  | imm12 | shifted =>
    obtain rfl := Option.some.inj h
    exact conditional_passed hc _
  | imm8 | reg => cases h

end

/-- Settles O34: every form is the load of one register. -/
theorem loadsWriteTheItemAndTheBase : Obligations.LoadsWriteTheItemAndTheBase := by
  intro s op c x rn rd f i w hi hc hb hrd h
  rw [exec_load hi hc hrd]
  exact outcome_loadRegister hc.1 hb hrd (loadOp_bytes_le op) h op.extend

/-- Settles O36: every form is the store of one register, which only for STR may be R15. -/
theorem storesWriteTheItemAndTheBase : Obligations.StoresWriteTheItemAndTheBase := by
  intro s u op c x rn rd f i hi hc hb h15 h
  by_cases hrd : rd = 15
  · obtain rfl := h15 hrd
    rw [exec_str hi hc.2]
    exact outcome_storeWord hc.1 hb h
  · rw [exec_store hi hc hrd]
    exact outcome_storeRegister hc.1 hb hrd (storeOp_bytes_le op) h

/-! ### Two registers -/

section

variable {s u : State} {x : Index} {rn rd : BitVec 4} {o : Offset} {w0 w1 : Word}

/-- An even register number has a successor that is not R15. -/
theorem even_ne_15 (h : rd.getLsbD 0 = false) : rd ≠ 15 := fun h15 => by rw [h15] at h; cases h

/-- Every form of LDRD and STRD is the transfer of two registers. -/
theorem exec_double {load : Bool} {c : Cond} {f : OffsetForm} {i : Instr} (h : doubleInstr load c x rn rd f = some i)
    (hc : s.condPassed c = true) :
    exec i s = (if load then loadDouble x rn rd 0 f.offset else storeDouble x rn rd 0 f.offset).outcome s := by
  unfold doubleInstr at h
  split at h
  case h_1 | h_2 | h_3 | h_4 =>
    obtain rfl := Option.some.inj h
    exact conditional_passed hc _
  case h_5 => cases h

/-- An odd register is Undefined. -/
theorem run_doubleRestrictions_odd (hd : s.inDebug = false) (h : rd.getLsbD 0 = true) :
    (doubleRestrictions x rn rd 0 o).run s = .error .taken s.undefinedEntry := by
  simp only [doubleRestrictions, run_bind, run_undefinedIf hd, h, if_true]

/-- The combinations that are not Unpredictable pass the restrictions. -/
theorem run_doubleRestrictions {load : Bool} (hd : s.inDebug = false) (h : rd.getLsbD 0 = false)
    (hb : badDouble load x rn rd o = false) : (doubleRestrictions x rn rd 0 o).run s = .ok () s := by
  simp only [badDouble, Bool.or_eq_false_iff] at hb
  obtain ⟨⟨⟨⟨h14, hpc⟩, hform⟩, hwb⟩, -⟩ := hb
  have hw : (x.writesBack && (rn == 15 || rn == rd || rn == rd + 1)) = false := by
    rw [← hwb, Index.writesBack]
    cases x.p <;> cases x.w <;> rfl
  simp only [doubleRestrictions, mode3Form, run_bind, run_undefinedIf hd, h, run_shouldBe, run_unpredictableIf, h14, hpc, hform, hw,
    beq_self_eq_true, Bool.or_self, Bool.false_eq_true, if_true, if_false]

/-- A block that memory holds is loaded, as many words as it has. -/
theorem run_loadWords_held {t : AccessType} {start a : Word} {ws : List Word} {n : Nat} (hw : s.NoWatch)
    (ha : s.AccessAddress t start a) (ht : t.unit = 4) (hn : ws.length = n) (h : s.HoldsWords s.privileged a ws)
    (precise : Bool) : (loadWords (s.multiMode a precise) a n).run s = .ok { words := ws, abort := none } s :=
  hn ▸ run_loadWords hw (m := s.multiMode a precise) rfl (ha.word ht) h

/-- LDRD loads its two words, writes the base, then the registers. -/
theorem outcome_loadDouble (hd : s.inDebug = false) (heven : rd.getLsbD 0 = false) (hb : badDouble true x rn rd o = false)
    (h : s.HoldsBlock .twoWord (s.address x rn o) [w0, w1]) :
    (loadDouble x rn rd 0 o).outcome s =
      .next ((((s.withBase x rn (s.moved x rn o)).setReg rd w0).setReg (rd + 1) w1).goto s.nextInsn) := by
  have hr := run_doubleRestrictions (s := s) hd heven hb
  have huses : (o.usesReg rd || o.usesReg (rd + 1)) = false := by
    simp only [badDouble, Bool.or_eq_false_iff, Bool.true_and] at hb
    obtain ⟨-, hu⟩ := hb
    rw [hu.1, hu.2, Bool.or_self]
  obtain ⟨he, hw, a, ha, hh⟩ := h
  unfold loadDouble
  rw [outcome_bind_ok hr, outcome_unpredictableIf huses, outcome_bind_ok (run_addressMode hd x rn o),
    outcome_bind_ok (run_checkAlignment he ha false), outcome_bind_ok (run_orAbort_ok _ s), outcome_bind_ok (run_get s),
    outcome_bind_ok (run_loadWords_held (n := 2) hw ha rfl rfl hh false)]
  show (writeBack rn _ >>= fun _ => writeReg rd w0 >>= fun _ => writeReg (rd + 1) w1 >>= fun _ => advance).outcome s = _
  rw [outcome_bind_ok (run_writeBack s x rn _ _), outcome_bind_ok (run_writeReg rd w0 _)]
  exact outcome_lastReg (u := (s.withBase x rn _).setReg rd w0) ((State.withBase_inDebug ..).trans hd)
    (State.withBase_nextInsn s x rn _) (rd + 1) w1

/-- STRD stores its two registers, then writes the base. -/
theorem outcome_storeDouble (hd : s.inDebug = false) (heven : rd.getLsbD 0 = false) (hb : badDouble false x rn rd o = false)
    (h : s.StoredBlock .twoWord (s.address x rn o) [s.reg rd, s.reg (rd + 1)] u) :
    (storeDouble x rn rd 0 o).outcome s = .next ((u.withBase x rn (s.moved x rn o)).goto s.nextInsn) := by
  have hr := run_doubleRestrictions (s := s) hd heven hb
  have h14 : rd ≠ 14 := fun h14 => by rw [h14] at hb; cases hb
  have hu := h.sameBut
  obtain ⟨he, hw, a, ha, hh⟩ := h
  have hstore := run_storeWords (m := s.multiMode a false) rfl hw (ha.word rfl) hh
  unfold storeDouble
  rw [outcome_bind_ok hr, outcome_bind_ok (run_addressMode hd x rn o), outcome_readReg (even_ne_15 heven),
    outcome_readReg (ExclusiveAccess.succ_ne_15 h14), outcome_bind_ok (run_checkAlignment he ha true),
    outcome_bind_ok (run_orAbort_ok _ s), outcome_bind_ok (run_get s), outcome_bind_ok hstore, outcome_writeBack_advance hd hu]

end

/-- Settles O37: an odd register ends the transfer at its restrictions, an even one moves its two words. -/
theorem doubleTransfersMoveTwoWords : Obligations.DoubleTransfersMoveTwoWords := by
  intro s u load c x rn rd f i w0 w1 hi hc
  rw [exec_double hi hc.2]
  refine ⟨fun hodd => ?odd, fun heven hb => ⟨?loads, ?stores⟩⟩
  case odd =>
    have hr := run_doubleRestrictions_odd (x := x) (rn := rn) (o := f.offset) hc.1 hodd
    cases load <;> exact outcome_then_taken hr _
  case loads =>
    rintro rfl h
    exact outcome_loadDouble hc.1 heven hb h
  case stores =>
    rintro rfl h
    exact outcome_storeDouble hc.1 heven hb h

/-! ### Hints -/

/-- An instruction whose body only moves the PC on does so whether its condition passes or fails. -/
theorem conditional_advance {s : State} (hd : s.inDebug = false) {x : M Unit} (h : x.outcome s = advance.outcome s) (c : Cond) :
    conditional c x s = .next (s.goto s.nextInsn) := by
  have ha := outcome_advance (s := s) hd rfl
  unfold conditional
  split
  · exact h.trans ha
  · exact ha

/-- Settles O38: the bodies pass their checks and move the PC on. -/
theorem hintsOnlyMoveThePc : Obligations.HintsOnlyMoveThePc := by
  intro s c u rn rm imm12 imm5 t num hd
  have hint : (hintOp 15 0).outcome s = advance.outcome s := outcome_shouldBe rfl s _
  have hpc : (Offset.reg imm5 t rm).isPc = (rm == 15) := rfl
  refine ⟨conditional_advance hd hint c, conditional_advance hd hint c, conditional_advance hd hint c, ?_, fun hrm => ?_⟩
  · exact (outcome_unpredictableIf rfl s fun _ => advance).trans (outcome_advance hd rfl)
  · exact (outcome_unpredictableIf (hpc.trans (beq_eq_false_iff_ne.2 hrm)) s fun _ => advance).trans (outcome_advance hd rfl)

end Sys2Proof.SingleTransfers


/-!
The block transfers, the swaps, and the exception returns and saves through memory (45_ldm_excl_swp.md R1360 to R1381,
47_thumb.md R1556, R1564 to R1566).
-/
namespace Sys2Proof.BlockTransfers

open Sys2Proof Sys2Proof.Machine Sys2Proof.DataProcessing Sys2Proof.SystemControl Sys2Proof.SingleTransfers

/-! ### The register list -/

/-- A register in a list has its bit set. -/
theorem bit_of_mem_listRegs {l : BitVec 16} {n : BitVec 4} (h : n ∈ listRegs l) : l.getLsbD n.toNat = true := by
  simp only [listRegs, List.mem_filterMap, List.mem_range, Option.ite_none_right_eq_some, Option.some.injEq] at h
  obtain ⟨k, hk, hl, rfl⟩ := h
  rwa [BitVec.toNat_ofNat, Nat.mod_eq_of_lt hk]

/-- Where R15 is not in the list a store stores the registers themselves. -/
theorem map_storeValue {l : BitVec 16} (h : l.getLsbD 15 = false) (s : State) :
    (listRegs l).map s.storeValue = (listRegs l).map s.reg := by
  refine List.map_congr_left fun n hn => if_neg ?_
  rintro rfl
  exact Bool.false_ne_true (h.symm.trans (bit_of_mem_listRegs hn))

section

variable {s t : State} {p u w : Bool} {rn : BitVec 4} {l : BitVec 16} {ws : List Word}

/-- A base of a block that is not R15, as a Boolean test. -/
theorem rn_ne_15 (h : loadListUnpredictable w rn l = false) : rn ≠ 15 := by
  simp only [loadListUnpredictable, Bool.or_eq_false_iff, beq_eq_false_iff_ne] at h
  exact h.1.2

/-- A load multiple with a list, a base that is not R15, and no base in the list where it is written back, is allowed. -/
theorem loadList_ok (hl : l ≠ 0) (hrn : rn ≠ 15) (hw : w = true → l.getLsbD rn.toNat = false) :
    loadListUnpredictable w rn l = false := by
  have hwb : (w && l.getLsbD rn.toNat) = false := by cases w <;> simp_all
  simp only [loadListUnpredictable, beq_eq_false_iff_ne.2 hl, beq_eq_false_iff_ne.2 hrn, hwb, Bool.or_self]

theorem storeList_ok (hl : l ≠ 0) (hrn : rn ≠ 15) (hw : w = true → l.getLsbD rn.toNat = true → (listRegs l).head? = some rn) :
    storeListUnpredictable w rn l = false := by
  have hwb : (w && l.getLsbD rn.toNat && (listRegs l).head? != some rn) = false := by
    cases hb : w && l.getLsbD rn.toNat with
    | false => rfl
    | true =>
      obtain ⟨h1, h2⟩ := Bool.and_eq_true_iff.1 hb
      rw [hw h1 h2, bne_self_eq_false, Bool.and_false]
  simp only [storeListUnpredictable, beq_eq_false_iff_ne.2 hl, beq_eq_false_iff_ne.2 hrn, hwb, Bool.or_self]

/-! ### LDM -/

/-- The state with the base written where `w`. -/
def withBlockBase (s : State) (w : Bool) (rn : BitVec 4) (v : Word) : State := if w then s.setReg rn v else s

theorem withBlockBase_inDebug (s : State) (w : Bool) (rn : BitVec 4) (v : Word) :
    (withBlockBase s w rn v).inDebug = s.inDebug := by
  cases w <;> rfl

theorem withBlockBase_nextInsn (s : State) (w : Bool) (rn : BitVec 4) (v : Word) :
    (withBlockBase s w rn v).nextInsn = s.nextInsn := by
  cases w <;> rfl

/-- The base is written where `w`, and the instruction goes on. -/
theorem outcome_blockBase (v : Word) (x : M Unit) :
    (if w then writeReg rn v >>= fun _ => x else x).outcome s = x.outcome (withBlockBase s w rn v) := by
  cases w with
  | false => rfl
  | true => exact outcome_bind_ok (run_writeReg rn v s) _

/-- The registers and the base after a load multiple. -/
def loadedBlock (s : State) (u w : Bool) (rn : BitVec 4) (l : BitVec 16) (ws : List Word) : State :=
  withBlockBase (s.setRegs (listed l ws)) w rn (blockBase u ws.length (s.reg rn))

theorem loadedBlock_inDebug (s : State) (u w : Bool) (rn : BitVec 4) (l : BitVec 16) (ws : List Word) :
    (loadedBlock s u w rn l ws).inDebug = s.inDebug :=
  (withBlockBase_inDebug ..).trans (State.setRegs_inDebug ..)

theorem loadedBlock_nextInsn (s : State) (u w : Bool) (rn : BitVec 4) (l : BitVec 16) (ws : List Word) :
    (loadedBlock s u w rn l ws).nextInsn = s.nextInsn :=
  (withBlockBase_nextInsn ..).trans (State.setRegs_nextInsn ..)

/-- A load multiple fills its list, writes its base, and goes on, by a load of the PC where R15 is in the list. -/
theorem outcome_loadMultiple (hd : s.inDebug = false) (hbad : loadListUnpredictable w rn l = false)
    (hl : ws.length = (listRegs l).length) (h : s.HoldsBlock .multi (blockStart p u ws.length (s.reg rn)) ws) :
    (loadMultiple p u w rn l).outcome s =
      if l.getLsbD 15 then (loadedBlock s u w rn l ws).loadedPc (ws.getLastD 0)
      else .next ((loadedBlock s u w rn l ws).goto s.nextInsn) := by
  unfold loadMultiple
  rw [outcome_unpredictableIf hbad, outcome_bind_ok (run_loadMulti (rn_ne_15 hbad) hl h _ _ _ _),
    outcome_bind_ok (run_writeRegs _ s)]
  refine (outcome_blockBase (blockBase u ws.length (s.reg rn))
    (if l.getLsbD 15 then loadWritePc (ws.getLastD 0) else advance)).trans ?_
  have hd' := (loadedBlock_inDebug s u w rn l ws).trans hd
  split
  · exact outcome_loadWritePc hd' _
  · exact outcome_advance hd' (loadedBlock_nextInsn s u w rn l ws)

theorem always_outcome (x : M Unit) (s : State) : always x s = x.outcome s := rfl

/-- In the modes with registers of their own the User registers are reached. -/
theorem run_bankedOnly (hu : s.mode ≠ .usr) (hs : s.mode ≠ .sys) : bankedOnly.run s = .ok () s := by
  simp only [bankedOnly, run_bind, run_get, run_unpredictableIf, beq_eq_false_iff_ne.2 hu, beq_eq_false_iff_ne.2 hs,
    Bool.or_self, Bool.false_eq_true, if_false]

/-- LDM (2) fills the User registers. -/
theorem exec_ldm2 {c : Cond} (h : s.Passes c) {l : BitVec 15} (hbad : loadListUnpredictable false rn (l.setWidth 16) = false)
    (hu : s.mode ≠ .usr) (hs : s.mode ≠ .sys) (hl : ws.length = (listRegs (l.setWidth 16)).length)
    (hh : s.HoldsBlock .multi (blockStart p u ws.length (s.reg rn)) ws) :
    exec (.ldm2 c p u false rn l) s = .next ((s.setUserRegs (listed (l.setWidth 16) ws)).goto s.nextInsn) := by
  refine (conditional_passed h.2 _).trans ?_
  rw [outcome_unpredictableIf (by rw [hbad]; rfl), outcome_bind_ok (run_bankedOnly hu hs), outcome_bind_ok (run_get s),
    outcome_bind_ok (run_loadMulti (rn_ne_15 hbad) hl hh _ _ _ _), outcome_bind_ok (run_writeRegs_user _ s)]
  exact outcome_advance ((State.setUserRegs_inDebug ..).trans h.1) (State.setUserRegs_nextInsn ..)

end

/-- Settles O39: the two forms fill their registers from the words memory holds. -/
theorem loadMultipleFillsTheList : Obligations.LoadMultipleFillsTheList := by
  intro s c p u w rn l l15 ws h hrn
  refine ⟨fun hl hw hlen hh => ?_, fun hl hu hs hlen hh => ?_⟩
  · exact (conditional_passed h.2 _).trans (outcome_loadMultiple h.1 (loadList_ok hl hrn hw) hlen hh)
  · have hl16 : l15.setWidth 16 ≠ 0 := fun h0 => hl (by bv_omega)
    exact exec_ldm2 h (loadList_ok hl16 hrn fun hw => nomatch hw) hu hs hlen hh

/-! ### Exception returns -/

section

variable {s t : State} {p u w : Bool} {rn : BitVec 4} {ws : List Word}

/-- A return that may restore its status does so. -/
theorem returnOutcome_of_mayReturn {a psr : Word} (h : s.mayReturn psr = true) :
    s.returnOutcome a psr = .next (s.returnTo a psr) := by
  obtain ⟨hmode, hjazelle⟩ := Bool.and_eq_true_iff.1 h
  have h1 : ¬(s.privileged && (Mode.ofBits (psr.extractLsb' 0 5)).isNone) = true := by
    rw [← Option.not_isSome]
    revert hmode
    cases s.privileged <;> cases (Mode.ofBits (psr.extractLsb' 0 5)).isSome <;> simp
  have h2 : ¬((merge s.cpsr psr (s.returnMask psr)).getLsbD 24 && !(merge s.cpsr psr (s.returnMask psr)).getLsbD 5) = true := by
    revert hjazelle
    cases (merge s.cpsr psr (s.returnMask psr)).getLsbD 24 <;> cases (merge s.cpsr psr (s.returnMask psr)).getLsbD 5 <;> simp
  rw [State.returnOutcome, if_neg h1, if_neg h2]

theorem run_readSpsr {k : Fin 6} (h : spsrSlot s.mode = some k) : readSpsr.run s = .ok s.spsr[k] s := by
  simp only [readSpsr, run_bind, run_get, h, run_pure]

theorem ne_usr_of_spsrSlot {k : Fin 6} (h : spsrSlot s.mode = some k) : s.mode ≠ .usr := fun hm => by rw [hm] at h; cases h

theorem ne_sys_of_spsrSlot {k : Fin 6} (h : spsrSlot s.mode = some k) : s.mode ≠ .sys := fun hm => by rw [hm] at h; cases h

/-- LDM (3) fills its list, writes its base, and returns with the SPSR the mode had. -/
theorem exec_ldm3 {c : Cond} (h : s.Passes c) {l : BitVec 15} {k : Fin 6} (hk : spsrSlot s.mode = some k)
    (hbad : loadListUnpredictable w rn (1#1 ++ l) = false) (hl : ws.length = (listRegs (1#1 ++ l)).length)
    (hh : s.HoldsBlock .multi (blockStart p u ws.length (s.reg rn)) ws) :
    exec (.ldm3 c p u w rn l) s = (loadedBlock s u w rn (1#1 ++ l) ws).returnOutcome (ws.getLastD 0) s.spsr[k] := by
  refine (conditional_passed h.2 _).trans ?_
  rw [outcome_unpredictableIf hbad, outcome_bind_ok (run_bankedOnly (ne_usr_of_spsrSlot hk) (ne_sys_of_spsrSlot hk)),
    outcome_bind_ok (run_readSpsr hk), outcome_bind_ok (run_loadMulti (rn_ne_15 hbad) hl hh _ _ _ _),
    outcome_bind_ok (run_writeRegs _ s)]
  refine (outcome_blockBase (blockBase u ws.length (s.reg rn)) (exceptionReturn (ws.getLastD 0) s.spsr[k])).trans ?_
  exact outcome_exceptionReturn ((loadedBlock_inDebug ..).trans h.1) _ _

/-- RFE returns with the two words memory holds, its base written. -/
theorem exec_rfe (hd : s.inDebug = false) (hrn : rn ≠ 15) {pc psr : Word}
    (h : s.HoldsBlock .multi (blockStart p u 2 (s.reg rn)) [pc, psr]) :
    exec (.rfe p u w rn) s = (withBlockBase s w rn (blockBase u 2 (s.reg rn))).returnOutcome pc psr := by
  obtain ⟨he, hw, a, ha, hh⟩ := h
  refine (always_outcome _ s).trans ?_
  rw [outcome_unpredictableIf (beq_eq_false_iff_ne.2 hrn), outcome_readReg hrn, mode4_block,
    outcome_bind_ok (run_checkAlignment he ha false), outcome_bind_ok (run_orAbort_ok _ s), outcome_bind_ok (run_get s),
    outcome_bind_ok (run_loadWords_held (n := 2) hw ha rfl rfl hh true)]
  refine (outcome_blockBase (blockBase u 2 (s.reg rn)) (exceptionReturn pc psr)).trans ?_
  exact outcome_exceptionReturn ((withBlockBase_inDebug ..).trans hd) _ _

end

/-- Settles O40: both instructions return with the words memory holds, and a return that may restore its status completes. -/
theorem loadsReturnFromAnException : Obligations.LoadsReturnFromAnException := by
  intro s c p u w rn hd hrn
  refine ⟨fun l15 ws k hc hk hw hlen hh => ?ldm, fun pc psr hh => ?rfe⟩
  case ldm =>
    have h15 : (1#1 ++ l15 : BitVec 16).getLsbD 15 = true := by
      rewrite [BitVec.getLsbD_append]
      rfl
    have hl : (1#1 ++ l15 : BitVec 16) ≠ 0 := fun h0 => by
      rw [h0] at h15
      cases h15
    have he := exec_ldm3 ⟨hd, hc⟩ hk (loadList_ok hl hrn hw) hlen hh
    exact ⟨he, fun hr => he.trans (returnOutcome_of_mayReturn hr)⟩
  case rfe =>
    have he := exec_rfe (w := w) hd hrn hh
    exact ⟨he, fun hr => he.trans (returnOutcome_of_mayReturn hr)⟩

/-! ### Stores -/

section

variable {s t : State} {p u w : Bool} {rn : BitVec 4} {l : BitVec 16}

/-- The base written after a store, and the next instruction. -/
theorem outcome_blockBase_advance (hd : s.inDebug = false) (ht : s.SameBut t) (w : Bool) (rn : BitVec 4) (v : Word) :
    (if w then writeReg rn v >>= fun _ => advance else advance).outcome t =
      .next ((withBlockBase t w rn v).goto s.nextInsn) :=
  (outcome_blockBase v advance).trans (outcome_advance ((withBlockBase_inDebug ..).trans (ht.inDebug.trans hd))
    ((withBlockBase_nextInsn ..).trans ht.nextInsn))

/-- A store multiple stores its list and writes its base. -/
theorem outcome_storeMultiple (hd : s.inDebug = false) (hrn : rn ≠ 15) (hbad : storeListUnpredictable w rn l = false)
    (h : s.StoredBlock .multi (blockStart p u (listRegs l).length (s.reg rn)) ((listRegs l).map s.storeValue) t) :
    (storeMultiple p u w rn l).outcome s =
      .next ((withBlockBase t w rn (blockBase u (listRegs l).length (s.reg rn))).goto s.nextInsn) := by
  have ht := h.sameBut
  have hlen : ((listRegs l).map s.storeValue).length = (listRegs l).length := List.length_map _
  rw [← hlen] at h ⊢
  unfold storeMultiple
  rw [outcome_unpredictableIf hbad, outcome_readReg hrn, outcome_bind_ok (run_storedRegs hd _),
    outcome_bind_ok (run_storeMulti h)]
  exact outcome_blockBase_advance hd ht w rn _

/-- STM (2) stores the User registers. -/
theorem exec_stm2 {c : Cond} (h : s.Passes c) (hrn : rn ≠ 15) (hbad : storeListUnpredictable false rn l = false)
    (hu : s.mode ≠ .usr) (hs : s.mode ≠ .sys)
    (hh : s.StoredBlock .multi (blockStart p u (listRegs l).length (s.reg rn))
      ((listRegs l).map fun n => if n = 15 then s.storeValue 15 else s.regOf .usr n) t) :
    exec (.stm2 c p u false rn l) s = .next (t.goto s.nextInsn) := by
  have ht := hh.sameBut
  rw [← List.length_map (as := listRegs l) (fun n => if n = 15 then s.storeValue 15 else s.regOf .usr n)] at hh
  refine (conditional_passed h.2 _).trans ?_
  rw [outcome_unpredictableIf (by rw [hbad]; rfl), outcome_bind_ok (run_bankedOnly hu hs), outcome_readReg hrn,
    outcome_bind_ok (run_storedRegs_user h.1 _), outcome_bind_ok (run_storeMulti hh)]
  exact outcome_advance (ht.inDebug.trans h.1) ht.nextInsn

/-- SRS stores R14 and the SPSR on the stack of a mode, and writes its stack pointer. -/
theorem exec_srs (hd : s.inDebug = false) {mode : BitVec 5} {m : Mode} {k : Fin 6} (hk : spsrSlot s.mode = some k)
    (hm : Mode.ofBits mode = some m) (hmon : ¬(s.nonSecure = true ∧ m = .mon))
    (h : s.StoredBlock .multi (blockStart p u 2 (s.regOf m 13)) [s.reg 14, s.spsr[k]] t) :
    exec (.srs p u w mode) s =
      .next ((if w then t.setRegOf m 13 (blockBase u 2 (s.regOf m 13)) else t).goto s.nextInsn) := by
  have hu : (s.nonSecure && mode == Mode.mon.toBits) = false := by
    refine Bool.eq_false_iff.2 fun hb => hmon ?_
    obtain ⟨hns, hmode⟩ := Bool.and_eq_true_iff.1 hb
    rw [beq_iff_eq.1 hmode] at hm
    exact ⟨hns, (Option.some.inj hm).symm⟩
  have hund : (undefinedIf (s.nonSecure && mode == Mode.mon.toBits)).run s = .ok () s := by rewrite [hu]; rfl
  have ht := h.sameBut
  have hlr : (readReg 14).run s = .ok (s.reg 14) s := run_readReg (by decide) s
  have hst : (storeMulti p u (s.regOf m 13) [s.reg 14, s.spsr[k]]).run s = .ok (blockBase u 2 (s.regOf m 13)) t :=
    run_storeMulti (ws := [s.reg 14, s.spsr[k]]) h
  refine (always_outcome _ s).trans ?_
  rw [outcome_bind_ok (run_get s), outcome_bind_ok hund, outcome_bind_ok (run_readSpsr hk), hm]
  refine (outcome_bind_ok hlr _).trans ((outcome_bind_ok hst _).trans ?_)
  have hd' := ht.inDebug.trans hd
  cases w with
  | false => exact outcome_advance hd' ht.nextInsn
  | true => exact outcome_advance (t := t.setRegOf m 13 _) hd' ht.nextInsn

end

/-- Settles O41: the three instructions store their words, and write the base where W. -/
theorem storeMultipleStoresTheList : Obligations.StoreMultipleStoresTheList := by
  intro s t c p u w rn l mode m hd
  refine ⟨fun hc hl hrn hw hh => ?_, fun hc hl hrn hu hs hh => ?_, fun k hk hm hmon hh => exec_srs hd hk hm hmon hh⟩
  · exact (conditional_passed hc _).trans (outcome_storeMultiple hd hrn (storeList_ok hl hrn hw) hh)
  · exact exec_stm2 ⟨hd, hc⟩ hrn (storeList_ok hl hrn fun hw => nomatch hw) hu hs hh

/-! ### Swaps -/

section

variable {s t : State} {rn rd rm : BitVec 4} {tl ts : AccessType} {n : Nat} {va v w : Word}

/-- A swap loads the item, then stores the value at the same address. -/
theorem run_swap (hl : n ≤ tl.unit) (hs : n ≤ ts.unit) (h : s.Holds tl n s.privileged va w)
    (hst : s.StoredAs ts n s.privileged va v t) : (swap tl ts n va v).run s = .ok w t := by
  have hp : (s.privileged && !false) = s.privileged := Bool.and_true _
  simp only [swap, run_bind, run_loadItem (user := false) hl (hp ▸ h), run_storeItem (user := false) hs (hp ▸ hst), run_pure]

theorem run_swapRestrictions (hrd : rd ≠ 15) (hrm : rm ≠ 15) (hrn : rn ≠ 15) (hnm : rn ≠ rm) (hnd : rn ≠ rd) (s : State) :
    (swapRestrictions rn rd 0 rm).run s = .ok () s := by
  simp only [swapRestrictions, run_bind, run_shouldBe, run_unpredictableIf, beq_self_eq_true, beq_eq_false_iff_ne.2 hrd,
    beq_eq_false_iff_ne.2 hrm, beq_eq_false_iff_ne.2 hrn, beq_eq_false_iff_ne.2 hnm, beq_eq_false_iff_ne.2 hnd, Bool.or_self,
    Bool.false_eq_true, if_true, if_false]

/-- The register is written after the store, and the next instruction follows. -/
theorem outcome_swapEnd (hd : s.inDebug = false) (ht : s.SameBut t) (rd : BitVec 4) (w : Word) :
    (writeReg rd w >>= fun _ => advance).outcome t = .next ((t.setReg rd w).goto s.nextInsn) :=
  outcome_lastReg (ht.inDebug.trans hd) ht.nextInsn rd w

end

/-- Settles O42: under the restrictions both swaps load, store, and write the register. -/
theorem swapsLoadThenStore : Obligations.SwapsLoadThenStore := by
  intro s t c rn rd rm w h hrd hrm hrn hnm hnd tl ts
  have hr := run_swapRestrictions hrd hrm hrn hnm hnd s
  refine ⟨fun hl hs => (conditional_passed h.2 _).trans ?word, fun hl hs => (conditional_passed h.2 _).trans ?byte⟩
  case word =>
    rw [outcome_bind_ok hr, outcome_readReg hrn, outcome_readReg hrm, outcome_bind_ok (run_get s)]
    have hend := outcome_swapEnd h.1 hs.sameBut rd w
    cases hU : s.sctlr.getLsbD 22 with
    | false =>
      simp only [tl, ts, hU, Bool.false_eq_true, if_false] at hl hs
      exact (outcome_bind_ok (run_swap (by decide) (by decide) hl hs) _).trans hend
    | true =>
      simp only [tl, ts, hU, if_true] at hl hs
      exact (outcome_bind_ok (run_swap (by decide) (by decide) hl hs) _).trans hend
  case byte =>
    rw [outcome_bind_ok hr, outcome_readReg hrn, outcome_readReg hrm,
      outcome_bind_ok (run_swap (by decide) (by decide) hl hs)]
    exact outcome_swapEnd h.1 hs.sameBut rd w

/-! ### The Thumb blocks -/

section

variable {s t : State}

/-- Values STMIA stores: the registers, where a base in the list is its lowest register. -/
theorem run_thumbStored {rn : BitVec 4} {lowest : Option (BitVec 4)} {regs : List (BitVec 4)}
    (h : rn ∈ regs → lowest = some rn) : (thumbStored rn lowest regs).run s = .ok (regs.map s.reg) s := by
  induction regs with
  | nil => rfl
  | cons r l ih =>
    have hr : (decide (r = rn) && lowest != some rn) = false := by
      by_cases hrn : r = rn
      · rw [h (hrn ▸ List.mem_cons_self), bne_self_eq_false, Bool.and_false]
      · rw [decide_eq_false hrn, Bool.false_and]
    simp only [thumbStored, run_bind, run_get, hr, Bool.false_eq_true, if_false, run_pure,
      ih fun hm => h (List.mem_cons_of_mem _ hm), List.map_cons]

theorem low_toNat (r : BitVec 3) : (low r).toNat = r.toNat := by
  have hr := r.isLt
  rw [low, BitVec.toNat_setWidth, Nat.mod_eq_of_lt (by omega)]

theorem low_ne_15 (r : BitVec 3) : low r ≠ 15 := fun h => by
  have hr := r.isLt
  have hn := low_toNat r
  rw [h] at hn
  simp at hn
  omega

/-- The bits of the list of a PUSH: R14 where `r`, and no other high register. -/
theorem pushList_getLsbD (r : Bool) (l : BitVec 8) :
    (BitVec.ofBool false ++ BitVec.ofBool r ++ 0#6 ++ l : BitVec 16).getLsbD 13 = false ∧
      (BitVec.ofBool false ++ BitVec.ofBool r ++ 0#6 ++ l : BitVec 16).getLsbD 15 = false := by
  constructor <;> simp only [BitVec.getLsbD_append] <;> rfl

/-- The bits of the list of a POP: R15 where `r`, and no other high register. -/
theorem popList_getLsbD (r : Bool) (l : BitVec 8) :
    (BitVec.ofBool r ++ 0#7 ++ l : BitVec 16).getLsbD 13 = false ∧
      (BitVec.ofBool r ++ 0#7 ++ l : BitVec 16).getLsbD 15 = r := by
  constructor <;> simp only [BitVec.getLsbD_append] <;> cases r <;> rfl

/-- The list of a block of low registers has no high register. -/
theorem lowList_getLsbD_15 (l : BitVec 8) : (l.setWidth 16).getLsbD 15 = false := by
  rw [BitVec.getLsbD_setWidth, BitVec.getLsbD_of_ge l 15 (by decide), Bool.and_false]

theorem lowList_getLsbD_low (l : BitVec 8) (rn : BitVec 3) :
    (l.setWidth 16).getLsbD (low rn).toNat = l.getLsbD rn.toNat := by
  have hr := rn.isLt
  rw [BitVec.getLsbD_setWidth, low_toNat, decide_eq_true (by omega : rn.toNat < 16), Bool.true_and]

theorem lowList_ne_zero {l : BitVec 8} (h : l ≠ 0) : l.setWidth 16 ≠ 0 := fun h0 => h (by bv_omega)

/-- STMIA stores its list and moves the base on. -/
theorem exec_tStmia (hd : s.inDebug = false) {rn : BitVec 3} {l : BitVec 8} (hl : l ≠ 0)
    (hrn : l.getLsbD rn.toNat = true → (listRegs (l.setWidth 16)).head? = some (low rn))
    (h : s.StoredBlock .multi (s.reg (low rn)) ((listRegs (l.setWidth 16)).map s.reg) t) :
    exec (.tStmia rn l) s =
      .next ((t.setReg (low rn) (s.reg (low rn) + BitVec.ofNat 32 (4 * (listRegs (l.setWidth 16)).length))).goto s.nextInsn) := by
  have hbase : low rn ∈ listRegs (l.setWidth 16) → (listRegs (l.setWidth 16)).head? = some (low rn) := fun hm =>
    hrn (by rw [← lowList_getLsbD_low]; exact bit_of_mem_listRegs hm)
  have hst := run_storeMulti (p := false) (u := true) (base := s.reg (low rn)) h
  rw [List.length_map] at hst
  refine (always_outcome _ s).trans ?_
  rw [outcome_unpredictableIf (beq_eq_false_iff_ne.2 hl), outcome_bind_ok (run_get s), outcome_bind_ok (run_thumbStored hbase),
    outcome_bind_ok hst]
  exact outcome_swapEnd hd h.sameBut (low rn) _

end

/-- Settles O54: PUSH and POP are block transfers at the stack, STMIA and LDMIA at their base. -/
theorem thumbBlocksUseTheStackOrTheBase : Obligations.ThumbBlocksUseTheStackOrTheBase := by
  intro s t r l rn ws hd push pop list base
  refine ⟨fun hl hh => ?push, fun hl hlen hh => ?pop, fun hl hrn hh => exec_tStmia hd hl hrn hh, fun hl hlen hh => ?ldmia⟩
  case push =>
    obtain ⟨h13, h15⟩ := pushList_getLsbD r l
    rw [← map_storeValue h15] at hh
    refine outcome_storeMultiple (p := true) (u := false) (w := true) hd (by decide) (storeList_ok hl (by decide) fun _ hb => ?_) hh
    exact absurd (hb.symm.trans h13) (by decide)
  case pop =>
    obtain ⟨h13, h15⟩ := popList_getLsbD r l
    have hload := outcome_loadMultiple (p := false) (u := true) (w := true) (rn := 13) hd
      (loadList_ok hl (by decide) fun _ => h13) hlen hh
    rw [h15] at hload
    exact hload
  case ldmia =>
    have hw : (!l.getLsbD rn.toNat) = true → list.getLsbD (low rn).toNat = false := fun hb => by
      rw [lowList_getLsbD_low]
      exact (Bool.not_eq_true' _).mp hb
    have hload := outcome_loadMultiple (p := false) (u := true) hd
      (loadList_ok (lowList_ne_zero hl) (low_ne_15 rn) hw) hlen hh
    rw [lowList_getLsbD_15, if_neg Bool.false_ne_true] at hload
    refine hload.trans ?_
    rw [loadedBlock, withBlockBase]
    cases l.getLsbD rn.toNat <;> rfl

end Sys2Proof.BlockTransfers


/-!
The Thumb instructions: data processing, the high registers, the transfers of one register, and the branches
(47_thumb.md R1500 to R1591).
-/
namespace Sys2Proof.ThumbInstructions

open Sys2Proof Sys2Proof.Machine Sys2Proof.DataProcessing Sys2Proof.SystemControl Sys2Proof.SingleTransfers
  Sys2Proof.BlockTransfers Sys2Proof.Branches

/-! ### Data processing -/

section

variable {s : State}

/-- The frame of the opcodes on low registers. -/
theorem outcome_thumbAlu (hd : s.inDebug = false) (op : AluOp) (rd : BitVec 4) (a b : Word) :
    (thumbAlu op rd a b).outcome s = .next (s.thumbResult op rd a b) := by
  unfold thumbAlu
  rw [outcome_bind_ok (run_get s), alu_apply, outcome_bind_ok (run_writeReg rd _ s)]
  exact outcome_setFlags_advance (s := s) (t := s.setReg rd _) hd rfl _

theorem outcome_thumbCompare (hd : s.inDebug = false) (op : AluOp) (a b : Word) :
    (thumbCompare op a b).outcome s = .next ((s.setNzcv (aluFlags op a b s.flagC s.nzcv)).goto s.nextInsn) := by
  unfold thumbCompare
  rw [outcome_bind_ok (run_get s), alu_apply]
  exact outcome_setFlags_advance hd rfl _

theorem outcome_thumbShift (hd : s.inDebug = false) (rd : BitVec 4) (r : Word × Bool) :
    (thumbShift rd r).outcome s = .next (s.thumbShifted rd r) := by
  unfold thumbShift
  rw [outcome_bind_ok (run_get s), outcome_bind_ok (run_writeReg rd _ s)]
  exact outcome_setFlags_advance (s := s) (t := s.setReg rd _) hd rfl _

/-- An instruction that reads the state first goes on from it. -/
theorem always_get (f : State → M Unit) (s : State) : always (get >>= f) s = (f s).outcome s := outcome_bind_ok (run_get s) f

/-- A data-processing instruction whose operands are read from the state. -/
theorem always_thumbAlu (hd : s.inDebug = false) (op : AluOp) (rd : BitVec 4) (a b : State → Word) :
    always (get >>= fun s => thumbAlu op rd (a s) (b s)) s = .next (s.thumbResult op rd (a s) (b s)) :=
  (always_get _ s).trans (outcome_thumbAlu hd op rd _ _)

theorem always_thumbCompare (hd : s.inDebug = false) (op : AluOp) (a b : State → Word) :
    always (get >>= fun s => thumbCompare op (a s) (b s)) s =
      .next ((s.setNzcv (aluFlags op (a s) (b s) s.flagC s.nzcv)).goto s.nextInsn) :=
  (always_get _ s).trans (outcome_thumbCompare hd op _ _)

theorem always_thumbShift (hd : s.inDebug = false) (rd : BitVec 4) (r : State → Word × Bool) :
    always (get >>= fun s => thumbShift rd (r s)) s = .next (s.thumbShifted rd (r s)) :=
  (always_get _ s).trans (outcome_thumbShift hd rd _)

theorem exec_tMul (hd : s.inDebug = false) (rm rd : BitVec 3) :
    exec (.tMul rm rd) s =
      .next (((s.setReg (low rd) (s.reg (low rm) * s.reg (low rd))).withNz (s.reg (low rm) * s.reg (low rd))).goto s.nextInsn) :=
  (always_get (fun s => finishWord true (low rd) (s.reg (low rm) * s.reg (low rd))) s).trans
    (Multiplies.outcome_finishWord_afterWord hd true (low rd) _)

end

/-- Settles O51: every row is one of the three frames on operands read from the state. -/
theorem thumbDataProcessingWritesResultAndFlags : Obligations.ThumbDataProcessingWritesResultAndFlags := by
  intro s rm rn rd i3 i5 i8 hd m n d goesTo flags shifted amount
  have alu (op : AluOp) (a b : State → Word) := always_thumbAlu hd op (low rd) a b
  have cmp (op : AluOp) (a b : State → Word) := always_thumbCompare hd op a b
  have shift (r : State → Word × Bool) := always_thumbShift hd (low rd) r
  let dOf (s : State) : Word := s.reg (low rd)
  let nOf (s : State) : Word := s.reg (low rn)
  let mOf (s : State) : Word := s.reg (low rm)
  let amountOf (s : State) : Nat := ((mOf s).extractLsb' 0 8).toNat
  refine ⟨?arith, ?regs, ?compare, exec_tMul hd rm rd, ?shifts⟩
  case arith =>
    exact ⟨alu .add nOf mOf, alu .sub nOf mOf, alu .add nOf fun _ => 0, alu .add nOf fun _ => i3.setWidth 32,
      alu .sub nOf fun _ => i3.setWidth 32, outcome_thumbAlu hd .mov (low rd) 0 (i8.setWidth 32),
      alu .add dOf fun _ => i8.setWidth 32, alu .sub dOf fun _ => i8.setWidth 32⟩
  case regs =>
    exact ⟨alu .and dOf mOf, alu .eor dOf mOf, alu .adc dOf mOf, alu .sbc dOf mOf, alu .orr dOf mOf, alu .bic dOf mOf,
      alu .mvn dOf mOf, alu .rsb mOf fun _ => 0⟩
  case compare =>
    exact ⟨cmp .sub nOf fun _ => i8.setWidth 32, cmp .sub dOf mOf, cmp .add dOf mOf, cmp .and dOf mOf⟩
  case shifts =>
    exact ⟨shift fun s => immShiftC 0b00 (mOf s) i5 s.flagC, shift fun s => immShiftC 0b01 (mOf s) i5 s.flagC,
      shift fun s => immShiftC 0b10 (mOf s) i5 s.flagC, shift fun s => shiftC 0b00 (dOf s) (amountOf s) s.flagC,
      shift fun s => shiftC 0b01 (dOf s) (amountOf s) s.flagC, shift fun s => shiftC 0b10 (dOf s) (amountOf s) s.flagC,
      shift fun s => shiftC 0b11 (dOf s) (amountOf s) s.flagC⟩

/-! ### High registers, the SP and the PC, extends and reversals -/

/-- A field shifted left counts in units of a power of two. -/
theorem setWidth_shiftLeft {n : Nat} (x : BitVec n) (k : Nat) : x.setWidth 32 <<< k = BitVec.ofNat 32 (2 ^ k * x.toNat) := by
  apply BitVec.eq_of_toNat_eq
  rw [BitVec.toNat_shiftLeft, BitVec.toNat_setWidth, BitVec.toNat_ofNat, Nat.shiftLeft_eq, Nat.mod_mul_mod, Nat.mul_comm]

theorem and_low_half (w : Word) : w &&& 0xFFFF = (w.extractLsb' 0 16).setWidth 32 := by
  apply BitVec.eq_of_toNat_eq
  rw [BitVec.toNat_and, BitVec.toNat_setWidth, BitVec.extractLsb'_toNat]
  exact (Nat.and_two_pow_sub_one_eq_mod _ 16).trans (by omega)

theorem and_low_byte (w : Word) : w &&& 0xFF = (w.extractLsb' 0 8).setWidth 32 := by
  apply BitVec.eq_of_toNat_eq
  rw [BitVec.toNat_and, BitVec.toNat_setWidth, BitVec.extractLsb'_toNat]
  exact (Nat.and_two_pow_sub_one_eq_mod _ 8).trans (by omega)

section

variable {s : State}

theorem outcome_readOperand (hd : s.inDebug = false) (n : BitVec 4) (f : Word → M Unit) :
    (readReg n >>= f).outcome s = (f (s.operand n)).outcome s :=
  outcome_bind_ok (run_readReg_operand hd n) f

/-- A write of a register that may be R15. -/
theorem outcome_writeHigh (hd : s.inDebug = false) (rd : BitVec 4) (v : Word) :
    (writeHigh rd v).outcome s = .next (s.toHigh rd v) := by
  unfold writeHigh State.toHigh
  split
  · rewrite [outcome_ok (run_aluWritePc v s), branchTo_running hd]
    rfl
  · exact outcome_writeReg_advance hd rd v

theorem run_thumbBase (hd : s.inDebug = false) : thumbBase.run s = .ok (s.operand 15 &&& 0xFFFFFFFC) s := by
  simp only [thumbBase, run_bind, run_readPc hd, run_pure]
  rfl

/-- An extend or a reversal writes its function of the low register. -/
theorem always_thumbUnary (hd : s.inDebug = false) (f : Word → Word) (rm rd : BitVec 3) :
    always (thumbUnary f rm rd) s = .next ((s.setReg (low rd) (f (s.reg (low rm)))).goto s.nextInsn) :=
  (always_get _ s).trans (outcome_writeReg_advance hd _ _)

/-- A write of a register that is read from the state. -/
theorem always_writeReg (hd : s.inDebug = false) (rd : BitVec 4) (v : State → Word) :
    always (get >>= fun s => writeReg rd (v s) >>= fun _ => advance) s = .next ((s.setReg rd (v s)).goto s.nextInsn) :=
  (always_get _ s).trans (outcome_writeReg_advance hd _ _)

theorem exec_tAddHigh (hd : s.inDebug = false) {dh mh : Bool} (h : (dh || mh) = true) (rm rd : BitVec 3) :
    exec (.tAddHigh dh mh rm rd) s = .next (s.toHigh (high dh rd) (s.operand (high dh rd) + s.operand (high mh rm))) := by
  refine (always_outcome _ s).trans ?_
  rw [outcome_unpredictableIf (by rw [← Bool.not_or, h]; rfl), outcome_readOperand hd, outcome_readOperand hd,
    outcome_writeHigh hd]

theorem exec_tMovHigh (hd : s.inDebug = false) (dh mh : Bool) (rm rd : BitVec 3) :
    exec (.tMovHigh dh mh rm rd) s = .next (s.toHigh (high dh rd) (s.operand (high mh rm))) := by
  refine (always_outcome _ s).trans ?_
  rw [outcome_readOperand hd, outcome_writeHigh hd]

theorem exec_tCmpHigh (hd : s.inDebug = false) {dh mh : Bool} (h : (dh || mh) = true) (rm : BitVec 3) {rd : BitVec 3}
    (hrd : high dh rd ≠ 15) :
    exec (.tCmpHigh dh mh rm rd) s =
      .next ((s.setNzcv (aluFlags .sub (s.operand (high dh rd)) (s.operand (high mh rm)) s.flagC s.nzcv)).goto s.nextInsn) := by
  refine (always_outcome _ s).trans ?_
  rw [outcome_unpredictableIf (by rw [← Bool.not_or, h, beq_eq_false_iff_ne.2 hrd]; rfl), outcome_readOperand hd,
    outcome_readOperand hd, outcome_thumbCompare hd]

theorem exec_tAddPc (hd : s.inDebug = false) (rd : BitVec 3) (i : BitVec 8) :
    exec (.tAddPc rd i) s =
      .next ((s.setReg (low rd) ((s.operand 15 &&& 0xFFFFFFFC) + BitVec.ofNat 32 (4 * i.toNat))).goto s.nextInsn) := by
  refine (always_outcome _ s).trans ?_
  rewrite [outcome_bind_ok (run_thumbBase hd), imm8x4, setWidth_shiftLeft, outcome_writeReg_advance hd]
  rfl

end

/-- Settles O52: the rows are writes of a register computed from others, where R15 is written by a branch. -/
theorem thumbHighRegistersStackAndExtends : Obligations.ThumbHighRegistersStackAndExtends := by
  intro s dh mh rm rd i8 i7 hd m d l b goesTo sp
  have scaled {n : Nat} (i : BitVec n) : i.setWidth 32 <<< 2 = BitVec.ofNat 32 (4 * i.toNat) := setWidth_shiftLeft i 2
  have unary (f : Word → Word) := always_thumbUnary hd f rm rd
  refine ⟨fun h => exec_tAddHigh hd h rm rd, exec_tMovHigh hd dh mh rm rd, exec_tMovHigh hd dh mh rm rd,
    fun h hrd => exec_tCmpHigh hd h rm hrd, exec_tAddPc hd rd i8, ?addSp, ?addSpImm, ?subSpImm, unary signHalf, unary signByte,
    ?uxth, ?uxtb, unary reverseBytes, unary reverseHalves, unary reverseSigned⟩
  case addSp =>
    rw [← scaled i8]
    exact always_writeReg hd (low rd) fun s => s.reg 13 + imm8x4 i8
  case addSpImm =>
    rw [← scaled i7]
    exact always_writeReg hd 13 fun s => s.reg 13 + (i7.setWidth 32 <<< 2)
  case subSpImm =>
    rw [← scaled i7]
    exact always_writeReg hd 13 fun s => s.reg 13 - (i7.setWidth 32 <<< 2)
  case uxth =>
    rw [← and_low_half]
    exact unary (· &&& 0xFFFF)
  case uxtb =>
    rw [← and_low_byte]
    exact unary (· &&& 0xFF)

/-! ### Loads and stores -/

section

variable {s u : State}

/-- The address of a register and a scaled immediate. -/
theorem immAddress_eq (s : State) (rn : BitVec 3) (i : BitVec 5) (k : Nat) :
    s.immAddress rn i k = (ThumbAddress.imm rn i).value s (2 ^ k) :=
  congrArg (s.reg (low rn) + ·) (setWidth_shiftLeft i k)

theorem sp_imm8x4_eq (s : State) (i : BitVec 8) : s.reg 13 + imm8x4 i = (ThumbAddress.sp i).value s 4 :=
  congrArg (s.reg 13 + ·) (setWidth_shiftLeft i 2)

/-- A load at an address that is read from the state. -/
theorem always_thumbLoad (s : State) (ty : AccessType) (n : Nat) (ext : Word → Word) (rd : BitVec 3) (va : State → Word)
    {x : Word} (h : va s = x) :
    always (get >>= fun s => thumbLoad ty n ext rd (va s)) s = (thumbLoad ty n ext rd x).outcome s :=
  h ▸ always_get _ s

theorem always_thumbStore (s : State) (ty : AccessType) (n : Nat) (rd : BitVec 3) (va : State → Word) {x : Word}
    (h : va s = x) :
    always (get >>= fun s => thumbStore ty n rd (va s)) s = (thumbStore ty n rd x).outcome s :=
  h ▸ always_get _ s

/-- LDR relative to the PC loads at the aligned PC plus the immediate. -/
theorem exec_tLdrPc (hd : s.inDebug = false) (rd : BitVec 3) (i : BitVec 8) :
    exec (.tLdrPc rd i) s = (thumbLoad .wordLoad 4 id rd ((ThumbAddress.pc i).value s 4)).outcome s := by
  refine (outcome_bind_ok (run_thumbBase hd) _).trans ?_
  rewrite [imm8x4, setWidth_shiftLeft]
  rfl

/-- Every Thumb load of one register is a load at the address of its form. -/
theorem exec_thumbLoad {op : LoadOp} {a : ThumbAddress} {rd : BitVec 3} {i : Instr} (h : op.thumb a rd = some i)
    (hd : s.inDebug = false) :
    exec i s = (thumbLoad op.type op.bytes op.extend rd (a.value s op.bytes)).outcome s := by
  unfold LoadOp.thumb at h
  split at h <;> cases h
  case h_1 rn rm => exact always_thumbLoad s .wordLoad 4 id rd (·.sumAddress rn rm) rfl
  case h_2 rn j => exact always_thumbLoad s .wordLoad 4 id rd (·.immAddress rn j 2) (immAddress_eq s rn j 2)
  case h_3 j => exact always_thumbLoad s .wordLoad 4 id rd (fun s => s.reg 13 + imm8x4 j) (sp_imm8x4_eq s j)
  case h_4 j => exact exec_tLdrPc hd rd j
  case h_5 rn rm => exact always_thumbLoad s .half 2 id rd (·.sumAddress rn rm) rfl
  case h_6 rn j => exact always_thumbLoad s .half 2 id rd (·.immAddress rn j 1) (immAddress_eq s rn j 1)
  case h_7 rn rm => exact always_thumbLoad s .byte 1 id rd (·.sumAddress rn rm) rfl
  case h_8 rn j => exact always_thumbLoad s .byte 1 id rd (·.immAddress rn j 0) (immAddress_eq s rn j 0)
  case h_9 rn rm => exact always_thumbLoad s .byte 1 signByte rd (·.sumAddress rn rm) rfl
  case h_10 rn rm => exact always_thumbLoad s .half 2 signHalf rd (·.sumAddress rn rm) rfl

/-- Every Thumb store of one register is a store at the address of its form. -/
theorem exec_thumbStore {op : StoreOp} {a : ThumbAddress} {rd : BitVec 3} {i : Instr} (h : op.thumb a rd = some i)
    (s : State) : exec i s = (thumbStore op.type op.bytes rd (a.value s op.bytes)).outcome s := by
  unfold StoreOp.thumb at h
  split at h <;> cases h
  case h_1 rn rm => exact always_thumbStore s .wordStore 4 rd (·.sumAddress rn rm) rfl
  case h_2 rn j => exact always_thumbStore s .wordStore 4 rd (·.immAddress rn j 2) (immAddress_eq s rn j 2)
  case h_3 j => exact always_thumbStore s .wordStore 4 rd (fun s => s.reg 13 + imm8x4 j) (sp_imm8x4_eq s j)
  case h_4 rn rm => exact always_thumbStore s .half 2 rd (·.sumAddress rn rm) rfl
  case h_5 rn j => exact always_thumbStore s .half 2 rd (·.immAddress rn j 1) (immAddress_eq s rn j 1)
  case h_6 rn rm => exact always_thumbStore s .byte 1 rd (·.sumAddress rn rm) rfl
  case h_7 rn j => exact always_thumbStore s .byte 1 rd (·.immAddress rn j 0) (immAddress_eq s rn j 0)

theorem outcome_thumbLoad (hd : s.inDebug = false) {ty : AccessType} {n : Nat} {va w : Word} (hn : n ≤ ty.unit)
    (h : s.Holds ty n s.privileged va w) (ext : Word → Word) (rd : BitVec 3) :
    (thumbLoad ty n ext rd va).outcome s = .next ((s.setReg (low rd) (ext w)).goto s.nextInsn) := by
  have hp : (s.privileged && !false) = s.privileged := Bool.and_true _
  unfold thumbLoad
  rw [outcome_bind_ok (run_loadItem (user := false) hn (hp ▸ h) _), outcome_writeReg_advance hd]

theorem outcome_thumbStore (hd : s.inDebug = false) {ty : AccessType} {n : Nat} {va : Word} {rd : BitVec 3}
    (hn : n ≤ ty.unit) (h : s.StoredAs ty n s.privileged va (s.reg (low rd)) u) :
    (thumbStore ty n rd va).outcome s = .next (u.goto s.nextInsn) := by
  have hp : (s.privileged && !false) = s.privileged := Bool.and_true _
  unfold thumbStore
  rw [outcome_bind_ok (run_get s), outcome_bind_ok (run_storeItem (user := false) hn (hp ▸ h))]
  exact outcome_advance (h.sameBut.inDebug.trans hd) h.sameBut.nextInsn

end

/-- Settles O53: every row is a load or a store at the address of its form. -/
theorem thumbTransfersMoveTheItem : Obligations.ThumbTransfersMoveTheItem := by
  intro s u a rd i w hd
  refine ⟨fun op hi h => ?_, fun op hi h => ?_⟩
  · rw [exec_thumbLoad hi hd]
    exact outcome_thumbLoad hd (AbortedTransfers.loadOp_bytes_le op) h op.extend rd
  · rw [exec_thumbStore hi s]
    exact outcome_thumbStore hd (AbortedTransfers.storeOp_bytes_le op) h

/-! ### Branches -/

/-- A signed field shifted left counts in units of a power of two. -/
theorem signExtend_shiftLeft {n : Nat} (x : BitVec n) (k : Nat) :
    x.signExtend 32 <<< k = BitVec.ofInt 32 (2 ^ k * x.toInt) := by
  have htwo : BitVec.twoPow 32 k = BitVec.ofInt 32 (2 ^ k) := by
    apply BitVec.eq_of_toNat_eq
    rw [BitVec.toNat_twoPow, BitVec.toNat_ofInt]
    exact_mod_cast rfl
  rw [BitVec.shiftLeft_eq_mul_twoPow, BitVec.signExtend, Int.mul_comm, BitVec.ofInt_mul, htwo]

theorem thumbLink_add_four (pc : Word) : thumbLink (pc + 4) = (pc + 2) ||| 1 := by
  have h : pc + 4 - 2 = pc + 2 := by bv_omega
  rw [thumbLink, h]

/-- The offsets of the two halves of BL add up to the offset of their 22 bits. -/
theorem blOffset_eq (hi lo : BitVec 11) :
    BitVec.ofInt 32 (4096 * hi.toInt) + BitVec.ofNat 32 (2 * lo.toNat) = BitVec.ofInt 32 (2 * (hi ++ lo).toInt) := by
  rw [← BitVec.ofInt_natCast, ← BitVec.ofInt_add, BitVec.toInt_append, if_neg (by decide)]
  congr 1
  omega

/-- An even offset from an even address is an even address. -/
theorem even_target {pc : Word} (h : pc.getLsbD 0 = false) (k : Int) :
    (pc + 4 + BitVec.ofInt 32 (2 * k)).getLsbD 0 = false := by
  rw [← BitVec.testBit_toNat, Nat.testBit_zero, decide_eq_false_iff_not] at h ⊢
  rw [BitVec.toNat_add, BitVec.toNat_add, BitVec.toNat_ofInt]
  have h4 : (4 : Word).toNat = 4 := rfl
  omega

section

variable {s : State}

theorem reg_setReg (s : State) (n : BitVec 4) (v : Word) : (s.setReg n v).reg n = v := Vector.getElem_set_self _

theorem setReg_setReg (s : State) (n : BitVec 4) (v w : Word) : (s.setReg n v).setReg n w = s.setReg n w :=
  congrArg (fun r => { s with regs := r }) (Vector.set_set ..)

/-- In Thumb state R15 reads as the address of the instruction plus 4. -/
theorem outcome_readThumbPc (hd : s.inDebug = false) (ht : s.bitT = true) (f : Word → M Unit) :
    (readPc >>= f).outcome s = (f (s.pc + 4)).outcome s := by
  refine outcome_bind_ok ?_ f
  rewrite [run_readPc hd, ht]
  rfl

theorem exec_tBCond (hd : s.inDebug = false) (ht : s.bitT = true) {c : Cond} (hc : s.condPassed c = true) (i : BitVec 8) :
    exec (.tBCond c.toBits i) s = .next (s.goto (s.pc + 4 + BitVec.ofInt 32 (2 * i.toInt))) := by
  have he : exec (.tBCond c.toBits i) s =
      conditionalBranch c (readPc >>= fun pc => branchTo (pc + (i.signExtend 32 <<< 1))) s := by
    cases c <;> rfl
  rewrite [he, conditionalBranch_passed hc, outcome_readThumbPc hd ht, outcome_branchTo hd, signExtend_shiftLeft]
  rfl

theorem exec_tB (hd : s.inDebug = false) (ht : s.bitT = true) (i : BitVec 11) :
    exec (.tB i) s = .next (s.goto (s.pc + 4 + BitVec.ofInt 32 (2 * i.toInt))) := by
  refine (always_outcome _ s).trans ?_
  rewrite [outcome_readThumbPc hd ht, outcome_branchTo hd, signExtend_shiftLeft]
  rfl

theorem exec_tBx (hd : s.inDebug = false) (m : Bool) (rm : BitVec 3) :
    exec (.tBx m rm 0) s = s.interwork (s.operand (high m rm)) := by
  refine (always_outcome _ s).trans ?_
  rw [outcome_shouldBe (by rfl), outcome_readOperand hd, outcome_bxWritePc hd]

theorem exec_tBlxReg (hd : s.inDebug = false) (ht : s.bitT = true) {m : Bool} {rm : BitVec 3} (hm : high m rm ≠ 15) :
    exec (.tBlxReg m rm 0) s = (s.setReg 14 ((s.pc + 2) ||| 1)).interwork (s.operand (high m rm)) := by
  refine (always_outcome _ s).trans ?_
  rw [outcome_shouldBe (by rfl), outcome_unpredictableIf (beq_eq_false_iff_ne.2 hm), outcome_readOperand hd,
    outcome_readThumbPc hd ht, outcome_bind_ok (run_writeReg 14 _ s), outcome_bxWritePc (by exact hd), thumbLink_add_four]

theorem exec_tBlFirst (hd : s.inDebug = false) (ht : s.bitT = true) (i : BitVec 11) :
    exec (.tBlFirst i) s = .next ((s.setReg 14 (s.pc + 4 + BitVec.ofInt 32 (4096 * i.toInt))).goto s.nextInsn) := by
  refine (always_outcome _ s).trans ?_
  rewrite [outcome_readThumbPc hd ht, outcome_writeReg_advance hd, signExtend_shiftLeft]
  rfl

theorem exec_tBlSecond (hd : s.inDebug = false) (ht : s.bitT = true) (i : BitVec 11) :
    exec (.tBlSecond i) s =
      .next ((s.setReg 14 ((s.pc + 2) ||| 1)).goto ((s.reg 14 + BitVec.ofNat 32 (2 * i.toNat)) &&& 0xFFFFFFFE)) := by
  refine (always_get _ s).trans ?_
  rewrite [outcome_readThumbPc hd ht, outcome_bind_ok (run_writeReg 14 _ s), outcome_branchTo (by exact hd), thumbLink_add_four,
    setWidth_shiftLeft]
  rfl

theorem exec_tBlxSecond (hd : s.inDebug = false) (ht : s.bitT = true) (i : BitVec 10) :
    exec (.tBlxSecond i) s = .next (((s.setReg 14 ((s.pc + 2) ||| 1)).setT false).goto
      ((s.reg 14 + BitVec.ofNat 32 (4 * i.toNat)) &&& 0xFFFFFFFC)) := by
  refine (always_get _ s).trans ?_
  rewrite [outcome_readThumbPc hd ht, outcome_bind_ok (run_writeReg 14 _ s), outcome_bind_ok (run_modify _ _),
    outcome_branchTo (by exact hd), thumbLink_add_four, setWidth_shiftLeft]
  rfl

/-- The second half of BL, run where the first half went on, branches to the target of both. -/
theorem exec_tBl (hd : s.inDebug = false) (ht : s.bitT = true) (hpc : s.pc.getLsbD 0 = false) (hi lo : BitVec 11) :
    exec (.tBlSecond lo) ((s.setReg 14 (s.pc + 4 + BitVec.ofInt 32 (4096 * hi.toInt))).goto s.nextInsn) =
      .next ((s.setReg 14 ((s.pc + 4) ||| 1)).goto (s.pc + 4 + BitVec.ofInt 32 (2 * (hi ++ lo).toInt))) := by
  have hnext : s.nextInsn + 2 = s.pc + 4 := by
    have hl : s.ilen = 2 := if_pos ht
    rw [State.nextInsn, hl]
    bv_omega
  have hreg : State.reg ((s.setReg 14 (s.pc + 4 + BitVec.ofInt 32 (4096 * hi.toInt))).goto s.nextInsn) 14 =
      s.pc + 4 + BitVec.ofInt 32 (4096 * hi.toInt) := reg_setReg s 14 _
  rw [exec_tBlSecond (by exact hd) (by exact ht), hreg, BitVec.add_assoc (s.pc + 4), blOffset_eq,
    clear_bit0_of_clear (even_target hpc _)]
  show Host.Outcome.next ((((s.setReg 14 _).setReg 14 ((s.nextInsn + 2) ||| 1)).goto _)) = _
  rw [setReg_setReg, hnext]

end

/-- Settles O55: each branch goes to its sum or interworks to its register, and the second half of BL goes on from the first. -/
theorem thumbBranchesGoToTheirTarget : Obligations.ThumbBranchesGoToTheirTarget := by
  intro s c m rm i8 i10 i11 hi lo hd ht v back into
  refine ⟨fun hc => exec_tBCond hd ht hc i8, exec_tB hd ht i11, fun hlow => ⟨?bx, fun hm => ?blx⟩,
    fun hlow => ⟨?bxStops, fun hm => ?blxStops⟩, exec_tBlFirst hd ht i11, exec_tBlSecond hd ht i11, exec_tBlxSecond hd ht i10,
    fun hpc => ⟨_, exec_tBlFirst hd ht hi, exec_tBl hd ht hpc hi lo⟩⟩
  case bx => exact (exec_tBx hd m rm).trans (interwork_of_low_ne_10 hlow s)
  case blx => exact (exec_tBlxReg hd ht hm).trans (interwork_of_low_ne_10 hlow (s.setReg 14 back))
  case bxStops => exact (exec_tBx hd m rm).trans (interwork_of_low_eq_10 hlow s)
  case blxStops => exact (exec_tBlxReg hd ht hm).trans (interwork_of_low_eq_10 hlow (s.setReg 14 back))

end Sys2Proof.ThumbInstructions


/-!
Exceptions and reset: what taking an exception writes, which instructions and which steps take one, and the state a reset
leaves (60_exceptions.md R1600 to R1640, 70_reset_and_hazards.md R1950 to R1953).
-/
namespace Sys2Proof.ExceptionEntry

open Sys2Proof Sys2Proof.Machine Sys2Proof.DataProcessing Sys2Proof.SystemControl Sys2Proof.BlockTransfers

/-! ### The status at an entry -/

/-- The bits of the status at an entry, the mode apart: T and J clear, I set, F and A set or kept, E new, the others kept. -/
theorem entryCpsr_getLsbD (old : Word) (m : Mode) (setA setF ee : Bool) {j : Nat} (hj : 5 ≤ j) :
    (entryCpsr old m setA setF ee).getLsbD j =
      if j = 9 then ee else if j = 8 then setA || old.getLsbD 8 else if j = 7 then true
      else if j = 6 then setF || old.getLsbD 6 else if j = 24 ∨ j = 5 then false else old.getLsbD j := by
  have hmode : (setField old 0 m.toBits).getLsbD j = old.getLsbD j := by
    rw [setField_getLsbD old 0 m.toBits (by decide), if_neg (by omega)]
  cases setA <;> cases setF <;>
    simp only [entryCpsr, setBit_getLsbD, hmode, Bool.false_eq_true, if_true, if_false, Bool.true_or, Bool.false_or, Nat.reduceLT] <;>
    grind

theorem entryCpsr_mode (old : Word) (m : Mode) (setA setF ee : Bool) :
    (entryCpsr old m setA setF ee).extractLsb' 0 5 = m.toBits := by
  refine BitVec.eq_of_getLsbD_eq fun i hi => ?_
  have hmode : (setField old 0 m.toBits).getLsbD i = m.toBits.getLsbD i := by
    rw [setField_getLsbD old 0 m.toBits (by decide), if_pos (by omega), Nat.sub_zero]
  have hne : i ≠ 9 ∧ i ≠ 8 ∧ i ≠ 7 ∧ i ≠ 6 ∧ i ≠ 24 ∧ i ≠ 5 := by omega
  obtain ⟨h9, h8, h7, h6, h24, h5⟩ := hne
  rw [BitVec.getLsbD_extractLsb', decide_eq_true hi, Bool.true_and, Nat.zero_add]
  cases setA <;> cases setF <;>
    simp only [entryCpsr, setBit_getLsbD, hmode, Bool.false_eq_true, if_true, if_false, Nat.reduceLT, h9, h8, h7, h6, h24, h5]

/-! ### The state after an entry -/

/-- The mode an exception enters. -/
def entryMode (kind : Exn) (mon : Bool) : Mode := if mon then .mon else kind.mode

/-- The world the exception is taken from, as its vector and its masks see it: Secure Monitor mode is Secure. -/
def entryNs (s : State) : Bool := s.scrNs && s.mode != .mon

/-- SCR after an entry: one from Secure Monitor mode clears NS (60_exceptions.md R1605). -/
def entryScr (s : State) : Word := if s.mode = .mon then setBit s.cp15.scr 0 false else s.cp15.scr

/-- Does the entry set F (60_exceptions.md R1604)? -/
def setsF (s : State) (kind : Exn) : Bool := kind == .fiq && (!entryNs s || s.cp15.scr.getLsbD 4)

/-- Does the entry set A (60_exceptions.md R1604)? -/
def setsA (s : State) (kind : Exn) : Bool :=
  (kind == .pabt || kind == .dabt || kind == .irq || kind == .fiq) && (!entryNs s || s.cp15.scr.getLsbD 5)

/-- Where the entry goes (60_exceptions.md R1600, R1603, R1633). -/
def entryPc (s : State) (kind : Exn) (mon : Bool) : Word :=
  if mon then s.cp15.monVector kind.offset
  else if kind = .irq ∧ (s.cp15.sctlr (entryNs s)).getLsbD 24 = true then s.pins.irqAddr &&& 0xFFFFFFFC
  else s.cp15.vector (entryNs s) kind.offset

theorem entryScr_getLsbD_0 (s : State) : (entryScr s).getLsbD 0 = entryNs s := by
  unfold entryScr entryNs
  by_cases h : s.mode = .mon
  · rw [if_pos h, setBit_getLsbD _ _ _ _ (by decide), if_pos rfl, h, bne_self_eq_false, Bool.and_false]
  · rewrite [if_neg h, bne_iff_ne.2 h, Bool.and_true]
    rfl

theorem entryScr_getLsbD (s : State) {k : Nat} (hk : k ≠ 0) : (entryScr s).getLsbD k = s.cp15.scr.getLsbD k := by
  unfold entryScr
  split
  · rw [setBit_getLsbD _ _ _ _ (by decide), if_neg hk]
  · rfl

/-- Taking an exception, by what it writes. -/
theorem takeException_eq (s : State) (kind : Exn) (ret : Word) (mon : Bool) :
    s.takeException kind ret mon =
      { (s.setRegOf (entryMode kind mon) 14 ret).setSpsrOf (entryMode kind mon) s.cpsr with
        cp15 := { s.cp15 with scr := entryScr s }
        cpsr := entryCpsr s.cpsr (entryMode kind mon) (mon || setsA s kind) (mon || setsF s kind)
          ((s.cp15.sctlr (!mon && entryNs s)).getLsbD 25)
        pc := entryPc s kind mon } := by
  have hscr : (if (s.mode == .mon) = true then setBit s.cp15.scr 0 false else s.cp15.scr) = entryScr s := by
    simp only [entryScr, beq_iff_eq]
  have hns := entryScr_getLsbD_0 s
  cases mon with
  | true =>
    unfold State.takeException
    rewrite [hscr]
    rfl
  | false =>
    unfold State.takeException
    rw [hscr]
    simp only [Bool.false_eq_true, if_false, hns, entryScr_getLsbD s (show 4 ≠ 0 by decide),
      entryScr_getLsbD s (show 5 ≠ 0 by decide), entryPc, Bool.and_eq_true, beq_iff_eq]
    rfl

theorem takeException_cpsr (s : State) (kind : Exn) (ret : Word) (mon : Bool) :
    (s.takeException kind ret mon).cpsr = entryCpsr s.cpsr (entryMode kind mon) (mon || setsA s kind) (mon || setsF s kind)
      ((s.cp15.sctlr (!mon && entryNs s)).getLsbD 25) := by
  rw [takeException_eq]

theorem takeException_modeBits (s : State) (kind : Exn) (ret : Word) (mon : Bool) :
    (s.takeException kind ret mon).modeBits = (entryMode kind mon).toBits := by
  rw [State.modeBits, takeException_cpsr, entryCpsr_mode]

/-- The bits of the status above the mode. -/
theorem takeException_cpsr_getLsbD (s : State) (kind : Exn) (ret : Word) (mon : Bool) {j : Nat} (hj : 5 ≤ j) :
    (s.takeException kind ret mon).cpsr.getLsbD j =
      if j = 9 then (s.cp15.sctlr (!mon && entryNs s)).getLsbD 25 else if j = 8 then (mon || setsA s kind) || s.bitA
      else if j = 7 then true else if j = 6 then (mon || setsF s kind) || s.bitF
      else if j = 24 ∨ j = 5 then false else s.cpsr.getLsbD j := by
  rewrite [takeException_cpsr, entryCpsr_getLsbD _ _ _ _ _ hj]
  rfl

/-- The bits an entry leaves. -/
theorem takeException_cpsr_kept (s : State) (kind : Exn) (ret : Word) (mon : Bool) {j : Nat} (hj : 10 ≤ j) (h24 : j ≠ 24) :
    (s.takeException kind ret mon).cpsr.getLsbD j = s.cpsr.getLsbD j := by
  rw [takeException_cpsr_getLsbD s kind ret mon (by omega), if_neg (by omega), if_neg (by omega), if_neg (by omega),
    if_neg (by omega), if_neg (by omega)]

theorem takeException_ge (s : State) (kind : Exn) (ret : Word) (mon : Bool) :
    (s.takeException kind ret mon).ge = s.ge := by
  refine BitVec.eq_of_getLsbD_eq fun i hi => ?_
  rw [State.ge, State.ge, BitVec.getLsbD_extractLsb', BitVec.getLsbD_extractLsb',
    takeException_cpsr_kept s kind ret mon (by omega) (by omega)]

theorem takeException_nzcv (s : State) (kind : Exn) (ret : Word) (mon : Bool) :
    (s.takeException kind ret mon).nzcv = s.nzcv := by
  have kept {j : Nat} (hj : 10 ≤ j) (h24 : j ≠ 24) := takeException_cpsr_kept s kind ret mon hj h24
  simp only [State.nzcv, State.flagN, State.flagZ, State.flagC, State.flagV, Nzcv.mk.injEq]
  exact ⟨kept (by decide) (by decide), kept (by decide) (by decide), kept (by decide) (by decide), kept (by decide) (by decide)⟩

theorem takeException_regs (s : State) (kind : Exn) (ret : Word) (mon : Bool) :
    (s.takeException kind ret mon).regs = s.regs.set (regSlot (entryMode kind mon) 14) ret := by
  rw [takeException_eq]
  exact State.setSpsrOf_regs ..

/-- The SPSR of the mode entered takes the status; User and System mode have none. -/
theorem setSpsrOf_spsr (s : State) (m : Mode) (v : Word) (k : Fin 6) :
    (s.setSpsrOf m v).spsr[k] = if spsrSlot m = some k then v else s.spsr[k] := by
  unfold State.setSpsrOf
  cases hk : spsrSlot m with
  | none => rfl
  | some j =>
    by_cases hjk : j = k
    · subst hjk
      rw [if_pos rfl]
      exact Vector.getElem_set_self _
    · rw [if_neg (fun h => hjk (Option.some.inj h))]
      exact Vector.getElem_set_ne j.isLt k.isLt (fun h => hjk (Fin.ext h))

theorem takeException_spsr (s : State) (kind : Exn) (ret : Word) (mon : Bool) (k : Fin 6) :
    (s.takeException kind ret mon).spsr[k] = if spsrSlot (entryMode kind mon) = some k then s.cpsr else s.spsr[k] := by
  rw [takeException_eq]
  exact setSpsrOf_spsr ..

theorem takeException_pc (s : State) (kind : Exn) (ret : Word) (mon : Bool) :
    (s.takeException kind ret mon).pc = entryPc s kind mon := by
  rw [takeException_eq]

/-- Settles O13: an entry is the write of R14, of the SPSR, of NS, of the status and of the PC. -/
theorem takingAnExceptionSavesAndVectors : Obligations.TakingAnExceptionSavesAndVectors := by
  intro s kind ret mon _ t m ns scr
  have bit {j : Nat} (hj : 5 ≤ j) := takeException_cpsr_getLsbD s kind ret mon hj
  refine ⟨takeException_modeBits s kind ret mon, ?r14, ?spsrSaved, bit (by decide), bit (by decide), bit (by decide), ?bitF, ?bitA,
    bit (by decide), ?cp15, takeException_pc s kind ret mon, takeException_nzcv s kind ret mon,
    takeException_cpsr_kept s kind ret mon (by decide) (by decide), takeException_ge s kind ret mon, ?regsKept, ?spsrKept,
    State.takeException_mem .., ?tcm, State.takeException_monitors .., State.takeException_dbg ..⟩
  case r14 => exact (congrArg (·[regSlot m 14]) (takeException_regs s kind ret mon)).trans (Vector.getElem_set_self _)
  case spsrSaved => exact fun k hk => (takeException_spsr s kind ret mon k).trans (if_pos hk)
  case bitF => exact (bit (by decide)).trans ((Bool.or_comm _ _).trans (Bool.or_assoc _ _ _).symm)
  case bitA => exact (bit (by decide)).trans ((Bool.or_comm _ _).trans (Bool.or_assoc _ _ _).symm)
  case cp15 => exact congrArg State.cp15 (takeException_eq s kind ret mon)
  case regsKept =>
    intro k hk
    exact (congrArg (·[k]) (takeException_regs s kind ret mon)).trans
      (Vector.getElem_set_ne (regSlot m 14).isLt k.isLt fun h => hk (Fin.ext h.symm))
  case spsrKept => exact fun k hk => (takeException_spsr s kind ret mon k).trans (if_neg hk)
  case tcm => exact fun k => by cases k <;> simp [t, State.tcmCells]

/-! ### Calls and breakpoints -/

section

variable {s : State}

theorem run_raise {α : Type} (hd : s.inDebug = false) (kind : Exn) (ret : State → Word) (mon : State → Bool) :
    (raise kind ret mon : M α).run s = .error .taken (s.takeException kind (ret s) (mon s)) := by
  simp only [raise, run_bind, run_modify, run_throw, hd, Bool.false_eq_true, if_false]

theorem outcome_raise (hd : s.inDebug = false) (kind : Exn) (ret : State → Word) (mon : State → Bool) :
    (raise kind ret mon : M Unit).outcome s = .next (s.takeException kind (ret s) (mon s)) :=
  outcome_taken (run_raise hd kind ret mon)

/-- SMC is Undefined in User mode. -/
theorem exec_smc (hd : s.inDebug = false) {c : Cond} (hc : s.condPassed c = true) (imm12 : BitVec 12) (imm4 : BitVec 4) :
    exec (.smc c imm12 imm4) s =
      .next (if s.privileged then s.takeException .smc s.nextInsn true else s.undefinedEntry) := by
  refine (conditional_passed hc _).trans ((outcome_bind_ok (run_get s) _).trans ?_)
  cases hp : s.privileged with
  | true =>
    exact (outcome_bind_ok (a := ()) (t := s) rfl _).trans (outcome_raise hd .smc State.nextInsn fun _ => true)
  | false =>
    have hu' : (undefinedIf (!false && !s.inDebug)).run s = .error .taken s.undefinedEntry := by
      rw [hd]
      exact run_raiseUndefined hd
    exact outcome_then_taken hu' _

/-- A BKPT where no debug event is taken is a Prefetch Abort. -/
theorem softwareBreakpoint_none (hd : s.inDebug = false) (h : s.debugPermitted = false ∨ s.dbgMode = .none) :
    s.softwareBreakpoint = s.debugPrefetchAbort := by
  have he : s.codeEvent .bkpt = none := by
    unfold State.codeEvent
    rcases h with h | h
    · rewrite [h]
      rfl
    · rw [h]
      cases s.debugPermitted <;> rfl
  rewrite [State.softwareBreakpoint, hd, he]
  rfl

theorem exec_bkpt (s : State) (imm12 : BitVec 12) (imm4 : BitVec 4) :
    exec (.bkpt .al imm12 imm4) s = .next s.softwareBreakpoint := rfl

theorem exec_tBkpt (s : State) (imm8 : BitVec 8) : exec (.tBkpt imm8) s = .next s.softwareBreakpoint := rfl

end

/-- Settles O14: each of the three raises its exception, BKPT by the Prefetch Abort that stands for it. -/
theorem callsAndBreakpointsTakeTheirException : Obligations.CallsAndBreakpointsTakeTheirException := by
  intro s c imm24 imm12 imm4 imm8 hd
  refine ⟨fun hc => (conditional_passed hc _).trans (outcome_raise hd _ _ _), outcome_raise hd .svc State.nextInsn fun _ => false,
    fun hc hp => ?smc,
fun hc hp => ?smcUser, fun hb => ?bkpt⟩
  case smc => rw [exec_smc hd hc, hp, if_pos rfl]
  case smcUser => rw [exec_smc hd hc, hp, if_neg Bool.false_ne_true]
  case bkpt =>
    intro t
    rw [exec_bkpt, exec_tBkpt, softwareBreakpoint_none hd hb]
    exact ⟨rfl, rfl⟩

/-! ### Asynchronous exceptions -/

section

variable {s u : State}

/-- A step that ends before its fetch, by an interrupt. -/
theorem step_interrupt (hb : s.Between) {t : State} (h : s.takeInterrupt = .done t) : step s = .next (t.idleStep s.pmuEnables) := by
  rewrite [step_between hb, h]
  rfl

theorem takeInterrupt_fiq (hd : s.dbg.dscr.getLsbD 11 = false) (hp : s.pins.nFIQ = false) (hf : s.bitF = false) :
    s.takeInterrupt = .done s.takeFiq := by
  simp only [State.takeInterrupt, hd, hp, hf, Bool.not_false, Bool.and_self, Bool.false_eq_true, if_false, if_true]

/-- An unmasked IRQ waits for the VIC port where it uses it and has no address yet, and is taken otherwise. -/
theorem takeInterrupt_irq (hd : s.dbg.dscr.getLsbD 11 = false) (hf : s.pins.nFIQ = true ∨ s.bitF = true)
    (hp : s.pins.nIRQ = false) (hi : s.bitI = false) :
    s.takeInterrupt = .done (if s.usesVic && !s.pins.irqAddrV then { s with irqAck := true } else s.takeIrq) := by
  have hfiq : (!s.pins.nFIQ && !s.bitF) = false := by rcases hf with h | h <;> simp [h]
  simp only [State.takeInterrupt, hd, hfiq, hp, hi, Bool.false_eq_true, if_false, Bool.not_false, Bool.and_self, if_true]
  split <;> rfl

/-- Without the VIC port an IRQ is taken as it is. -/
theorem takeIrq_plain (ha : s.irqAck = false) (hv : s.usesVic = false) :
    s.takeIrq = s.takeException .irq (s.pc + 4) (s.cp15.scr.getLsbD 1) := by
  have hs : { s with irqAck := false } = s := by rw [← ha]
  simp only [State.takeIrq, hv, Bool.not_false, if_true, hs]

/-- With the VIC port IRQADDR gives the address: the trace and the handshake are what the entry changes besides. -/
theorem takeIrq_eq_entry (hscr : s.cp15.scr.getLsbD 1 = false) :
    ∃ v : State, s.takeIrq = v.takeException .irq (s.pc + 4) false ∧ v.cp15 = s.cp15 ∧ v.cpsr = s.cpsr ∧ v.pins = s.pins := by
  unfold State.takeIrq
  rw [← hscr]
  cases s.usesVic with
  | false => exact ⟨_, rfl, rfl, rfl, rfl⟩
  | true => cases s.exceptionNs <;> exact ⟨_, rfl, rfl, rfl, rfl⟩

/-- With the VIC port an IRQ goes to IRQ mode at IRQADDR. -/
theorem takeIrq_vic (hv : s.usesVic = true) :
    s.takeIrq.modeBits = Mode.irq.toBits ∧ s.takeIrq.pc = s.pins.irqAddr &&& 0xFFFFFFFC := by
  obtain ⟨hscr, hve⟩ := Bool.and_eq_true_iff.1 hv
  obtain ⟨v, heq, hcp15, hcpsr, hpins⟩ := takeIrq_eq_entry (Bool.not_eq_true' _ ▸ hscr)
  have hns : entryNs v = s.exceptionNs := by
    simp only [entryNs, State.scrNs, State.mode, State.modeBits, hcp15, hcpsr]
    exact Bool.and_comm _ _
  have hve' : (v.cp15.sctlr (entryNs v)).getLsbD 24 = true := by
    rw [hcp15, hns]
    exact hve
  rw [heq]
  refine ⟨takeException_modeBits .., (takeException_pc ..).trans ?_⟩
  rw [← hpins]
  exact if_pos (And.intro rfl hve')

theorem mode_of_modeBits {m : Mode} (h : s.modeBits = m.toBits) : s.mode = m := by
  rw [State.mode, h]
  cases m <;> rfl

/-- The fault status of an imprecise Data Abort. -/
theorem fsrValue_imprecise (write slverr : Bool) :
    fsrValue 0b10110 0 write slverr = 0x406 ||| (if write then 0x800 else 0) ||| (if slverr then 0x1000 else 0) := by
  cases write <;> cases slverr <;> rfl

/-- Where no interrupt is taken, an unmasked imprecise Data Abort is taken after the fetch. -/
theorem step_imprecise (hb : s.Between) (hi : s.NoInterrupt) {w : Words} (hf : fetchInsn s = .ok (.ok w) u)
    (hA : u.bitA = false) {a : ImpreciseAbort} (ha : u.pendingAbort = some a) :
    step s = .next ((u.takeImprecise a).idleStep s.pmuEnables) := by
  have hafter : u.afterFetch = .done (u.takeImprecise a) := by
    simp only [State.afterFetch, hA, ha, Bool.false_eq_true, if_false]
  simp only [step_between hb, takeInterrupt_none hi, Decision.andThen, State.fetchAndRun, hf, hafter]

end

/-- Settles O12: the interrupts end the step before its fetch, the imprecise Data Abort after it. -/
theorem stepTakesAsynchronousExceptions : Obligations.StepTakesAsynchronousExceptions := by
  intro s hb ends
  refine ⟨fun hd => ⟨fun hp hf => ?fiq, fun hfiq hp hi => ?irq⟩, fun w u a hi hf hA ha => ?imprecise⟩
  case fiq => exact step_interrupt hb (takeInterrupt_fiq hd hp hf)
  case irq =>
    have hirq := step_interrupt hb (takeInterrupt_irq hd hfiq hp hi)
    refine ⟨fun hv => ?plain, fun hv hw => ?waits, fun hv hw => ?vic⟩
    case plain =>
      rw [hv, Bool.false_and, if_neg Bool.false_ne_true, takeIrq_plain hb.noWait hv] at hirq
      exact hirq
    case waits =>
      rw [hv, hw] at hirq
      exact hirq
    case vic =>
      rw [hv, hw, Bool.not_true, Bool.and_false, if_neg Bool.false_ne_true] at hirq
      obtain ⟨hmode, hpc⟩ := takeIrq_vic hv
      refine ⟨_, hirq, mode_of_modeBits ?_, ?_⟩
      · rw [State.modeBits, State.idleStep_cpsr]
        exact hmode
      · rw [State.idleStep_pc]
        exact hpc
  case imprecise =>
    intro toMonitor ns
    rewrite [step_imprecise hb hi hf hA ha, State.takeImprecise, fsrValue_imprecise]
    rfl

/-! ### Reset -/

/-- Settles O7: the values are those of the literal of the reset state. -/
theorem resetIsWellFormedWithTheStatedValues : Obligations.ResetIsWellFormedWithTheStatedValues :=
  ⟨⟨State.memoryOk_reset, rfl, rfl, fun _ => rfl⟩, rfl, rfl, rfl, rfl, rfl, rfl, rfl, rfl, rfl, rfl, rfl, rfl, rfl⟩

/-- The Control Register of either world after a reset: the MMU off, the vectors where VINITHI says. -/
theorem resetCp15_sctlr (p : Pins) (ns : Bool) :
    ((resetCp15 p).sctlr ns).getLsbD 0 = false ∧ ((resetCp15 p).sctlr ns).getLsbD 13 = p.vinithi := by
  have hbank : (resetCp15 p).bank ns = resetBanked p := by cases ns <;> rfl
  rw [Cp15.sctlr, hbank]
  simp only [resetBanked, resetCp15, resetSctlr]
  generalize p.vinithi = v
  generalize p.ubitinit = u
  generalize p.bigendinit = b
  revert v u b
  decide

/-- The status after a reset: Supervisor mode in ARM state, A, I and F set, E as the pins say. -/
theorem resetCpsr_bits (p : Pins) :
    (resetCpsr p).extractLsb' 0 5 = 0b10011 ∧ (resetCpsr p).getLsbD 8 = true ∧ (resetCpsr p).getLsbD 7 = true ∧
      (resetCpsr p).getLsbD 6 = true ∧ (resetCpsr p).getLsbD 5 = false ∧ (resetCpsr p).getLsbD 24 = false ∧
      (resetCpsr p).getLsbD 9 = (p.ubitinit && p.bigendinit) := by
  simp only [resetCpsr]
  generalize (p.ubitinit && p.bigendinit) = e
  revert e
  decide

theorem step_releaseReset {s : State} {k : ResetKind} {rest : List Event} (ha : s.agenda = .releaseReset :: rest)
    (hk : s.activity = .heldInReset k) : step s = .next ({ s with agenda := rest }.applyReset k) := by
  simp only [step, State.stepOne, ha, State.event, State.releaseReset, hk]

/-- Settles O8: the step is the reset of its kind, which writes the reset values and keeps memory and the pins. -/
theorem releasingResetBeginsAtTheResetVector : Obligations.ReleasingResetBeginsAtTheResetVector := by
  intro s k rest ha hk
  obtain ⟨hmode, hA, hI, hF, hT, hJ, hE⟩ := resetCpsr_bits s.pins
  refine ⟨_, step_releaseReset ha hk, rfl, rfl, rfl, hmode, hA, hI, hF, hT, hJ, hE, rfl, fun ns => resetCp15_sctlr s.pins ns,
    fun j => ?tlb, rfl, rfl, rfl, rfl, rfl, rfl, rfl, rfl⟩
  case tlb => exact congrArg TlbEntry.valid (Vector.getElem_replicate j.isLt)

end Sys2Proof.ExceptionEntry


/-!
The debug communication channel, by coprocessor 14 and by the DBGTAP (61_debug.md R1720 to R1732, 46_coproc_system.md R1430,
63_dbgtap.md R1800).
-/
namespace Sys2Proof.DebugChannel

open Sys2Proof Sys2Proof.Machine Sys2Proof.DataProcessing Sys2Proof.SystemControl Sys2Proof.BlockTransfers
  Sys2Proof.ThumbInstructions

/-! ### Register transfers with coprocessor 14 -/

section

variable {s t : State} {c : Cond} {op1 op2 : BitVec 3} {crn crm rd : BitVec 4} {r : Cp14Reg}

/-- Outside Debug state a privileged mode reaches the DTR. -/
theorem dtr_allowed (hd : s.inDebug = false) (hp : s.privileged = true) (write : Bool) :
    Cp14Reg.dtr.allowed s write = true := by
  rewrite [Cp14Reg.allowed, hd, hp]
  rfl

/-- Outside Debug state a privileged mode reads the DSCR. -/
theorem dscr_allowed (hd : s.inDebug = false) (hp : s.privileged = true) : Cp14Reg.dscr.allowed s false = true := by
  rewrite [Cp14Reg.allowed, hd, hp]
  rfl

theorem run_writeCp14 (hd : s.inDebug = false) (hr : Cp14Reg.select op1 crn crm op2 = some r) (ha : r.allowed s true = true)
    (hrd : rd ≠ 15) : (writeCp14 op1 crn crm op2 rd).run s = .ok () (s.cp14Write r (s.reg rd)) := by
  simp only [writeCp14, run_bind, run_get, hr, ha, beq_eq_false_iff_ne.2 hrd, Bool.not_true, Bool.or_self, run_undefinedIf hd,
    Bool.false_eq_true, if_false, run_modify]

/-- The state after a read of a debug register: a read of the DTR empties it. -/
def afterRead (s : State) (r : Cp14Reg) : State := if r == .dtr then s.rdtrRead else s

theorem run_readCp14 (hd : s.inDebug = false) (hr : Cp14Reg.select op1 crn crm op2 = some r) (ha : r.allowed s false = true) :
    (readCp14 op1 crn crm op2).run s = .ok (r, s.cp14Value r) (afterRead s r) := by
  simp only [readCp14, run_bind, run_get, hr, ha, Bool.not_true, run_undefinedIf hd, Bool.false_eq_true, if_false, afterRead]
  cases r == .dtr <;> rfl

/-- An MCR to coprocessor 14 writes the register, and the next instruction follows. -/
theorem exec_mcr14 (h : s.Passes c) (hr : Cp14Reg.select op1 crn crm op2 = some r) (ha : r.allowed s true = true)
    (hrd : rd ≠ 15) (ht : s.cp14Write r (s.reg rd) = t) (hd : t.inDebug = false) (hn : t.nextInsn = s.nextInsn) :
    exec (.mcr c op1 crn rd 14 op2 crm) s = .next (t.goto s.nextInsn) :=
  (conditional_passed h.2 _).trans (outcome_then_advance (ht ▸ run_writeCp14 h.1 hr ha hrd) hd hn)

/-- An MRC from coprocessor 14 reads the register, and then writes its destination. -/
theorem exec_mrc14 (h : s.Passes c) (hr : Cp14Reg.select op1 crn crm op2 = some r) (ha : r.allowed s false = true) :
    exec (.mrc c op1 crn rd 14 op2 crm) s =
      (finishMrc14 rd r (s.cp14Value r) >>= fun _ => advance).outcome (afterRead s r) :=
  (conditional_passed h.2 _).trans (outcome_bind_ok (run_readCp14 h.1 hr ha) _)

theorem outcome_finishMrc14 (hd : s.inDebug = false) (hrd : rd ≠ 15) (v : Word) :
    (finishMrc14 rd r v >>= fun _ => advance).outcome s = .next ((s.setReg rd v).goto s.nextInsn) := by
  rw [finishMrc14, if_neg hrd]
  exact outcome_then_advance (run_writeReg _ _ _) hd rfl

/-! ### Loads and stores of the channel -/

variable {p u w : Bool} {rn : BitVec 4}

theorem outcome_dtrOnly (hd : s.inDebug = false) (hp : s.privileged = true) (f : Unit → M Unit) :
    (dtrOnly 14 5 >>= f).outcome s = (f ()).outcome s := by
  refine outcome_bind_ok ?_ f
  simp only [dtrOnly, run_bind, run_get, dtr_allowed hd hp, beq_self_eq_true, Bool.and_self, Bool.not_true, run_undefinedIf hd,
    Bool.false_eq_true, if_false]

theorem outcome_baseAllowed (h : rn = 15 → w = false) (f : Unit → M Unit) :
    (unpredictableIf (rn == 15 && w) >>= f).outcome s = (f ()).outcome s := by
  refine outcome_unpredictableIf ?_ s f
  rw [Bool.and_eq_false_imp]
  exact fun hb => h (eq_of_beq hb)

/-- The offset of addressing mode 5 counts words. -/
theorem mode5_eq (base : Word) (imm8 : BitVec 8) :
    mode5 ⟨p, u, w⟩ base imm8 =
      let offaddr := if u then base + BitVec.ofNat 32 (4 * imm8.toNat) else base - BitVec.ofNat 32 (4 * imm8.toNat)
      { addr := if p then offaddr else base, wb := if w then some offaddr else none } := by
  rewrite [mode5, setWidth_shiftLeft]
  rfl

theorem outcome_writeBack_last (hd : s.inDebug = false) (a v : Word) :
    (writeBack rn { addr := a, wb := if w then some v else none } >>= fun _ => advance).outcome s =
      .next ((withBlockBase s w rn v).goto s.nextInsn) := by
  cases w with
  | false => exact outcome_advance hd rfl
  | true => exact outcome_then_advance (run_writeReg _ _ _) hd rfl

variable {imm8 : BitVec 8} {offaddr : Word}

theorem exec_ldc (h : s.Passes c) (hp : s.privileged = true) (hw : rn = 15 → w = false) (n : Bool)
    (ho : offaddr = if u then s.operand rn + BitVec.ofNat 32 (4 * imm8.toNat) else s.operand rn - BitVec.ofNat 32 (4 * imm8.toNat))
    {v : Word} (hv : s.Holds .multi 4 true (if p then offaddr else s.operand rn) v) :
    exec (.ldc c p u n w rn 5 14 imm8) s = .next ((withBlockBase (s.wdtrWrite v) w rn offaddr).goto s.nextInsn) := by
  subst ho
  have hl := run_loadItem (t := .multi) (n := 4) (user := false) (by decide) (by rwa [hp]) false
  refine (conditional_passed h.2 _).trans ((outcome_dtrOnly h.1 hp _).trans ((outcome_baseAllowed hw _).trans
    ((outcome_bind_ok (run_readReg_operand h.1 rn) _).trans ?_)))
  rw [mode5_eq]
  exact (outcome_bind_ok hl _).trans ((outcome_bind_ok (run_modify _ _) _).trans (outcome_writeBack_last (s := s.wdtrWrite v) h.1 _ _))

theorem exec_stc (h : s.Passes c) (hp : s.privileged = true) (hw : rn = 15 → w = false) (n : Bool)
    (ho : offaddr = if u then s.operand rn + BitVec.ofNat 32 (4 * imm8.toNat) else s.operand rn - BitVec.ofNat 32 (4 * imm8.toNat))
    (ht : s.StoredAs .multi 4 true (if p then offaddr else s.operand rn) s.dbg.rdtr t) :
    exec (.stc c p u n w rn 5 14 imm8) s = .next ((withBlockBase t.rdtrRead w rn offaddr).goto s.nextInsn) := by
  subst ho
  have hs := run_storeItem (t := .multi) (n := 4) (user := false) (by decide) (by rwa [hp])
  have same := ht.sameBut
  refine (conditional_passed h.2 _).trans ((outcome_dtrOnly h.1 hp _).trans ((outcome_baseAllowed hw _).trans
    ((outcome_bind_ok (run_readReg_operand h.1 rn) _).trans ((outcome_bind_ok (run_get s) _).trans ?_))))
  rw [mode5_eq, ← same.nextInsn]
  exact (outcome_bind_ok hs _).trans ((outcome_bind_ok (run_modify _ _) _).trans
    (outcome_writeBack_last (s := t.rdtrRead) (same.inDebug.trans h.1) _ _))

end

/-! ### Scan chain 5 -/

section

variable {s : State}

/-- With EXTEST the scan fills the rDTR where it is empty. -/
theorem scanDr_extest (hir : s.tap.ir = 0b00000) (hc : s.tap.screg = 5) (hx : s.dbg.dscr.getLsbD 13 = false) (v : BitVec 40) :
    (s.scanDr v).dbg = if s.dbg.dscr.getLsbD 30 then s.dbg
      else { s.dbg with rdtr := v.extractLsb' 0 32, dscr := setBit s.dbg.dscr 30 true } := by
  have hchain : s.tap.chain = 5 := by rewrite [Tap.chain, hir, hc]; rfl
  have hext : s.tap.extest = true := by rewrite [Tap.extest, hir]; rfl
  have hscan : s.scanDr v = s.scanChain v := by rewrite [State.scanDr, hext, hir]; rfl
  rw [hscan]
  simp only [State.scanChain, hchain, hext, hx, BitVec.reduceEq, if_false, if_true, Bool.false_eq_true]
  cases s.dbg.dscr.getLsbD 30 <;> rfl

/-- With INTEST the scan empties the wDTR. -/
theorem scanDr_intest (hir : s.tap.ir = 0b01100) (hc : s.tap.screg = 5) (v : BitVec 40) :
    (s.scanDr v).dbg = { s.dbg with dscr := setBit s.dbg.dscr 29 false } ∧
      (s.scanDr v).tap.out =
        (BitVec.ofBool (s.dbg.dscr.getLsbD 29) ++ BitVec.ofBool s.tap.instCompl ++ s.dbg.wdtr).setWidth 40 := by
  have hchain : s.tap.chain = 5 := by rewrite [Tap.chain, hir, hc]; rfl
  have hext : s.tap.extest = false := by rewrite [Tap.extest, hir]; rfl
  have hscan : s.scanDr v = s.scanChain v := by rewrite [State.scanDr, hext, Tap.intest, hir]; rfl
  rw [hscan]
  simp only [State.scanChain, hchain, hext, BitVec.reduceEq, if_false, if_true, Bool.false_eq_true]
  exact ⟨rfl, rfl⟩

theorem scanOut_data (a b : Bool) (w : Word) :
    ((BitVec.ofBool a ++ BitVec.ofBool b ++ w).setWidth 40).extractLsb' 0 32 = w := by
  refine BitVec.eq_of_getLsbD_eq fun i hi => ?_
  have h40 : i < 40 := by omega
  simp only [BitVec.getLsbD_extractLsb', BitVec.getLsbD_setWidth, BitVec.getLsbD_append, Nat.zero_add, hi, h40, decide_true,
    Bool.true_and, if_true]

theorem scanOut_valid (a b : Bool) (w : Word) :
    ((BitVec.ofBool a ++ BitVec.ofBool b ++ w).setWidth 40).getLsbD 33 = a := by
  rw [BitVec.getLsbD_setWidth, BitVec.getLsbD_append, BitVec.getLsbD_append]
  cases a <;> rfl

end

/-- Settles O50: a transfer reaches the register its encoding selects, and a scan of chain 5 the other side of it. -/
theorem debugCommunicationChannelHandshakes : Obligations.DebugCommunicationChannelHandshakes := by
  intro s c rd rn p u n w imm8 h hp bit o base offaddr addr wb
  have hdtr := dtr_allowed h.1 hp
  have hdscr := dscr_allowed h.1 hp
  refine ⟨fun hrd => ⟨exec_mcr14 h rfl (hdtr true) hrd rfl h.1 rfl, ?readDtr, ?readDscr⟩, ?flags, fun hw => ⟨fun v hv => ?ldc,
    fun t ht => ?stc⟩, ?scan⟩
  case readDtr => exact (exec_mrc14 h rfl (hdtr false)).trans (outcome_finishMrc14 (s := s.rdtrRead) h.1 hrd _)
  case readDscr => exact (exec_mrc14 h rfl hdscr).trans (outcome_finishMrc14 h.1 hrd _)
  case flags =>
    exact (exec_mrc14 h rfl hdscr).trans (outcome_then_advance (run_setFlags _ _) h.1 (State.setNzcv_nextInsn _ _))
  case ldc => exact exec_ldc h hp hw n rfl hv
  case stc => exact exec_stc h hp hw n rfl ht
  case scan =>
    rintro v t hc hx rfl
    refine ⟨fun hir => ?_, fun hir => ?_⟩
    · rw [scanDr_extest hir hc hx]
      cases hfull : s.dbg.dscr.getLsbD 30 with
      | true => exact ⟨rfl, hfull, rfl⟩
      | false => exact ⟨rfl, setBit_getLsbD _ _ _ _ (by decide), rfl⟩
    · obtain ⟨hdbg, hout⟩ := scanDr_intest hir hc v
      rw [hdbg, hout]
      exact ⟨scanOut_data _ _ _, scanOut_valid _ _ _, setBit_getLsbD _ _ _ _ (by decide), rfl⟩

end Sys2Proof.DebugChannel


/-!
Debug state: what the operations of the model do to the PC and to the activity of a core that is in it (61_debug.md R1775).
-/
namespace Sys2Proof.DebugState

open Sys2Proof Sys2Proof.Machine Sys2Proof.StoresFrame Sys2Proof.OutputPins Sys2Proof.DataProcessing
  Sys2Proof.ExceptionEntry

/-! ### The position of a core and the operations that keep it in Debug state -/

/-- What an instruction issued in Debug state may not move: the PC and the activity. -/
def position (s : State) : Word × Activity := (s.pc, s.activity)

theorem inDebug_of_position {s t : State} (h : position t = position s) : t.inDebug = s.inDebug := by
  rw [State.inDebug, State.inDebug, (Prod.mk.inj h).2]

/-- The operation keeps the position of a core in Debug state, whether it ends with a value or by a stop. -/
def StaysInDebug {α : Type} (x : M α) : Prop := ∀ s : State, s.inDebug = true → position (endState x s) = position s

/-! ### The steps of the monad -/

theorem stays_pure {α : Type} {a : α} : StaysInDebug (pure a) := fun _ _ => rfl

theorem stays_get : StaysInDebug (get : M State) := fun _ _ => rfl

theorem stays_throw {α : Type} {e : Stop} : StaysInDebug (throw e : M α) := fun _ _ => rfl

theorem stays_modify {f : State → State} (h : ∀ s : State, s.inDebug = true → position (f s) = position s) :
    StaysInDebug (modify f : M PUnit) := h

/-- A change of the state that keeps the position in every state. -/
theorem stays_frame {f : State → State} (h : ∀ s, position (f s) = position s) : StaysInDebug (modify f : M PUnit) :=
  fun s _ => h s

theorem stays_liftState {α : Type} {f : State → α × State} (h : ∀ s, position (f s).2 = position s) :
    StaysInDebug (liftState f) := fun s _ => h s

theorem StaysInDebug.bind {α β : Type} {x : M α} {f : α → M β} (hx : StaysInDebug x) (hf : ∀ a, StaysInDebug (f a)) :
    StaysInDebug (x >>= f) := by
  intro s hs
  rw [endState_bind]
  cases h : x.run s with
  | ok a t =>
    have ht : position t = position s := endState_of_run h ▸ hx s hs
    exact (hf a t ((inDebug_of_position ht).trans hs)).trans ht
  | error e t => exact endState_of_stop h ▸ hx s hs

/-- A sequence of operations keeps the position where each does, whatever value goes from one to the next. -/
theorem StaysInDebug.then {α β : Type} {x : M α} {f : α → M β} (hx : StaysInDebug x) (hf : ∀ {a}, StaysInDebug (f a)) :
    StaysInDebug (x >>= f) := hx.bind fun _ => hf

/-- An operation that goes on by the state it reads has to keep the position of that state only. -/
theorem stays_get_bind {α : Type} {f : State → M α}
    (h : ∀ s : State, s.inDebug = true → position (endState (f s) s) = position s) : StaysInDebug (get >>= f) := by
  intro s hs
  rw [endState_bind]
  exact h s hs

theorem stays_ite {α : Type} {p : Prop} [Decidable p] {x y : M α} (hx : StaysInDebug x) (hy : StaysInDebug y) :
    StaysInDebug (if p then x else y) := by
  split
  · exact hx
  · exact hy

theorem stays_draw : StaysInDebug draw := fun _ _ => rfl

theorem stays_refuse {α : Type} {r : Refusal} : StaysInDebug (refuse r : M α) := stays_throw

theorem stays_refuseIf {c : Bool} {r : Refusal} : StaysInDebug (refuseIf c r) := stays_ite stays_refuse stays_pure

theorem stays_unpredictableIf {c : Bool} : StaysInDebug (unpredictableIf c) := stays_refuseIf

theorem stays_shouldBe {c : Bool} : StaysInDebug (shouldBe c) := stays_refuseIf

/-! ### Changes of the state that keep the position -/

theorem position_ite {p : Prop} [Decidable p] {s t u : State} (ht : position t = position s) (hu : position u = position s) :
    position (if p then t else u) = position s := by
  split
  · exact ht
  · exact hu

/-- A branch in Debug state writes the PC of its exit only. -/
theorem position_branchTo {s : State} (hs : s.inDebug = true) (a : Word) : position (s.branchTo a) = position s := by
  rewrite [State.branchTo, if_pos hs]
  rfl

theorem position_setSpsrOf (s : State) (m : Mode) (v : Word) : position (s.setSpsrOf m v) = position s := by
  unfold State.setSpsrOf
  split <;> rfl

theorem position_recordImprecise (s : State) (a : ImpreciseAbort) : position (s.recordImprecise a) = position s := by
  simp [position]

theorem position_insertEntry (s : State) (e : TlbEntry) : position (s.insertEntry e) = position s := by
  obtain ⟨_, tlb, lockdown, h⟩ := s.insertEntry_frame e
  rewrite [h]
  rfl

theorem position_findEntry (s : State) (r : Request) : position (s.findEntry r).2 = position s := by
  unfold State.findEntry
  split
  · rfl
  · split
    · rfl
    · exact position_insertEntry _ _

theorem position_translateDeferred (s : State) (r : Request) : position (s.translateDeferred r).2 = position s := by
  unfold State.translateDeferred
  have h := position_findEntry s r
  split
  · rfl
  · split
    · next hf => rw [hf] at h; exact h
    · next hf => rw [hf] at h; exact h

theorem position_translate (s : State) (r : Request) : position (s.translate r).2 = position s := by
  unfold State.translate
  have h := position_translateDeferred s r
  split
  · next ht => rw [ht] at h; exact h
  · next ht => rw [ht] at h; exact h
  · next ht => rw [ht] at h; exact h

/-! ### Registers, the PC and the status registers -/

theorem stays_readPc : StaysInDebug readPc := stays_get.then <| stays_ite (stays_ite stays_pure stays_draw) stays_pure

theorem stays_readReg {n : BitVec 4} : StaysInDebug (readReg n) := stays_ite stays_readPc (stays_get.then stays_pure)

theorem stays_readUserReg {n : BitVec 4} : StaysInDebug (readUserReg n) := stays_ite stays_readPc (stays_get.then stays_pure)

theorem stays_writeReg {n : BitVec 4} {v : Word} : StaysInDebug (writeReg n v) := stays_frame fun _ => rfl

theorem stays_writeUserReg {n : BitVec 4} {v : Word} : StaysInDebug (writeUserReg n v) := stays_frame fun _ => rfl

theorem stays_setRegOf {m : Mode} {n : BitVec 4} {v : Word} : StaysInDebug (modify fun s => s.setRegOf m n v) :=
  stays_frame fun _ => rfl

theorem stays_readSpsr : StaysInDebug readSpsr := by
  unfold readSpsr
  refine stays_get.bind fun s => ?_
  cases spsrSlot s.mode with
  | none => exact stays_refuse
  | some k => exact stays_pure

theorem stays_advance : StaysInDebug advance := stays_modify fun _ hs => congrArg position (if_pos hs)

theorem stays_branchTo {a : Word} : StaysInDebug (branchTo a) := stays_modify fun _ hs => position_branchTo hs a

theorem stays_aluWritePc {v : Word} : StaysInDebug (aluWritePc v) := stays_modify fun _ hs => position_branchTo hs _

theorem stays_bxWritePc {v : Word} : StaysInDebug (bxWritePc v) :=
  stays_ite (stays_modify fun s hs => position_branchTo (s := s.setT true) hs _) (stays_ite stays_refuse
    (stays_modify fun s hs => position_branchTo (s := s.setT false) hs _))

theorem stays_loadWritePc {v : Word} : StaysInDebug (loadWritePc v) :=
  stays_get.then <| stays_ite stays_branchTo stays_bxWritePc

theorem stays_setFlags {f : Nzcv} : StaysInDebug (setFlags f) := stays_frame fun _ => rfl

theorem stays_setNz {w : Word} : StaysInDebug (setNz w) := stays_frame fun _ => rfl

theorem stays_setQIf {c : Bool} : StaysInDebug (setQIf c) := stays_frame fun _ => position_ite rfl rfl

theorem stays_writeCpsr {k : PsrWrite} {m v : Word} : StaysInDebug (writeCpsr k m v) := by
  unfold writeCpsr
  refine stays_get_bind fun s _ => ?_
  dsimp only
  split
  · split
    · rfl
    · split <;> rfl
  · rfl

theorem stays_exceptionReturn {a psr : Word} : StaysInDebug (exceptionReturn a psr) :=
  stays_writeCpsr.then <| stays_get.then <| stays_ite (stays_throw.then <| stays_modify fun _ hs => position_branchTo hs _)
    (stays_modify fun _ hs => position_branchTo hs _)

/-! ### Exceptions -/

theorem stays_raise {α : Type} {k : Exn} {ret : State → Word} {mon : State → Bool} :
    StaysInDebug (raise k ret mon : M α) := by
  unfold raise
  refine (stays_modify fun s hs => ?_).then stays_throw
  rw [if_pos hs]
  cases k <;> rfl

theorem stays_raiseUndefined {α : Type} : StaysInDebug (raiseUndefined : M α) := stays_raise

theorem stays_undefinedIf {c : Bool} : StaysInDebug (undefinedIf c) := stays_ite stays_raiseUndefined stays_pure

theorem stays_takeDataAbort {α : Type} {a : DataAbort} : StaysInDebug (takeDataAbort a : M α) := by
  refine (stays_frame fun _ => ?_).then stays_raise
  rfl

/-! ### Accesses that read -/

theorem stays_translate {r : Request} : StaysInDebug (translate r) := stays_liftState fun s => position_translate s r

theorem stays_checkAlignment {t : AccessType} {va : Word} {w : Bool} : StaysInDebug (checkAlignment t va w) := by
  unfold checkAlignment
  refine stays_get.bind fun s => stays_refuseIf.then ?_
  cases alignCheck (s.sctlr.getLsbD 1) (s.sctlr.getLsbD 22) t (va.extractLsb' 0 3) <;> exact stays_pure

theorem stays_locate {va : Word} {k : Access} {priv : Bool} : StaysInDebug (locate va k priv) := by
  unfold locate
  refine stays_get.bind fun s => stays_translate.bind fun r => ?_
  cases r with
  | error f => exact stays_pure
  | ok t =>
    dsimp only
    cases s.placeOf s.nonSecure k t with
    | none => exact stays_refuse
    | some p => exact stays_pure

theorem stays_checkUnaligned {m : Mode1} {p : Place} {mva : Word} {w : Bool} : StaysInDebug (checkUnaligned m p mva w) :=
  stays_ite (stays_get.then <| stays_ite stays_pure stays_refuse) stays_pure

theorem stays_recordWatch {d : Word} {size len : Nat} {l w p : Bool} {dom : BitVec 4} :
    StaysInDebug (recordWatch d size len l w p dom) := stays_frame fun _ => position_ite rfl rfl

theorem stays_recordImprecise {f : State → ImpreciseAbort} : StaysInDebug (modify fun s => s.recordImprecise (f s)) :=
  stays_frame fun s => position_recordImprecise s _

theorem stays_orAbort {α : Type} {r : Except DataAbort α} : StaysInDebug (orAbort r) := by
  cases r with
  | ok a => exact stays_pure
  | error a => exact stays_takeDataAbort

theorem stays_readParts {m : Mode1} {l : List Part} {g : Gathered} : StaysInDebug (readParts m l g) := by
  induction l generalizing g with
  | nil => exact stays_pure
  | cons p ps ih =>
    unfold readParts
    refine stays_get.then <| stays_get.then <| stays_locate.bind fun r => ?_
    cases r with
    | error f => exact stays_pure
    | ok place =>
      refine stays_checkUnaligned.bind fun o => ?_
      cases o with
      | some a => exact stays_pure
      | none =>
        refine stays_recordWatch.then <| stays_get.bind fun s => ?_
        cases s.placeError place .read m.priv with
        | none => exact ih
        | some slverr => exact stays_ite stays_pure (stays_recordImprecise.then ih)

theorem stays_drawItem {n : Nat} : StaysInDebug (drawItem n) := stays_draw.then stays_pure

theorem stays_readChecked {m : Mode1} {va : Word} {n : Nat} : StaysInDebug (readChecked m va n) := by
  unfold readChecked
  refine stays_readParts.bind fun r => ?_
  cases r with
  | error a => exact stays_pure
  | ok g => exact stays_get.then <| stays_ite (stays_drawItem.then stays_pure) stays_pure

theorem stays_readItem {m : Mode1} {va : Word} {n : Nat} : StaysInDebug (readItem m va n) := by
  unfold readItem
  refine stays_readChecked.bind fun r => ?_
  cases r <;> exact stays_pure

theorem stays_loadItem {t : AccessType} {n : Nat} {user precise : Bool} {va : Word} :
    StaysInDebug (loadItem t n user precise va) :=
  stays_checkAlignment.then <| stays_orAbort.then <| stays_get.then <| stays_readItem.then <| stays_orAbort.then stays_pure

theorem stays_loadPcWord {va : Word} : StaysInDebug (loadPcWord va) :=
  stays_checkAlignment.then <| stays_orAbort.then <| stays_get.then <| stays_ite stays_takeDataAbort stays_loadItem

theorem stays_loadWords {m : Mode1} {va : Word} {n : Nat} : StaysInDebug (loadWords m va n) := by
  induction n generalizing va with
  | zero => exact stays_pure
  | succ n ih =>
    unfold loadWords
    refine stays_readItem.bind fun r => ?_
    cases r with
    | error a => exact stays_pure
    | ok w => exact ih.then stays_pure

theorem stays_loadedOrOld {old new : Word} : StaysInDebug (loadedOrOld old new) := stays_draw.then stays_pure

/-! ### The exclusive monitors -/

theorem stays_setLocal {f : State → Bool} : StaysInDebug (modify fun s => s.setLocal (f s)) := stays_frame fun _ => rfl

theorem stays_recordExclusive {mva : Word} {n : Nat} {l p : Bool} {dom : BitVec 4} :
    StaysInDebug (recordExclusive mva n l p dom) := stays_ite (stays_recordWatch.then stays_recordWatch) stays_recordWatch

theorem position_markExclusive (s : State) (p : Place) (n : Nat) : position (s.markExclusive p n) = position s := by
  unfold State.markExclusive
  split <;> rfl

theorem stays_freeLocal : StaysInDebug freeLocal := stays_draw.then stays_setLocal

theorem stays_readItems {m : Mode1} {n : Nat} {vas : List Word} : StaysInDebug (readItems m n vas) := by
  induction vas with
  | nil => exact stays_pure
  | cons va vas ih =>
    unfold readItems
    refine stays_readChecked.bind fun r => ?_
    cases r with
    | error a => exact stays_pure
    | ok w =>
      refine ih.bind fun ws => ?_
      cases ws <;> exact stays_pure

theorem stays_loadWithoutMonitor {m : Mode1} {p : Place} {mva : Word} {n : Nat} :
    StaysInDebug (loadWithoutMonitor m p mva n) :=
  stays_get.then <| stays_recordExclusive.then <| stays_draw.then <| stays_freeLocal.then <| stays_ite stays_takeDataAbort
    (stays_recordImprecise.then <| stays_drawItem.then <| stays_draw.then stays_pure)

theorem stays_loadExclusive {t : AccessType} {va : Word} {n : Nat} : StaysInDebug (loadExclusive t va n) := by
  unfold loadExclusive
  refine stays_checkAlignment.then <| stays_orAbort.bind fun a => stays_get.bind fun s => stays_locate.bind fun r => ?_
  cases r with
  | error f => exact stays_takeDataAbort
  | ok p =>
    refine stays_refuseIf.then <| stays_get.then <| stays_ite stays_loadWithoutMonitor (stays_readItems.bind fun r => ?_)
    cases r with
    | error e => exact stays_ite (stays_freeLocal.then stays_takeDataAbort) stays_takeDataAbort
    | ok ws =>
      exact stays_ite (stays_freeLocal.then stays_pure) ((stays_frame fun s => position_markExclusive s p n).then stays_pure)

theorem stays_abortExclusive {α : Type} {e : DataAbort} : StaysInDebug (abortExclusive e : M α) :=
  stays_setLocal.then stays_takeDataAbort

theorem stays_storeFails {m : Mode1} {mva : Word} {n : Nat} {dom : BitVec 4} : StaysInDebug (storeFails m mva n dom) :=
  stays_recordExclusive.then <| stays_setLocal.then stays_pure

/-! ### The coprocessors -/

theorem position_updateDma (s : State) (f : DmaChannel → DmaChannel) : position (s.updateDma f) = position s := by
  unfold State.updateDma
  dsimp only
  split <;> rfl

/-- Debug state does not wait for an interrupt. -/
theorem position_waitForInterrupt {s : State} (hs : s.inDebug = true) : position s.waitForInterrupt = position s := by
  rw [State.waitForInterrupt, hs, Bool.true_or, if_pos rfl]

theorem position_barrier (s : State) : position s.barrier = position s := by
  unfold State.barrier
  dsimp only
  split <;> rfl

theorem position_cp15Write {s : State} (hs : s.inDebug = true) (c : AccessClass) (r : Cp15Reg) (v : Word) :
    position (s.cp15Write c r v) = position s := by
  cases r with
  | waitForInterrupt => exact position_waitForInterrupt hs
  | dataSyncBarrier | dataMemBarrier => exact position_barrier s
  | dmaControl | dmaIntStart | dmaExtStart | dmaIntEnd | dmaContext => exact position_updateDma s _
  | sctlr | tcmSelection =>
    unfold State.cp15Write
    dsimp only
    split <;> rfl
  | _ => rfl

theorem stays_probe {mva : Word} {k : Access} : StaysInDebug (probe mva k) := by
  unfold probe
  refine stays_get_bind fun s _ => ?_
  dsimp only
  split
  · rfl
  · split
    · rfl
    · exact position_insertEntry s _

theorem stays_cacheAbort {α : Type} {instr : Bool} {mva : Word} {f : MmuFault} :
    StaysInDebug (cacheAbort instr mva f : M α) := by
  refine (stays_frame fun _ => ?_).then stays_raise
  exact position_ite rfl rfl

theorem stays_cacheLine {instr : Bool} {mva : Word} : StaysInDebug (cacheLine instr mva) := by
  unfold cacheLine
  refine stays_probe.bind fun o => ?_
  cases o with
  | none => exact stays_pure
  | some f => exact stays_cacheAbort

theorem stays_cacheLines {instr : Bool} {n : Nat} {va : Word} : StaysInDebug (cacheLines instr n va) := by
  induction n generalizing va with
  | zero => exact stays_pure
  | succ n ih =>
    unfold cacheLines
    exact stays_get.then <| stays_cacheLine.then ih

theorem stays_cacheRange {instr : Bool} {a b : Word} : StaysInDebug (cacheRange instr a b) :=
  stays_get.then <| stays_ite stays_pure stays_cacheLines

theorem stays_setPar {f : State → Word} : StaysInDebug (modify fun s => s.setPar (f s)) := stays_frame fun _ => rfl

theorem stays_vaToPa {k : BitVec 3} {va : Word} : StaysInDebug (vaToPa k va) := by
  unfold vaToPa
  refine stays_get.bind fun s => stays_translate.bind fun r => ?_
  cases r with
  | error f => exact stays_setPar.then <| stays_ite stays_takeDataAbort stays_pure
  | ok t =>
    dsimp only
    cases t.attrs with
    | some a => exact stays_setPar
    | none => exact stays_draw.then stays_setPar

theorem stays_cp15Effect {c : AccessClass} {r : Cp15Reg} {v : Word} : StaysInDebug (cp15Effect c r v) := by
  unfold cp15Effect
  split
  · exact stays_cacheLine
  · exact stays_cacheLine
  · exact stays_cacheLine
  · exact stays_cacheLine
  · exact stays_cacheLine
  · exact stays_vaToPa
  · exact stays_refuseIf
  · exact stays_modify fun _ hs => position_cp15Write hs c _ v

theorem stays_readCp15 {op1 : BitVec 3} {crn crm : BitVec 4} {op2 : BitVec 3} : StaysInDebug (readCp15 op1 crn crm op2) := by
  unfold readCp15
  refine stays_get.bind fun s => ?_
  cases Cp15Reg.select op1 crn crm op2 with
  | none => exact stays_raiseUndefined
  | some r => exact stays_undefinedIf.then stays_pure

theorem stays_writeCp15 {op1 : BitVec 3} {crn crm rd : BitVec 4} {op2 : BitVec 3} :
    StaysInDebug (writeCp15 op1 crn crm op2 rd) := by
  unfold writeCp15
  refine stays_get.bind fun s => ?_
  cases Cp15Reg.select op1 crn crm op2 with
  | none => exact stays_raiseUndefined
  | some r => exact stays_undefinedIf.then <| stays_unpredictableIf.then <| stays_cp15Effect

theorem stays_writeCp15Range {op1 crm rd rn : BitVec 4} : StaysInDebug (writeCp15Range op1 crm rd rn) :=
  stays_get.then <| stays_undefinedIf.then <| stays_unpredictableIf.then stays_cacheRange

theorem position_cp14Write (s : State) (r : Cp14Reg) (v : Word) : position (s.cp14Write r v) = position s := by
  cases r <;> rfl

theorem stays_rdtrRead : StaysInDebug (modify State.rdtrRead) := stays_frame fun _ => rfl

theorem stays_wdtrWrite {v : Word} : StaysInDebug (modify fun s => s.wdtrWrite v) := stays_frame fun _ => rfl

theorem stays_readCp14 {op1 : BitVec 3} {crn crm : BitVec 4} {op2 : BitVec 3} : StaysInDebug (readCp14 op1 crn crm op2) := by
  unfold readCp14
  refine stays_get.bind fun s => ?_
  cases Cp14Reg.select op1 crn crm op2 with
  | none => exact stays_raiseUndefined
  | some r => exact stays_undefinedIf.then <| stays_ite (stays_rdtrRead.then stays_pure) stays_pure

theorem stays_writeCp14 {op1 : BitVec 3} {crn crm rd : BitVec 4} {op2 : BitVec 3} :
    StaysInDebug (writeCp14 op1 crn crm op2 rd) := by
  unfold writeCp14
  refine stays_get.bind fun s => ?_
  cases Cp14Reg.select op1 crn crm op2 with
  | none => exact stays_raiseUndefined
  | some r => exact stays_undefinedIf.then <| stays_frame fun s => position_cp14Write s r _

theorem stays_finishMrc14 {rd : BitVec 4} {r : Cp14Reg} {v : Word} : StaysInDebug (finishMrc14 rd r v) :=
  stays_ite (stays_ite stays_setFlags (stays_draw.then stays_setFlags)) stays_writeReg

theorem stays_dtrOnly {cp crd : BitVec 4} : StaysInDebug (dtrOnly cp crd) := stays_get.then stays_undefinedIf

/-! ### Operands and addresses -/

theorem stays_operand2 {o : Operand2} : StaysInDebug (operand2 o) := by
  unfold operand2
  refine stays_get.then ?_
  cases o with
  | imm rot imm8 => exact stays_pure
  | shifted imm5 type rm => exact stays_readReg.then stays_pure
  | shiftedByReg rs type rm => exact stays_readReg.then <| stays_readReg.then stays_pure

theorem stays_offsetValue {o : Offset} : StaysInDebug (offsetValue o) := by
  cases o with
  | imm v => exact stays_pure
  | reg imm5 type rm => exact stays_get.then <| stays_readReg.then stays_pure

theorem stays_addressMode {x : Index} {rn : BitVec 4} {o : Offset} : StaysInDebug (addressMode x rn o) :=
  stays_readReg.then <| stays_offsetValue.then stays_pure

theorem stays_writeBack {rn : BitVec 4} {a : Addressed} : StaysInDebug (writeBack rn a) := by
  unfold writeBack
  cases a.wb with
  | none => exact stays_pure
  | some v => exact stays_writeReg

theorem stays_storedPc : StaysInDebug storedPc := stays_get.then <| stays_ite stays_readPc stays_pure

theorem stays_storedReg {n : BitVec 4} : StaysInDebug (storedReg n) := stays_ite stays_storedPc stays_readReg

/-! ### Data processing -/

theorem stays_dataProcessing {op : AluOp} {sBit : Bool} {rn rd : BitVec 4} {o : Operand2} :
    StaysInDebug (dataProcessing op sBit rn rd o) :=
  stays_unpredictableIf.then <| stays_operand2.then <| stays_readReg.then <| stays_get.then <| stays_ite
    (stays_writeReg.then <| stays_ite (stays_setFlags.then stays_advance) stays_advance) (stays_ite stays_aluWritePc
    (stays_readSpsr.then stays_exceptionReturn))

theorem stays_compare {op : AluOp} {rn : BitVec 4} {o : Operand2} : StaysInDebug (Machine.compare op rn o) :=
  stays_unpredictableIf.then <| stays_operand2.then <| stays_readReg.then <| stays_get.then <|
    stays_setFlags.then stays_advance

theorem stays_moveOp {op : AluOp} {sBit : Bool} {sbz rd : BitVec 4} {o : Operand2} :
    StaysInDebug (moveOp op sBit sbz rd o) := stays_shouldBe.then stays_dataProcessing

theorem stays_compareOp {op : AluOp} {rn sbz : BitVec 4} {o : Operand2} : StaysInDebug (compareOp op rn sbz o) :=
  stays_shouldBe.then stays_compare

/-! ### Multiplies and media -/

theorem stays_finishWord {sBit : Bool} {rd : BitVec 4} {w : Word} : StaysInDebug (finishWord sBit rd w) :=
  stays_writeReg.then <| stays_ite (stays_setNz.then stays_advance) stays_advance

theorem stays_finishAccumulate {rd : BitVec 4} {v : Int} : StaysInDebug (finishAccumulate rd v) :=
  stays_writeReg.then <| stays_setQIf.then stays_advance

theorem stays_readLong {hi lo : BitVec 4} : StaysInDebug (readLong hi lo) := stays_readReg.then <| stays_readReg.then stays_pure

theorem stays_setNzLong {d : DWord} : StaysInDebug (setNzLong d) := stays_frame fun _ => rfl

theorem stays_finishLong {sBit : Bool} {hi lo : BitVec 4} {v : Int} : StaysInDebug (finishLong sBit hi lo v) :=
  stays_writeReg.then <| stays_writeReg.then <| stays_ite (stays_setNzLong.then stays_advance) stays_advance

theorem stays_longRestrictions {hi lo rs rm : BitVec 4} : StaysInDebug (longRestrictions hi lo rs rm) := stays_unpredictableIf

theorem stays_readDual {x : Bool} {rs rm : BitVec 4} : StaysInDebug (readDual x rs rm) :=
  stays_readReg.then <| stays_readReg.then stays_pure

theorem stays_saturating {f : Int → Int → Int} {d : Bool} {rn rd sbz rm : BitVec 4} :
    StaysInDebug (saturating f d rn rd sbz rm) :=
  stays_shouldBe.then <| stays_unpredictableIf.then <| stays_readReg.then <| stays_readReg.then <| stays_writeReg.then <|
    stays_setQIf.then stays_advance

theorem stays_parallel {p : ParPrefix} {op : ParOp} {rn rd sbo rm : BitVec 4} : StaysInDebug (parallel p op rn rd sbo rm) := by
  unfold parallel
  refine stays_shouldBe.then <| stays_unpredictableIf.then <| stays_readReg.then <| stays_readReg.then <|
    stays_writeReg.then <| stays_ite ((stays_frame fun _ => ?_).then stays_advance) stays_advance
  rfl

theorem stays_rotatedReg {r : BitVec 2} {rm : BitVec 4} : StaysInDebug (rotatedReg r rm) := stays_readReg.then stays_pure

theorem stays_extend {e : Extend} {signed : Bool} {rd rm : BitVec 4} {r sbz : BitVec 2} :
    StaysInDebug (extend e signed rd r sbz rm) :=
  stays_shouldBe.then <| stays_unpredictableIf.then <| stays_rotatedReg.then stays_finishWord

theorem stays_extendAdd {e : Extend} {signed : Bool} {rn rd rm : BitVec 4} {r sbz : BitVec 2} :
    StaysInDebug (extendAdd e signed rn rd r sbz rm) :=
  stays_shouldBe.then <| stays_unpredictableIf.then <| stays_rotatedReg.then <| stays_readReg.then stays_finishWord

theorem stays_reversal {f : Word → Word} {sbo rd sbo2 rm : BitVec 4} : StaysInDebug (reversal f sbo rd sbo2 rm) :=
  stays_shouldBe.then <| stays_unpredictableIf.then <| stays_readReg.then stays_finishWord

/-! ### Branches, status and hints -/

theorem stays_branchSbo {a b c : BitVec 4} : StaysInDebug (branchSbo a b c) := stays_shouldBe

theorem stays_setT {b : Bool} : StaysInDebug (modify fun s => s.setT b) := stays_frame fun _ => rfl

theorem stays_setE {b : Bool} : StaysInDebug (modify fun s => s.setE b) := stays_frame fun _ => rfl

theorem stays_moveToStatus {r : Bool} {mask : BitVec 4} {w : Word} : StaysInDebug (moveToStatus r mask w) := by
  refine stays_ite (stays_readSpsr.then <| (stays_frame fun _ => position_setSpsrOf _ _ _).then stays_advance)
    (stays_writeCpsr.then <| (stays_frame fun _ => ?_).then stays_advance)
  exact position_ite rfl rfl

theorem stays_changeState {imod : BitVec 2} {mmod a i f : Bool} {mode : BitVec 5} :
    StaysInDebug (changeState imod mmod a i f mode) := by
  unfold changeState
  refine stays_get_bind fun s _ => ?_
  dsimp only
  split
  · split
    · split
      · rfl
      · split <;> rfl
    · rfl
  · rfl

theorem stays_hintOp {sbo sbz : BitVec 4} : StaysInDebug (hintOp sbo sbz) := stays_shouldBe.then stays_advance

/-- In Debug state a BKPT is ignored. -/
theorem stays_softwareBreakpoint : StaysInDebug (modify State.softwareBreakpoint) :=
  stays_modify fun _ hs => congrArg position (if_pos hs)

/-! ### Loads -/

theorem stays_loadRegister {t : AccessType} {n : Nat} {user : Bool} {ext : Word → Word} {x : Index} {rn rd : BitVec 4}
    {o : Offset} : StaysInDebug (loadRegister t n user ext x rn rd o) :=
  stays_unpredictableIf.then <| stays_addressMode.then <| stays_loadItem.then <| stays_writeBack.then <|
    stays_writeReg.then stays_advance

theorem stays_mode3Form {x : Index} : StaysInDebug (mode3Form x) := stays_unpredictableIf

theorem stays_loadToPc {x : Index} {rn : BitVec 4} {o : Offset} : StaysInDebug (loadToPc x rn o) :=
  stays_unpredictableIf.then <| stays_addressMode.then <| stays_loadPcWord.then <| stays_writeBack.then stays_loadWritePc

theorem stays_loadWord {x : Index} {rn rd : BitVec 4} {o : Offset} : StaysInDebug (loadWord x rn rd o) :=
  stays_ite stays_loadToPc stays_loadRegister

theorem stays_preload {o : Offset} : StaysInDebug (preload o) := stays_unpredictableIf.then stays_advance

theorem stays_abortedLoads {read : BitVec 4 → M Word} {write : BitVec 4 → Word → M Unit} {rn : BitVec 4}
    {l : List (BitVec 4 × Word)} (hr : ∀ r, StaysInDebug (read r)) (hw : ∀ r w, StaysInDebug (write r w)) :
    StaysInDebug (abortedLoads read write rn l) := by
  induction l with
  | nil => exact stays_pure
  | cons p l ih =>
    unfold abortedLoads
    exact stays_ite ((hr _).then <| stays_loadedOrOld.then <| (hw _ _).then ih) ih

theorem stays_doubleRestrictions {x : Index} {rn rd sbz : BitVec 4} {o : Offset} :
    StaysInDebug (doubleRestrictions x rn rd sbz o) :=
  stays_undefinedIf.then <| stays_shouldBe.then <| stays_mode3Form.then stays_unpredictableIf

theorem stays_loadDouble {x : Index} {rn rd sbz : BitVec 4} {o : Offset} : StaysInDebug (loadDouble x rn rd sbz o) := by
  unfold loadDouble
  refine stays_doubleRestrictions.then <| stays_unpredictableIf.then <| stays_addressMode.then <| stays_checkAlignment.then <|
    stays_orAbort.then <| stays_get.then <| stays_loadWords.bind fun r => ?_
  cases r.abort with
  | some e => exact (stays_abortedLoads (fun _ => stays_readReg) fun _ _ => stays_writeReg).then stays_takeDataAbort
  | none => exact stays_writeBack.then <| stays_writeReg.then <| stays_writeReg.then stays_advance

theorem stays_writeRegs {write : BitVec 4 → Word → M Unit} {l : List (BitVec 4 × Word)}
    (hw : ∀ r w, StaysInDebug (write r w)) : StaysInDebug (writeRegs write l) := by
  induction l with
  | nil => exact stays_pure
  | cons p l ih =>
    unfold writeRegs
    exact (hw _ _).then ih

theorem stays_loadMulti {read : BitVec 4 → M Word} {write : BitVec 4 → Word → M Unit} {keep : BitVec 4} {p u : Bool}
    {rn : BitVec 4} {regs : List (BitVec 4)} {precise : Bool} (hr : ∀ r, StaysInDebug (read r))
    (hw : ∀ r w, StaysInDebug (write r w)) : StaysInDebug (loadMulti read write keep p u rn regs precise) := by
  unfold loadMulti
  refine stays_readReg.then <| stays_checkAlignment.then <| stays_orAbort.then <| stays_get.then <|
    stays_loadWords.bind fun r => ?_
  cases r.abort with
  | some e => exact (stays_abortedLoads hr hw).then stays_takeDataAbort
  | none => exact stays_pure

theorem stays_loadMultiple {p u w : Bool} {rn : BitVec 4} {l : BitVec 16} : StaysInDebug (loadMultiple p u w rn l) := by
  unfold loadMultiple
  have hpc : ∀ ws : List Word, StaysInDebug (if l.getLsbD 15 then loadWritePc (ws.getLastD 0) else advance) :=
    fun _ => stays_ite stays_loadWritePc stays_advance
  exact stays_unpredictableIf.then <| (stays_loadMulti (fun _ => stays_readReg) fun _ _ => stays_writeReg).then <|
    (stays_writeRegs fun _ _ => stays_writeReg).then <| stays_ite (stays_writeReg.then <| hpc _) (hpc _)

theorem stays_storedRegs {read : BitVec 4 → M Word} {l : List (BitVec 4)} (hr : ∀ r, StaysInDebug (read r)) :
    StaysInDebug (storedRegs read l) := by
  induction l with
  | nil => exact stays_pure
  | cons r l ih =>
    unfold storedRegs
    exact stays_ite (stays_storedPc.then <| ih.then stays_pure) ((hr _).then <| ih.then stays_pure)

theorem stays_bankedOnly : StaysInDebug bankedOnly := stays_get.then stays_unpredictableIf

theorem stays_swapRestrictions {rn rd sbz rm : BitVec 4} : StaysInDebug (swapRestrictions rn rd sbz rm) :=
  stays_shouldBe.then stays_unpredictableIf

theorem stays_loadExclusiveReg {t : AccessType} {n : Nat} {rn rd sbo sbo2 : BitVec 4} :
    StaysInDebug (loadExclusiveReg t n rn rd sbo sbo2) :=
  stays_shouldBe.then <| stays_unpredictableIf.then <| stays_readReg.then <| stays_loadExclusive.then <|
    stays_writeReg.then stays_advance

/-! ### Thumb -/

theorem stays_thumbAlu {op : AluOp} {rd : BitVec 4} {a b : Word} : StaysInDebug (thumbAlu op rd a b) :=
  stays_get.then <| stays_writeReg.then <| stays_setFlags.then stays_advance

theorem stays_thumbRegs {op : AluOp} {rm rd : BitVec 3} : StaysInDebug (thumbRegs op rm rd) := stays_get.then stays_thumbAlu

theorem stays_thumbCompare {op : AluOp} {a b : Word} : StaysInDebug (thumbCompare op a b) :=
  stays_get.then <| stays_setFlags.then stays_advance

theorem stays_thumbShift {rd : BitVec 4} {r : Word × Bool} : StaysInDebug (thumbShift rd r) :=
  stays_get.then <| stays_writeReg.then <| stays_setFlags.then stays_advance

theorem stays_thumbShiftReg {type : BitVec 2} {rs rd : BitVec 3} : StaysInDebug (thumbShiftReg type rs rd) :=
  stays_get.then stays_thumbShift

theorem stays_writeHigh {rd : BitVec 4} {v : Word} : StaysInDebug (writeHigh rd v) :=
  stays_ite stays_aluWritePc (stays_writeReg.then stays_advance)

theorem stays_thumbBase : StaysInDebug thumbBase := stays_readPc.then stays_pure

theorem stays_thumbLoad {t : AccessType} {n : Nat} {ext : Word → Word} {rd : BitVec 3} {va : Word} :
    StaysInDebug (thumbLoad t n ext rd va) := stays_loadItem.then <| stays_writeReg.then stays_advance

theorem stays_thumbUnary {f : Word → Word} {rm rd : BitVec 3} : StaysInDebug (thumbUnary f rm rd) :=
  stays_get.then <| stays_writeReg.then stays_advance

theorem stays_thumbStored {rn : BitVec 4} {o : Option (BitVec 4)} {l : List (BitVec 4)} :
    StaysInDebug (thumbStored rn o l) := by
  induction l with
  | nil => exact stays_pure
  | cons r l ih =>
    unfold thumbStored
    exact stays_get.then <| stays_ite (stays_draw.then <| ih.then stays_pure) (stays_pure.then <| ih.then stays_pure)

/-! ### Writes of data -/

theorem position_writePart (s : State) (p : Place) (k : Nat) (l : List Byte) : position (s.writePart p k l) = position s := by
  simp [position]

theorem stays_writeParts {m : Mode1} {l : List Part} {bytes : List Byte} {failed : Bool} :
    StaysInDebug (writeParts m l bytes failed) := by
  induction l generalizing bytes failed with
  | nil => exact stays_pure
  | cons p ps ih =>
    unfold writeParts
    refine stays_get.then <| stays_get.then <| stays_locate.bind fun r => ?_
    cases r with
    | error f => exact stays_pure
    | ok place =>
      refine stays_checkUnaligned.bind fun o => ?_
      cases o with
      | some a => exact stays_pure
      | none =>
        refine stays_recordWatch.then <| stays_get_bind fun s hs => ?_
        cases s.placeError place .write m.priv with
        | none =>
          have hw := position_writePart s place 0 (bytes.take p.len)
          dsimp only
          rw [CanonicalStores.endState_set_bind]
          exact (ih _ ((inDebug_of_position hw).trans hs)).trans hw
        | some slverr => exact stays_ite stays_pure (stays_recordImprecise.then ih) s hs

theorem stays_writeChecked {m : Mode1} {va : Word} {n : Nat} {v : Word} : StaysInDebug (writeChecked m va n v) :=
  stays_get.then stays_writeParts

theorem stays_writeItem {m : Mode1} {va : Word} {n : Nat} {v : Word} : StaysInDebug (writeItem m va n v) := by
  unfold writeItem
  refine stays_writeChecked.bind fun r => ?_
  cases r <;> exact stays_pure

theorem stays_storeItem {t : AccessType} {n : Nat} {user : Bool} {va v : Word} : StaysInDebug (storeItem t n user va v) :=
  stays_checkAlignment.then <| stays_orAbort.then <| stays_get.then <| stays_writeItem.then stays_orAbort

theorem stays_storeWords {m : Mode1} {ws : List Word} {va : Word} : StaysInDebug (storeWords m va ws) := by
  induction ws generalizing va with
  | nil => exact stays_pure
  | cons w ws ih =>
    unfold storeWords
    exact stays_writeItem.then <| stays_orAbort.then ih

theorem stays_writeItems {m : Mode1} {n : Nat} {l : List (Word × Word)} : StaysInDebug (writeItems m n l) := by
  induction l with
  | nil => exact stays_pure
  | cons p l ih =>
    unfold writeItems
    refine stays_writeChecked.bind fun r => ?_
    cases r with
    | error a => exact stays_pure
    | ok failed =>
      refine ih.bind fun r => ?_
      cases r <;> exact stays_pure

theorem stays_storeHeld {m : Mode1} {p : Place} {va mva : Word} {n : Nat} {vs : List Word} :
    StaysInDebug (storeHeld m p va mva n vs) := by
  unfold storeHeld
  dsimp only
  have hclear : StaysInDebug (modify fun s : State =>
      (if p.shared then { s with monitors := { s.monitors with globl := none } } else s).setLocal false) :=
    stays_frame fun _ => position_ite rfl rfl
  refine stays_get.then <| stays_ite (stays_recordExclusive.then <| hclear.then stays_pure) (stays_writeItems.bind fun r => ?_)
  cases r with
  | error e => exact stays_abortExclusive
  | ok failed => exact hclear.then stays_pure

theorem stays_storeExclusive {t : AccessType} {va : Word} {n : Nat} {vs : List Word} :
    StaysInDebug (storeExclusive t va n vs) := by
  unfold storeExclusive
  refine stays_checkAlignment.bind fun r => ?_
  cases r with
  | error e => exact stays_abortExclusive
  | ok a =>
    refine stays_get.bind fun s => stays_ite stays_storeFails
      ((stays_liftState fun u => position_translateDeferred u _).bind fun r => ?_)
    cases r with
    | error f => exact stays_abortExclusive
    | ok x =>
      obtain ⟨t, denied⟩ := x
      refine stays_get.bind fun u => stays_ite stays_storeFails ?_
      split
      · exact stays_abortExclusive
      · exact stays_refuse
      · exact stays_refuseIf.then stays_storeHeld

/-! ### Stores -/

theorem stays_storeRegister {t : AccessType} {n : Nat} {user : Bool} {x : Index} {rn rd : BitVec 4} {o : Offset} :
    StaysInDebug (storeRegister t n user x rn rd o) :=
  stays_unpredictableIf.then <| stays_addressMode.then <| stays_readReg.then <| stays_storeItem.then <|
    stays_writeBack.then stays_advance

theorem stays_storeWord {x : Index} {rn rd : BitVec 4} {o : Offset} : StaysInDebug (storeWord x rn rd o) :=
  stays_unpredictableIf.then <| stays_addressMode.then <| stays_storedReg.then <| stays_storeItem.then <|
    stays_writeBack.then stays_advance

theorem stays_storeDouble {x : Index} {rn rd sbz : BitVec 4} {o : Offset} : StaysInDebug (storeDouble x rn rd sbz o) :=
  stays_doubleRestrictions.then <| stays_addressMode.then <| stays_readReg.then <| stays_readReg.then <|
    stays_checkAlignment.then <| stays_orAbort.then <| stays_get.then <| stays_storeWords.then <|
    stays_writeBack.then stays_advance

theorem stays_storeMulti {p u : Bool} {base : Word} {vs : List Word} : StaysInDebug (storeMulti p u base vs) :=
  stays_checkAlignment.then <| stays_orAbort.then <| stays_get.then <| stays_storeWords.then stays_pure

theorem stays_storeMultiple {p u w : Bool} {rn : BitVec 4} {l : BitVec 16} : StaysInDebug (storeMultiple p u w rn l) :=
  stays_unpredictableIf.then <| stays_readReg.then <| (stays_storedRegs fun _ => stays_readReg).then <|
    stays_storeMulti.then <| stays_ite (stays_writeReg.then stays_advance) stays_advance

theorem stays_swap {load store : AccessType} {n : Nat} {va v : Word} : StaysInDebug (swap load store n va v) :=
  stays_loadItem.then <| stays_storeItem.then stays_pure

theorem stays_storeExclusiveReg {t : AccessType} {n : Nat} {rn rd sbo rm : BitVec 4} :
    StaysInDebug (storeExclusiveReg t n rn rd sbo rm) :=
  stays_shouldBe.then <| stays_unpredictableIf.then <| stays_readReg.then <| stays_readReg.then <| stays_storeExclusive.then <|
    stays_writeReg.then stays_advance

theorem stays_thumbStore {t : AccessType} {n : Nat} {rd : BitVec 3} {va : Word} : StaysInDebug (thumbStore t n rd va) :=
  stays_get.then <| stays_storeItem.then stays_advance

/-! ### Instructions -/

/-- The meaning of an instruction keeps the position in Debug state. -/
def StaysStep (k : State → Result) : Prop := ∀ s t : State, s.inDebug = true → k s = .next t → position t = position s

theorem staysStep_outcome {x : M Unit} (h : StaysInDebug x) : StaysStep x.outcome := by
  intro s t hs ht
  rcases outcome_next ht with hr | hr
  · exact endState_of_run hr ▸ h s hs
  · exact endState_of_stop hr ▸ h s hs

theorem staysStep_always {x : M Unit} (h : StaysInDebug x) : StaysStep (always x) := staysStep_outcome h

theorem staysStep_conditional {c : Cond} {x : M Unit} (h : StaysInDebug x) : StaysStep (conditional c x) :=
  fun s => staysStep_outcome (stays_ite h stays_advance) s

theorem staysStep_conditionalBranch {c : Cond} {x : M Unit} (h : StaysInDebug x) : StaysStep (conditionalBranch c x) :=
  fun s => staysStep_outcome (stays_ite h (stays_ite (stays_draw.then stays_branchTo) stays_advance)) s

theorem execRfe_stays (p u w : Bool) (rn : BitVec 4) : StaysStep (execRfe p u w rn) := by
  refine staysStep_always (stays_unpredictableIf.then <| stays_readReg.then <| stays_checkAlignment.then <|
    stays_orAbort.then <| stays_get.then <| stays_loadWords.bind fun r => ?_)
  cases r.abort with
  | some e => exact stays_takeDataAbort
  | none => exact stays_ite (stays_writeReg.then stays_exceptionReturn) stays_exceptionReturn

theorem execLdm2_stays (c : Cond) (p u sbz : Bool) (rn : BitVec 4) (l : BitVec 15) :
    StaysStep (execLdm2 c p u sbz rn l) :=
  staysStep_conditional (stays_unpredictableIf.then <| stays_bankedOnly.then <| stays_get.then <| (stays_loadMulti
    (fun _ => stays_readUserReg) fun _ _ => stays_writeUserReg).then <|
    (stays_writeRegs fun _ _ => stays_writeUserReg).then stays_advance)

theorem execLdm3_stays (c : Cond) (p u w : Bool) (rn : BitVec 4) (l : BitVec 15) :
    StaysStep (execLdm3 c p u w rn l) :=
  staysStep_conditional (stays_unpredictableIf.then <| stays_bankedOnly.then <| stays_readSpsr.then <| (stays_loadMulti
    (fun _ => stays_readReg) fun _ _ => stays_writeReg).then <| (stays_writeRegs fun _ _ => stays_writeReg).then <| stays_ite
    (stays_writeReg.then stays_exceptionReturn) stays_exceptionReturn)

theorem execMcr_stays (c : Cond) (op1 : BitVec 3) (crn rd cp : BitVec 4) (op2 : BitVec 3) (crm : BitVec 4) :
    StaysStep (execMcr c op1 crn rd cp op2 crm) :=
  staysStep_conditional (stays_ite (stays_writeCp15.then stays_advance) (stays_ite (stays_writeCp14.then stays_advance)
    (stays_raiseUndefined.then stays_advance)))

theorem execMrc_stays (c : Cond) (op1 : BitVec 3) (crn rd cp : BitVec 4) (op2 : BitVec 3) (crm : BitVec 4) :
    StaysStep (execMrc c op1 crn rd cp op2 crm) :=
  staysStep_conditional (stays_ite (stays_readCp15.then <| stays_ite (stays_setFlags.then stays_advance)
    (stays_writeReg.then stays_advance)) (stays_ite (stays_readCp14.then <| stays_finishMrc14.then stays_advance)
    (stays_raiseUndefined.then stays_advance)))

theorem execTBCond_stays (c : BitVec 4) (imm8 : BitVec 8) : StaysStep (execTBCond c imm8) := by
  unfold execTBCond
  cases Cond.ofBits c with
  | none => exact staysStep_always stays_raiseUndefined
  | some c => exact staysStep_conditionalBranch (stays_readPc.then stays_branchTo)

/-- An instruction issued in Debug state moves neither the PC nor the activity. -/
theorem exec_stays (i : Instr) : StaysStep (exec i) := by
  cases i with
  -- Branches, program status registers and hints
  | b => exact staysStep_conditionalBranch (stays_readPc.then stays_branchTo)
  | bl => exact staysStep_conditionalBranch (stays_readPc.then <| stays_writeReg.then stays_branchTo)
  | bx => exact staysStep_conditionalBranch (stays_branchSbo.then <| stays_readReg.then stays_bxWritePc)
  | blxLabel => exact staysStep_always (stays_readPc.then <| stays_writeReg.then <| stays_setT.then <| stays_branchTo)
  | blxReg =>
    exact staysStep_conditionalBranch (stays_branchSbo.then <| stays_unpredictableIf.then <| stays_readReg.then <|
      stays_readPc.then <| stays_writeReg.then stays_bxWritePc)
  | bxj =>
    exact staysStep_conditionalBranch (stays_branchSbo.then <| stays_unpredictableIf.then <|
      stays_readReg.then stays_bxWritePc)
  | mrs =>
    exact staysStep_conditional (stays_shouldBe.then <| stays_unpredictableIf.then <| stays_ite (stays_readSpsr.then <|
      stays_writeReg.then stays_advance) (stays_get.then <| stays_writeReg.then stays_advance))
  | msrReg =>
    exact staysStep_conditional (stays_shouldBe.then <| stays_unpredictableIf.then <| stays_readReg.then stays_moveToStatus)
  | msrImm => exact staysStep_conditional (stays_shouldBe.then stays_moveToStatus)
  | cps => exact staysStep_always (stays_shouldBe.then <| stays_unpredictableIf.then <| stays_changeState.then <| stays_advance)
  | tCps => exact staysStep_always (stays_unpredictableIf.then <| stays_changeState.then stays_advance)
  | setend | tSetend => exact staysStep_always (stays_shouldBe.then <| stays_setE.then stays_advance)
  | nop | yield | hint => exact staysStep_conditional stays_hintOp
  | pldImm u rn imm12 => exact (staysStep_always stays_preload : StaysStep (execPldImm u rn imm12))
  | pldReg => exact staysStep_always stays_preload
  -- Data processing
  | andImm | andRegImm | andRegReg | eorImm | eorRegImm | eorRegReg | subImm | subRegImm | subRegReg | rsbImm | rsbRegImm
  | rsbRegReg | addImm | addRegImm | addRegReg | adcImm | adcRegImm | adcRegReg | sbcImm | sbcRegImm | sbcRegReg | rscImm
  | rscRegImm | rscRegReg | orrImm | orrRegImm | orrRegReg | bicImm | bicRegImm | bicRegReg | cpy =>
    exact staysStep_conditional stays_dataProcessing
  | movImm | movRegImm | movRegReg | mvnImm | mvnRegImm | mvnRegReg => exact staysStep_conditional stays_moveOp
  | tstImm | tstRegImm | tstRegReg | teqImm | teqRegImm | teqRegReg | cmpImm | cmpRegImm | cmpRegReg | cmnImm | cmnRegImm
  | cmnRegReg => exact staysStep_conditional stays_compareOp
  | clz =>
    exact staysStep_conditional (stays_shouldBe.then <| stays_unpredictableIf.then <| stays_readReg.then <|
      stays_writeReg.then stays_advance)
  -- Multiplies
  | mul | smulxy | smulwy =>
    exact staysStep_conditional (stays_shouldBe.then <| stays_unpredictableIf.then <| stays_readReg.then <|
      stays_readReg.then stays_finishWord)
  | mla | smmla | smmls | usada8 =>
    exact staysStep_conditional (stays_unpredictableIf.then <| stays_readReg.then <| stays_readReg.then <|
      stays_readReg.then stays_finishWord)
  | smmul | usad8 | pkhbt | pkhtb =>
    exact staysStep_conditional (stays_unpredictableIf.then <| stays_readReg.then <| stays_readReg.then <| stays_finishWord)
  | smlaxy | smlawy =>
    exact staysStep_conditional (stays_unpredictableIf.then <| stays_readReg.then <| stays_readReg.then <|
      stays_readReg.then stays_finishAccumulate)
  | umull | smull =>
    exact staysStep_conditional (stays_longRestrictions.then <| stays_readReg.then <| stays_readReg.then <| stays_finishLong)
  | umlal | smlal | smlalxy =>
    exact staysStep_conditional (stays_longRestrictions.then <| stays_readReg.then <| stays_readReg.then <|
      stays_readLong.then stays_finishLong)
  | umaal =>
    exact staysStep_conditional (stays_longRestrictions.then <| stays_readReg.then <| stays_readReg.then <|
      stays_readReg.then <| stays_readReg.then stays_finishLong)
  | smuad => exact staysStep_conditional (stays_unpredictableIf.then <| stays_readDual.then stays_finishAccumulate)
  | smusd => exact staysStep_conditional (stays_unpredictableIf.then <| stays_readDual.then stays_finishWord)
  | smlad | smlsd =>
    exact staysStep_conditional (stays_unpredictableIf.then <| stays_readDual.then <| stays_readReg.then <|
      stays_finishAccumulate)
  | smlald | smlsld =>
    exact staysStep_conditional (stays_longRestrictions.then <| stays_readDual.then <| stays_readLong.then stays_finishLong)
  | qadd | qsub | qdadd | qdsub => exact staysStep_conditional stays_saturating
  -- Media
  | sadd16 | qadd16 | shadd16 | uadd16 | uqadd16 | uhadd16 | saddsubx | qaddsubx | shaddsubx | uaddsubx | uqaddsubx
  | uhaddsubx | ssubaddx | qsubaddx | shsubaddx | usubaddx | uqsubaddx | uhsubaddx | ssub16 | qsub16 | shsub16 | usub16
  | uqsub16 | uhsub16 | sadd8 | qadd8 | shadd8 | uadd8 | uqadd8 | uhadd8 | ssub8 | qsub8 | shsub8 | usub8 | uqsub8 | uhsub8 =>
    exact staysStep_conditional stays_parallel
  | sxtb16 | sxtb | sxth | uxtb16 | uxtb | uxth => exact staysStep_conditional stays_extend
  | sxtab16 | sxtab | sxtah | uxtab16 | uxtab | uxtah => exact staysStep_conditional stays_extendAdd
  | rev | rev16 | revsh => exact staysStep_conditional stays_reversal
  | ssat | usat =>
    exact staysStep_conditional (stays_unpredictableIf.then <| stays_readReg.then <| stays_writeReg.then <|
      stays_setQIf.then stays_advance)
  | ssat16 | usat16 =>
    exact staysStep_conditional (stays_shouldBe.then <| stays_unpredictableIf.then <| stays_readReg.then <|
      stays_writeReg.then <| stays_setQIf.then stays_advance)
  | sel =>
    exact staysStep_conditional (stays_shouldBe.then <| stays_unpredictableIf.then <| stays_readReg.then <|
      stays_readReg.then <| stays_get.then stays_finishWord)
  -- Loads
  | ldrImm | ldrReg => exact staysStep_conditional stays_loadWord
  | ldrtImm | ldrtReg | ldrbImm | ldrbReg | ldrbtImm | ldrbtReg => exact staysStep_conditional stays_loadRegister
  | ldrsbImm | ldrhImm | ldrshImm => exact staysStep_conditional (stays_mode3Form.then stays_loadRegister)
  | ldrsbReg | ldrhReg | ldrshReg =>
    exact staysStep_conditional (stays_shouldBe.then <| stays_mode3Form.then stays_loadRegister)
  | ldrdImm | ldrdReg => exact staysStep_conditional stays_loadDouble
  | ldm1 => exact staysStep_conditional stays_loadMultiple
  | ldm2 => exact execLdm2_stays _ _ _ _ _ _
  | ldm3 => exact execLdm3_stays _ _ _ _ _ _
  | rfe => exact execRfe_stays _ _ _ _
  | ldrex | ldrexb | ldrexh => exact staysStep_conditional stays_loadExclusiveReg
  | ldrexd =>
    exact staysStep_conditional (stays_shouldBe.then <| stays_unpredictableIf.then <| stays_readReg.then <|
      stays_loadExclusive.then <| stays_writeReg.then <| stays_writeReg.then stays_advance)
  | clrex => exact staysStep_always (stays_undefinedIf.then <| stays_setLocal.then stays_advance)
  -- Coprocessors
  | mcr => exact execMcr_stays _ _ _ _ _ _ _
  | mrc => exact execMrc_stays _ _ _ _ _ _ _
  | mcrr =>
    exact staysStep_conditional (stays_ite (stays_writeCp15Range.then stays_advance) (stays_raiseUndefined.then stays_advance))
  | ldc =>
    exact staysStep_conditional (stays_dtrOnly.then <| stays_unpredictableIf.then <| stays_readReg.then <|
      stays_loadItem.then <| stays_wdtrWrite.then <| stays_writeBack.then stays_advance)
  -- Exceptions and the undefined rows
  | svc => exact staysStep_conditional stays_raise
  | tSvc => exact staysStep_always stays_raise
  | smc => exact staysStep_conditional (stays_get.then <| stays_undefinedIf.then stays_raise)
  | bkpt => exact staysStep_conditional (stays_unpredictableIf.then stays_softwareBreakpoint)
  | tBkpt => exact staysStep_always stays_softwareBreakpoint
  | mrrc | cdp | undefined3 | undefined4 | undefined5 | undefined6 | undefined7 | undefined8 | undefined9 =>
    exact staysStep_conditional stays_raiseUndefined
  | mcr2 | mrc2 | mcrr2 | mrrc2 | cdp2 | ldc2 | stc2 | undefined1 | undefined2 | tUndefined1 | tUndefined2 | tUndefined3 =>
    exact staysStep_always stays_raiseUndefined
  -- Thumb
  | tLslImm | tLsrImm | tAsrImm => exact staysStep_always (stays_get.then stays_thumbShift)
  | tLslReg | tLsrReg | tAsrReg | tRor => exact staysStep_always stays_thumbShiftReg
  | tAddReg | tSubReg | tMovLow | tAddImm3 | tSubImm3 | tAddImm8 | tSubImm8 | tNeg =>
    exact staysStep_always (stays_get.then stays_thumbAlu)
  | tMovImm => exact staysStep_always stays_thumbAlu
  | tAnd | tEor | tAdc | tSbc | tOrr | tBic | tMvn => exact staysStep_always stays_thumbRegs
  | tCmpImm | tTst | tCmpLow | tCmn => exact staysStep_always (stays_get.then stays_thumbCompare)
  | tMul rm rd => exact (staysStep_always (stays_get.then stays_finishWord) : StaysStep (execTMul rm rd))
  | tAddHigh =>
    exact staysStep_always (stays_unpredictableIf.then <| stays_readReg.then <| stays_readReg.then <| stays_writeHigh)
  | tCmpHigh =>
    exact staysStep_always (stays_unpredictableIf.then <| stays_readReg.then <| stays_readReg.then <| stays_thumbCompare)
  | tMovHigh | tCpy => exact staysStep_always (stays_readReg.then stays_writeHigh)
  | tBx => exact staysStep_always (stays_shouldBe.then <| stays_readReg.then stays_bxWritePc)
  | tBlxReg =>
    exact staysStep_always (stays_shouldBe.then <| stays_unpredictableIf.then <| stays_readReg.then <| stays_readPc.then <|
      stays_writeReg.then stays_bxWritePc)
  | tLdrPc => exact staysStep_always (stays_thumbBase.then stays_thumbLoad)
  | tLdrReg | tLdrImm | tLdrhReg | tLdrhImm | tLdrbReg | tLdrbImm | tLdrsb | tLdrsh | tLdrSp =>
    exact staysStep_always (stays_get.then stays_thumbLoad)
  | tAddPc => exact staysStep_always (stays_thumbBase.then <| stays_writeReg.then stays_advance)
  | tAddSp | tAddSpImm | tSubSpImm => exact staysStep_always (stays_get.then <| stays_writeReg.then stays_advance)
  | tUxth rm rd => exact (staysStep_always stays_thumbUnary : StaysStep (execTUxth rm rd))
  | tUxtb rm rd => exact (staysStep_always stays_thumbUnary : StaysStep (execTUxtb rm rd))
  | tSxth | tSxtb | tRev | tRev16 | tRevsh => exact staysStep_always stays_thumbUnary
  | tPop | tLdmia => exact staysStep_always stays_loadMultiple
  | tBCond => exact execTBCond_stays _ _
  | tB => exact staysStep_always (stays_readPc.then stays_branchTo)
  | tBlFirst => exact staysStep_always (stays_readPc.then <| stays_writeReg.then stays_advance)
  | tBlSecond => exact staysStep_always (stays_get.then <| stays_readPc.then <| stays_writeReg.then stays_branchTo)
  | tBlxSecond =>
    exact staysStep_always (stays_get.then <| stays_readPc.then <| stays_writeReg.then <| stays_setT.then stays_branchTo)
  -- Stores
  | strImm | strReg => exact staysStep_conditional stays_storeWord
  | strtImm | strtReg | strbImm | strbReg | strbtImm | strbtReg => exact staysStep_conditional stays_storeRegister
  | strhImm => exact staysStep_conditional (stays_mode3Form.then stays_storeRegister)
  | strhReg => exact staysStep_conditional (stays_shouldBe.then <| stays_mode3Form.then stays_storeRegister)
  | strdImm | strdReg => exact staysStep_conditional stays_storeDouble
  | stm1 => exact staysStep_conditional stays_storeMultiple
  | stm2 =>
    exact staysStep_conditional (stays_unpredictableIf.then <| stays_bankedOnly.then <| stays_readReg.then <|
      (stays_storedRegs fun _ => stays_readUserReg).then <| stays_storeMulti.then stays_advance)
  | srs p u w mode =>
    refine staysStep_always (stays_get.bind fun s => stays_undefinedIf.then <| stays_readSpsr.then ?_)
    cases Mode.ofBits mode with
    | none => exact stays_refuse
    | some m => exact stays_readReg.then <| stays_storeMulti.then <| stays_ite (stays_setRegOf.then stays_advance) stays_advance
  | swp =>
    exact staysStep_conditional (stays_swapRestrictions.then <| stays_readReg.then <| stays_readReg.then <| stays_get.then <|
      stays_ite (stays_swap.then <| stays_writeReg.then stays_advance) (stays_swap.then <| stays_writeReg.then stays_advance))
  | swpb =>
    exact staysStep_conditional (stays_swapRestrictions.then <| stays_readReg.then <| stays_readReg.then <| stays_swap.then <|
      stays_writeReg.then stays_advance)
  | strex | strexb | strexh => exact staysStep_conditional stays_storeExclusiveReg
  | strexd =>
    exact staysStep_conditional (stays_shouldBe.then <| stays_unpredictableIf.then <| stays_readReg.then <|
      stays_readReg.then <| stays_readReg.then <| stays_storeExclusive.then <| stays_writeReg.then stays_advance)
  | stc =>
    exact staysStep_conditional (stays_dtrOnly.then <| stays_unpredictableIf.then <| stays_readReg.then <| stays_get.then <|
      stays_storeItem.then <| stays_rdtrRead.then <| stays_writeBack.then stays_advance)
  | tStrReg | tStrImm | tStrhReg | tStrhImm | tStrbReg | tStrbImm | tStrSp =>
    exact staysStep_always (stays_get.then stays_thumbStore)
  | tPush => exact staysStep_always stays_storeMultiple
  | tStmia =>
    exact staysStep_always (stays_unpredictableIf.then <| stays_get.then <| stays_thumbStored.then <| stays_storeMulti.then <|
      stays_writeReg.then stays_advance)

/-! ### The entry, the time in Debug state and the exit -/

section

variable {s : State}

/-- In Halting debug-mode a BKPT that debug permits enters Debug state. -/
theorem softwareBreakpoint_halting (hd : s.inDebug = false) (hp : s.debugPermitted = true) (hm : s.dbgMode = .halting) :
    s.softwareBreakpoint = s.enterDebug .bkpt := by
  simp only [State.softwareBreakpoint, State.codeEvent, hd, hp, hm, Bool.not_true, Bool.false_eq_true, if_false,
    Option.getD_some]

/-- In Debug state DBGACK is HIGH. -/
theorem dbgAck_debug (h : s.activity = .debug) : s.dbgAck = true := by
  rewrite [State.dbgAck, shown_eq_self (fun k hk => by rw [h] at hk; cases hk), State.inDebug, h]
  rfl

/-- In Debug state a step of the core lets time pass. -/
theorem step_debug (ha : s.agenda = []) (h : s.activity = .debug)
    (hdma : s.dma.ch0.state ≠ .running ∧ s.dma.ch1.state ≠ .running) : step s = .next (s.idleStep s.pmuEnables) := by
  simp only [step, State.stepOne, ha, State.event, dmaOutcome_idle hdma, State.coreStep, h]

theorem inDebug_iff : s.inDebug = true ↔ s.activity = .debug := beq_iff_eq

/-- In Debug state the next instruction is not the core's to choose. -/
theorem outcome_advance_debug (h : s.inDebug = true) : advance.outcome s = .next s :=
  outcome_ok (congrArg (EStateM.Result.ok ()) (if_pos h))

/-- An addition issued in Debug state writes its register, and nothing else. -/
theorem exec_addImm_debug {c : Cond} {rn rd rot : BitVec 4} {imm8 : BitVec 8} (h : s.inDebug = true)
    (hc : s.condPassed c = true) (hrn : rn ≠ 15) (hrd : rd ≠ 15) :
    exec (.addImm c false rn rd rot imm8) s = .next (s.setReg rd (s.reg rn + rotatedImm rot imm8)) := by
  have hop : (operand2 (.imm rot imm8)).run s = .ok (s.shifter (.imm rot imm8)) s := rfl
  refine (conditional_passed hc _).trans ((outcome_unpredictableIf rfl s _).trans ((outcome_bind_ok hop _).trans
    ((outcome_bind_ok (run_readReg hrn s) _).trans ((outcome_bind_ok (run_get s) _).trans ?_))))
  rw [if_pos hrd]
  exact (outcome_bind_ok (run_writeReg _ _ s) _).trans (outcome_advance_debug h)

/-- Restart leaves Debug state. -/
theorem runTestIdle_restart (hir : s.tap.ir = 0b00100) (h : s.inDebug = true) : s.runTestIdle = .next s.leaveDebug := by
  rewrite [State.runTestIdle, hir, h]
  rfl

theorem step_restart {rest : List Event} (ha : s.agenda = .runTestIdle :: rest) (hir : s.tap.ir = 0b00100)
    (h : s.activity = .debug) : step s = .next ({ s with agenda := rest }.leaveDebug) := by
  simp only [step, State.stepOne, ha]
  exact runTestIdle_restart hir (inDebug_iff.2 h)

/-- The exit to a PC that was written. -/
theorem leaveDebug_written (hw : s.dbg.dbgPcWritten = true) :
    s.leaveDebug = ({ s with activity := .running, pc := s.alignPc s.dbg.dbgPc }.setDscrBit 1 true).setDscrBit 19 false := by
  rw [State.leaveDebug, if_pos hw]

/-- Outside Debug state and outside reset DBGACK is DSCR[10]. -/
theorem dbgAck_running (h : s.activity = .running) : s.dbgAck = s.dbg.dscr.getLsbD 10 := by
  rewrite [State.dbgAck, shown_eq_self (fun k hk => by rw [h] at hk; cases hk), State.inDebug, h]
  rfl

end

/-- Settles O59: BKPT enters, no operation of an instruction moves the PC or the activity, and Restart leaves. -/
theorem debugStateIsEnteredAndLeft : Obligations.DebugStateIsEnteredAndLeft := by
  intro s
  refine ⟨fun imm12 imm4 imm8 hd hp hm => ?enter, fun ha h h0 h1 => step_debug ha h ⟨h0, h1⟩, fun i t h ht => ?stays,
    fun c rn rd rot imm8 h hc hrn hrd => exec_addImm_debug (inDebug_iff.2 h) hc hrn hrd, fun rest ha hir h hw => ?leave⟩
  case enter =>
    intro t
    rw [exec_bkpt, exec_tBkpt, softwareBreakpoint_halting hd hp hm]
    exact ⟨rfl, rfl, dbgAck_debug rfl⟩
  case stays =>
    obtain ⟨hpc, hact⟩ := Prod.mk.inj (exec_stays i s t (inDebug_iff.2 h) ht)
    exact ⟨hpc, hact.trans h⟩
  case leave =>
    have hstep := step_restart ha hir h
    rw [leaveDebug_written (s := { s with agenda := rest }) hw] at hstep
    refine ⟨_, hstep, rfl, rfl, rfl, rfl, rfl, rfl, ?_, (dbgAck_running rfl).trans ?_⟩
    · exact (setBit_getLsbD _ _ _ _ (by decide)).trans (setBit_getLsbD _ _ _ _ (by decide))
    · exact (setBit_getLsbD _ _ _ _ (by decide)).trans (setBit_getLsbD _ _ _ _ (by decide))

end Sys2Proof.DebugState
